-- ==== Sys2Proof/Word.lean ====
section
/-! DEFINITION. The word types of the PX8 and the one shape of every sparse table of the state. -/

namespace Sys2Proof

/-- One byte of memory, a record or a stream (R3: all records are little-endian). -/
abbrev Byte := BitVec 8
/-- One 32-bit lane of a vector register, or a 32-bit register. -/
abbrev Word32 := BitVec 32
/-- One 64-bit register or slot. -/
abbrev Word64 := BitVec 64
/-- A record, a payload or a stream, byte 0 first. -/
abbrev Bytes := List Byte

/-- A sparse table: pairs of a key and a value, keys strictly rising, no value equal to the table's default.
`Machine/Tab.lean` reads and writes it. -/
abbrev Tab (α : Type) := List (Nat × α)

/-- Tile positions, numbered 13p + t (R17, R341). -/
abbrev TileIx := Fin 104
/-- Piers 0 to 7 (R17). -/
abbrev PierIx := Fin 8
/-- Aelli ports 0 to 15 (R17). -/
abbrev PortIx := Fin 16
/-- Pier bridges in floor-plan order (R22). -/
abbrev BridgeIx := Fin 10
/-- Play threads and array partitions (R44). -/
abbrev ThreadIx := Fin 4
/-- Exchange channels of a tile (R59). -/
abbrev ChanIx := Fin 16
/-- Bank units of a tile, numbered 16c + u (R201). -/
abbrev UnitIx := Fin 64
/-- Key-value heads of a tile (R134). -/
abbrev HeadIx := Fin 4

end Sys2Proof
end

