-- ==== Sys2Proof/Machine/Bits.lean ====
section
/-! DEFINITION. Bit fields and byte order (R3): a field [msb:lsb] of a number, little-endian fields of a record, and
saturating counts. -/

namespace Sys2Proof.Machine

/-- Bits [lo + w − 1 : lo] of a number. -/
def bitsAt (n lo w : Nat) : Nat := (n >>> lo) % 2 ^ w

/-- One bit of a number. -/
def bitAt (n i : Nat) : Bool := n.testBit i

/-- A number with bits [lo + w − 1 : lo] replaced. -/
def putBits (n lo w v : Nat) : Nat := n - (bitsAt n lo w <<< lo) + ((v % 2 ^ w) <<< lo)

/-- 1 or 0. -/
def bit (b : Bool) : Nat := if b then 1 else 0

/-- The little-endian value of a list of bytes. -/
def leVal : Bytes → Nat
  | [] => 0
  | b :: r => b.toNat + 256 * leVal r

/-- The big-endian value of a list of bytes (the exceptions of R437). -/
def beVal (bs : Bytes) : Nat := leVal bs.reverse

/-- The n low bytes of a value, least significant first. -/
def leBytes : Nat → Nat → Bytes
  | 0, _ => []
  | n + 1, v => BitVec.ofNat 8 v :: leBytes n (v / 256)

/-- The little-endian field of `size` bytes at offset `off` of a record; bytes past the record's end read 0. -/
def fieldAt (r : Bytes) (off size : Nat) : Nat := leVal ((r.drop off).take size)

/-- A signed number from w bits of two's complement. -/
def signed (w n : Nat) : Int := if n % 2 ^ w < 2 ^ (w - 1) then (n % 2 ^ w : Nat) else (n % 2 ^ w : Nat) - (2 ^ w : Nat)

/-- The w bits of an integer in two's complement. -/
def wrapBits (w : Nat) (i : Int) : Nat := (i % (2 ^ w : Nat)).toNat

/-- A count advanced by n that stays at its w-bit maximum. -/
def satAdd (w c n : Nat) : Nat := min (c + n) (2 ^ w - 1)

/-- The quotient rounded up. -/
def ceilDiv (a b : Nat) : Nat := (a + b - 1) / b

/-- The number of set bits among the low w bits. -/
def popCount (w n : Nat) : Nat := (List.range w).foldl (fun a i => a + bit (n.testBit i)) 0

/-- The lowest set bit among the low w bits, if there is one. -/
def lowestBit (w n : Nat) : Option Nat := (List.range w).find? (fun i => n.testBit i)

/-- The floor of log2 of a number above 0. -/
def floorLog2 (n : Nat) : Nat := Nat.log2 n

end Sys2Proof.Machine
end

