-- ==== Sys2Proof/Machine/Num.lean ====
section
/-! DEFINITION. Number formats, rounding and special values (R76 to R87, R99): every format decodes to an exact value,
and one rounding takes an exact rational to a format. -/

namespace Sys2Proof.Machine

/-- An exact value: a NaN, a signed infinity, or ±m × 2^e. A zero keeps its sign. -/
inductive Val where
  | nan
  | inf (neg : Bool)
  | fin (neg : Bool) (m : Nat) (e : Int)
deriving DecidableEq, Repr

/-- Element formats (R76). -/
inductive Fmt where
  | fp32 | fp16 | bf16 | e4m3 | e5m2 | mxE4m3 | mxE5m2 | mxE3m2 | mxE2m3 | mxE2m1 | mxint8
  | int32 | int8 | int4 | pb4 | ls128
deriving DecidableEq, Repr

/-- The format of a format code; other codes are reserved (R76). -/
def fmtOfCode : Nat → Option Fmt
  | 0x01 => some .fp32 | 0x02 => some .fp16 | 0x03 => some .bf16 | 0x04 => some .e4m3 | 0x05 => some .e5m2
  | 0x08 => some .mxE4m3 | 0x09 => some .mxE5m2 | 0x0A => some .mxE3m2 | 0x0B => some .mxE2m3 | 0x0C => some .mxE2m1
  | 0x0D => some .mxint8 | 0x10 => some .int32 | 0x11 => some .int8 | 0x12 => some .int4 | 0x18 => some .pb4
  | 0x20 => some .ls128 | _ => none

/-- Bits of one element (R76). -/
def fmtBits : Fmt → Nat
  | .fp32 => 32 | .fp16 => 16 | .bf16 => 16 | .e4m3 => 8 | .e5m2 => 8 | .mxE4m3 => 8 | .mxE5m2 => 8
  | .mxE3m2 => 6 | .mxE2m3 => 6 | .mxE2m1 => 4 | .mxint8 => 8 | .int32 => 32 | .int8 => 8 | .int4 => 4
  | .pb4 => 4 | .ls128 => 128

/-- Whether a format carries an MX scale plane (R78). -/
def fmtIsMx : Fmt → Bool
  | .mxE4m3 | .mxE5m2 | .mxE3m2 | .mxE2m3 | .mxE2m1 | .mxint8 => true
  | _ => false

/-- Whether a format is held in blocks of 32 (R76). -/
def fmtBlocked (f : Fmt) : Bool := fmtIsMx f || f == .pb4 || f == .ls128

/-- Formats the array takes as inputs (R76). -/
def fmtArrayInput : Fmt → Bool
  | .fp32 | .int32 | .ls128 => false
  | _ => true

/-- Formats of the 4-bit class (R103). -/
def fmt4bit : Fmt → Bool
  | .mxE2m1 | .int4 | .pb4 => true
  | _ => false

/-- Formats of the 16-bit class (R103). -/
def fmt16bit : Fmt → Bool
  | .fp16 | .bf16 => true
  | _ => false

/-- Formats the MV path takes as weights (R76). -/
def fmtMvWeight (f : Fmt) : Bool := fmtArrayInput f && !fmt16bit f

/-- The parameters of a floating-point format (R79): exponent bits, mantissa bits, bias, whether it has infinity, whether
it has a NaN. -/
structure FloatFmt where
  expBits : Nat
  man : Nat
  bias : Int
  hasInf : Bool
  hasNan : Bool
deriving DecidableEq, Repr

/-- FP32 (R79). -/
def ffFp32 : FloatFmt := ⟨8, 23, 127, true, true⟩
/-- FP16 (R79). -/
def ffFp16 : FloatFmt := ⟨5, 10, 15, true, true⟩
/-- BF16 (R79). -/
def ffBf16 : FloatFmt := ⟨8, 7, 127, true, true⟩
/-- E4M3, whose one NaN is S.1111.111 (R79). -/
def ffE4m3 : FloatFmt := ⟨4, 3, 7, false, true⟩
/-- E5M2 (R79). -/
def ffE5m2 : FloatFmt := ⟨5, 2, 15, true, true⟩
/-- E3M2 (R79). -/
def ffE3m2 : FloatFmt := ⟨3, 2, 3, false, false⟩
/-- E2M3 (R79). -/
def ffE2m3 : FloatFmt := ⟨2, 3, 1, false, false⟩
/-- E2M1 (R79). -/
def ffE2m1 : FloatFmt := ⟨2, 1, 1, false, false⟩

/-- The floating-point element of a format, if its elements are floating-point. -/
def fmtFloat : Fmt → Option FloatFmt
  | .fp32 => some ffFp32 | .fp16 => some ffFp16 | .bf16 => some ffBf16
  | .e4m3 => some ffE4m3 | .mxE4m3 => some ffE4m3 | .e5m2 => some ffE5m2 | .mxE5m2 => some ffE5m2
  | .mxE3m2 => some ffE3m2 | .mxE2m3 => some ffE2m3 | .mxE2m1 => some ffE2m1 | .pb4 => some ffE2m1
  | _ => none

/-- The exponent of the smallest normal value. -/
def ffMinExp (f : FloatFmt) : Int := 1 - f.bias

/-- The largest finite magnitude as mantissa and exponent (R79). -/
def ffMax (f : FloatFmt) : Nat × Int :=
  let top : Int := (2 ^ f.expBits - 1 : Nat)
  if f.hasInf then (2 ^ (f.man + 1) - 1, top - 1 - f.bias - f.man)
  else if f.hasNan then (2 ^ (f.man + 1) - 2, top - f.bias - f.man)
  else (2 ^ (f.man + 1) - 1, top - f.bias - f.man)

/-- The value a bit pattern of a floating-point format has (R79). -/
def ffDecode (f : FloatFmt) (n : Nat) : Val :=
  let sgn := n.testBit (f.expBits + f.man)
  let ex := bitsAt n f.man f.expBits
  let mt := bitsAt n 0 f.man
  let top := 2 ^ f.expBits - 1
  if ex = top ∧ f.hasInf then (if mt = 0 then .inf sgn else .nan)
  else if ex = top ∧ f.hasNan ∧ mt = 2 ^ f.man - 1 then .nan
  else if ex = 0 then .fin sgn mt (ffMinExp f - f.man)
  else .fin sgn (2 ^ f.man + mt) ((ex : Int) - f.bias - f.man)

/-- The sign bit of a pattern. -/
def ffSign (f : FloatFmt) (neg : Bool) : Nat := bit neg <<< (f.expBits + f.man)

/-- The canonical quiet NaN of a format, with sign 0 (R80). -/
def ffNan (f : FloatFmt) : Nat :=
  if f.hasInf then ((2 ^ f.expBits - 1) <<< f.man) + 2 ^ (f.man - 1) else 2 ^ (f.expBits + f.man) - 1

/-- The infinity of a format. -/
def ffInf (f : FloatFmt) (neg : Bool) : Nat := ffSign f neg + ((2 ^ f.expBits - 1) <<< f.man)

/-- The pattern of a magnitude n × 2^q that the format holds, with n below 2^(man + 1) and q the quantum of its binade. -/
def ffPack (f : FloatFmt) (neg : Bool) (n : Nat) (q : Int) : Nat :=
  if n < 2 ^ f.man then ffSign f neg + n
  else ffSign f neg + ((q + f.man + f.bias).toNat <<< f.man) + (n - 2 ^ f.man)

/-- The pattern of the largest finite magnitude with a sign. -/
def ffMaxPat (f : FloatFmt) (neg : Bool) : Nat := ffPack f neg (ffMax f).1 (ffMax f).2

/-- Rounding modes (R85): nearest with ties to even, toward zero, stochastic with k random bits r (R99). -/
inductive RMode where
  | rne | rtz | sr (r k : Nat)
deriving DecidableEq, Repr

/-- num / den rounded to the nearest integer, ties to even. -/
def rneDiv (num den : Nat) : Nat :=
  let q := num / den
  let r := num % den
  if den < 2 * r ∨ (2 * r = den ∧ q % 2 = 1) then q + 1 else q

/-- num / den rounded to an integer in a mode; stochastic rounding takes the step away from zero when r < g, where g is
the fraction of the step in units of 2^−k, rounded to nearest with ties to even (R99). -/
def roundDiv (mode : RMode) (num den : Nat) : Nat :=
  match mode with
  | .rne => rneDiv num den
  | .rtz => num / den
  | .sr r k => if r < rneDiv ((num % den) * 2 ^ k) den then num / den + 1 else num / den

/-- The floor of log2 of num / den, for num above 0. -/
def ratLog2 (num den : Nat) : Int :=
  let g : Int := (Nat.log2 num : Int) - Nat.log2 den
  if 0 ≤ g then (if den * 2 ^ g.toNat ≤ num then g else g - 1)
  else (if den ≤ num * 2 ^ (-g).toNat then g else g - 1)

/-- num / den in units of 2^q. -/
def ratShift (num den : Nat) (q : Int) : Nat × Nat :=
  if 0 ≤ q then (num, den * 2 ^ q.toNat) else (num * 2 ^ (-q).toNat, den)

/-- What a rounding into a floating-point format gives: a finite pattern, or an overflow. -/
inductive RoundRes where
  | ok (pat : Nat)
  | overflow
deriving DecidableEq, Repr

/-- ±num / den rounded once into a format (R85): subnormal results are rounded like any other. -/
def ffRound (f : FloatFmt) (mode : RMode) (neg : Bool) (num den : Nat) : RoundRes :=
  if num = 0 then .ok (ffSign f neg) else
  let q := max (ratLog2 num den) (ffMinExp f) - f.man
  let r := ratShift num den q
  let n := roundDiv mode r.1 r.2
  let nq : Nat × Int := if n = 2 ^ (f.man + 1) then (2 ^ f.man, q + 1) else (n, q)
  let mx := ffMax f
  if mx.2 < nq.2 ∨ (nq.2 = mx.2 ∧ mx.1 < nq.1) then .overflow else .ok (ffPack f neg nq.1 nq.2)

/-- ±m × 2^e as a fraction. -/
def dyadic (m : Nat) (e : Int) : Nat × Nat := if 0 ≤ e then (m * 2 ^ e.toNat, 1) else (m, 2 ^ (-e).toNat)

/-- The flags of R102 as bits: 1 LS_INEXACT, 2 NAN_MADE, 4 SATURATED, 8 CONV_SPECIAL, 16 OVERFLOW_INF. -/
abbrev Flags := Nat
/-- LS_INEXACT. -/
def flLsInexact : Flags := 1
/-- NAN_MADE. -/
def flNanMade : Flags := 2
/-- SATURATED. -/
def flSaturated : Flags := 4
/-- CONV_SPECIAL. -/
def flConvSpecial : Flags := 8
/-- OVERFLOW_INF. -/
def flOverflowInf : Flags := 16

/-- A result of arithmetic rounded into FP32, FP16 or BF16 to nearest with ties to even; an overflow gives infinity and
sets OVERFLOW_INF (R85, R102). -/
def arithRound (f : FloatFmt) : Val → Nat × Flags
  | .nan => (ffNan f, 0)
  | .inf s => (ffInf f s, 0)
  | .fin s m e =>
    match ffRound f .rne s (dyadic m e).1 (dyadic m e).2 with
    | .ok p => (p, 0)
    | .overflow => (ffInf f s, flOverflowInf)

/-- A rational result rounded into FP32, as arithRound. -/
def ratRound (f : FloatFmt) (neg : Bool) (num den : Nat) : Nat × Flags :=
  match ffRound f .rne neg num den with
  | .ok p => (p, 0)
  | .overflow => (ffInf f neg, flOverflowInf)

/-- A conversion into an unblocked floating-point format (R87). -/
def convFloat (f : FloatFmt) (nonsat : Bool) (mode : RMode) : Val → Nat × Flags
  | .nan => (ffNan f, 0)
  | .inf s =>
    if nonsat then (if f.hasInf then (ffInf f s, 0) else (ffNan f, flConvSpecial))
    else (ffMaxPat f s, if f.hasInf then flSaturated else flSaturated ||| flConvSpecial)
  | .fin s m e =>
    match ffRound f mode s (dyadic m e).1 (dyadic m e).2 with
    | .ok p => (p, 0)
    | .overflow =>
      if nonsat then (if f.hasInf then (ffInf f s, flOverflowInf) else (ffNan f, flConvSpecial))
      else (ffMaxPat f s, flSaturated)

/-- A conversion into a w-bit integer format, which always saturates (R84). -/
def convInt (w : Nat) (mode : RMode) : Val → Nat × Flags
  | .nan => (0, flConvSpecial)
  | .inf s => ((if s then 2 ^ (w - 1) else 2 ^ (w - 1) - 1), flSaturated ||| flConvSpecial)
  | .fin s m e =>
    let n := roundDiv mode (dyadic m e).1 (dyadic m e).2
    if s then (if 2 ^ (w - 1) < n then (2 ^ (w - 1), flSaturated) else ((2 ^ w - n) % 2 ^ w, 0))
    else (if 2 ^ (w - 1) ≤ n then (2 ^ (w - 1) - 1, flSaturated) else (n, 0))

/-- The value of a two's-complement element of w bits times 2^e. -/
def intVal (w n : Nat) (e : Int) : Val := let i := signed w n; .fin (decide (i < 0)) i.natAbs e

/-- The value of one element of a format, before any block scale (R79, R81, R84). LS128 is read by `lsVal`. -/
def elemVal (f : Fmt) (n : Nat) : Val :=
  match f with
  | .int32 => intVal 32 n 0
  | .int8 => intVal 8 n 0
  | .int4 => intVal 4 n 0
  | .mxint8 => intVal 8 n (-6)
  | .ls128 => intVal 128 n 0
  | g => match fmtFloat g with
    | some ff => ffDecode ff n
    | none => .nan

/-- A value times 2^k. -/
def Val.scale (v : Val) (k : Int) : Val :=
  match v with
  | .fin s m e => .fin s m (e + k)
  | w => w

/-- An MX element with its E8M0 block scale applied; scale 0xFF makes all 32 values NaN (R81). -/
def mxVal (f : Fmt) (elem scale : Nat) : Val :=
  if scale = 0xFF then .nan else (elemVal f elem).scale ((scale : Int) - 127)

/-- The value of an E5M3 block scale as mantissa and exponent (R79). -/
def e5m3 (b : Nat) : Nat × Int :=
  if b >>> 3 = 0 then (b % 8, -17) else (8 + b % 8, ((b >>> 3 : Nat) : Int) - 18)

/-- A PB4 element from its 144-bit block (R82, R83). -/
def pb4Val (block i : Nat) : Val :=
  let sc := bitsAt block 128 8
  let o := bitsAt (bitsAt block 136 8) (2 * (i / 8)) 2
  if sc = 0xFF then .nan else
  match ffDecode ffE2m1 (bitsAt block (4 * i) 4) with
  | .fin s m e => .fin s (m * (e5m3 sc).1) (e + (e5m3 sc).2 - o)
  | v => v

/-- Element i of a stream of w-bit elements (R77). -/
def streamElem (stream w i : Nat) : Nat := bitsAt stream (w * i) w

/-- A list of w-bit elements as a stream (R77). -/
def packStream (w : Nat) : List Nat → Nat
  | [] => 0
  | a :: r => a % 2 ^ w + 2 ^ w * packStream w r

/-! ### Exact arithmetic and the operations of R49 and R206 -/

/-- A signed integer times 2^e as a value; zero takes the sign given. -/
def intDyadic (i : Int) (e : Int) (zeroNeg : Bool) : Val :=
  if i = 0 then .fin zeroNeg 0 e else .fin (decide (i < 0)) i.natAbs e

/-- The signed mantissa of a finite value in units of 2^q, for q at or below its exponent. -/
def mantAt (s : Bool) (m : Nat) (e q : Int) : Int :=
  let n : Int := (m * 2 ^ (e - q).toNat : Nat)
  if s then -n else n

/-- The exact sum (R86): ∞ − ∞ is invalid; a zero sum of operands of opposite sign is +0 (IEEE 754). -/
def addV : Val → Val → Val × Flags
  | .nan, _ => (.nan, 0)
  | _, .nan => (.nan, 0)
  | .inf a, .inf b => if a = b then (.inf a, 0) else (.nan, flNanMade)
  | .inf a, _ => (.inf a, 0)
  | _, .inf b => (.inf b, 0)
  | .fin s m e, .fin t n d =>
    let q := min e d
    (intDyadic (mantAt s m e q + mantAt t n d q) q (s && t), 0)

/-- The exact product (R86): 0 × ∞ is invalid. -/
def mulV : Val → Val → Val × Flags
  | .nan, _ => (.nan, 0)
  | _, .nan => (.nan, 0)
  | .inf a, .inf b => (.inf (a != b), 0)
  | .inf a, .fin t n _ => if n = 0 then (.nan, flNanMade) else (.inf (a != t), 0)
  | .fin s m _, .inf b => if m = 0 then (.nan, flNanMade) else (.inf (s != b), 0)
  | .fin s m e, .fin t n d => (.fin (s != t) (m * n) (e + d), 0)

/-- The negated value. -/
def negV : Val → Val
  | .nan => .nan
  | .inf a => .inf (!a)
  | .fin s m e => .fin (!s) m e

/-- The magnitude. -/
def absV : Val → Val
  | .nan => .nan
  | .inf _ => .inf false
  | .fin _ m e => .fin false m e

/-- Whether a value is a NaN. -/
def Val.isNan : Val → Bool
  | .nan => true
  | _ => false

/-- a < b as numbers, −0 equal to +0; false with a NaN (R86). -/
def ltV : Val → Val → Bool
  | .nan, _ => false
  | _, .nan => false
  | .inf a, .inf b => a && !b
  | .inf a, .fin _ _ _ => a
  | .fin _ _ _, .inf b => !b
  | .fin s m e, .fin t n d =>
    let q := min e d
    decide (mantAt s m e q < mantAt t n d q)

/-- The sign of a value. -/
def Val.neg : Val → Bool
  | .nan => false
  | .inf s => s
  | .fin s _ _ => s

/-- Whether a is taken as the larger: a > b, or equal with −0 below +0 (R49). -/
def geV (a b : Val) : Bool := ltV b a || (!ltV a b && (!a.neg || b.neg))

/-- MAX and MIN on patterns of one format: a NaN operand gives the canonical NaN (R49, R86). -/
def maxMin (f : FloatFmt) (wantMax : Bool) (a b : Nat) : Nat :=
  let x := ffDecode f a
  let y := ffDecode f b
  if x.isNan || y.isNan then ffNan f else if geV x y = wantMax then a else b

/-- One floating-point operation of three patterns, rounded once (R49, R85, R86). -/
def ffAdd (f : FloatFmt) (a b : Nat) : Nat × Flags :=
  let r := addV (ffDecode f a) (ffDecode f b)
  let p := arithRound f r.1
  (p.1, r.2 ||| p.2)

/-- The product of two patterns, rounded once. -/
def ffMul (f : FloatFmt) (a b : Nat) : Nat × Flags :=
  let r := mulV (ffDecode f a) (ffDecode f b)
  let p := arithRound f r.1
  (p.1, r.2 ||| p.2)

/-- a × b + c of three patterns with one rounding. A NaN operand gives the canonical NaN and no flag (R86), whatever the product is. -/
def ffFma (f : FloatFmt) (a b c : Nat) : Nat × Flags :=
  if (ffDecode f c).isNan then (ffNan f, 0) else
  let r := mulV (ffDecode f a) (ffDecode f b)
  let q := addV r.1 (ffDecode f c)
  let p := arithRound f q.1
  (p.1, r.2 ||| q.2 ||| p.2)

end Sys2Proof.Machine
end

