-- ==== Sys2Proof/Machine/Plg.lean ====
section
/-! DEFINITION. PLG-128, the generator of the random unit (R227 to R234): states are pairs of 64-bit words held as numbers. -/

namespace Sys2Proof.Machine

/-- A PLG-128 state: s0 and s1 (R227). -/
structure Plg where
  s0 : Nat
  s1 : Nat
deriving DecidableEq, Repr

/-- 64-bit rotation to the left. -/
def rotl64 (x r : Nat) : Nat := (x <<< r) % 2 ^ 64 ||| x >>> (64 - r)

/-- One step (R227). -/
def plgStep (s : Plg) : Plg :=
  ⟨s.s1, s.s0 ^^^ (rotl64 s.s1 13 ^^^ (s.s1 <<< 35) % 2 ^ 64 ^^^ s.s1 >>> 9)⟩

/-- n steps. -/
def plgSteps : Nat → Plg → Plg
  | 0, s => s
  | n + 1, s => plgSteps n (plgStep s)

/-- The draw of a state (R228). -/
def plgScramble (s : Plg) : Nat :=
  let x := (s.s0 + (s.s1 ^^^ rotl64 s.s1 27)) % 2 ^ 64
  let y := x ^^^ x >>> 31
  let z := (y * 0xd3a26b9c4f1e8a57) % 2 ^ 64
  z ^^^ z >>> 29

/-- Rounds r to 3 of keymix (R229). -/
def plgMixFrom : Nat → Nat → Plg → Plg
  | 0, _, s => s
  | n + 1, r, s =>
    let t := plgSteps 16 s
    plgMixFrom n (r + 1) { t with s1 := t.s1 ^^^ (plgScramble t + r) % 2 ^ 64 }

/-- The base state of a key under a seed (R229). -/
def plgKeymix (seed key : Nat) : Plg :=
  let k := (seed ^^^ key) % 2 ^ 128
  let s := plgMixFrom 4 0 ⟨k % 2 ^ 64, k / 2 ^ 64⟩
  if s = ⟨0, 0⟩ then ⟨1, 0⟩ else s

/-- The characteristic polynomial P(x) of the step (R227), bit j holding the coefficient of x^j. DEDUCED: computed from the
step; `test_plg_poly` checks it. -/
def plgPoly : Nat := 0x100445054541444000044505454144401

/-- x times a polynomial of degree below 128, modulo P. -/
def plgMulX (a : Nat) : Nat := let b := a <<< 1; if b.testBit 128 then b ^^^ plgPoly else b

/-- The product of two polynomials modulo P, from coefficient i of the second down. -/
def plgMulFrom (a b : Nat) : Nat → Nat → Nat
  | 0, acc => acc
  | i + 1, acc =>
    let d := plgMulX acc
    plgMulFrom a b i (if b.testBit i then d ^^^ a else d)

/-- The square of a polynomial modulo P: J(n + 1) from J(n) (R230). -/
def plgSquare (a : Nat) : Nat := plgMulFrom a a 128 0

/-- A polynomial in the step applied to a state: the sum of step^j over the set coefficients (R230). -/
def plgApply (c : Nat) : Nat → Nat → Plg → Plg → Plg
  | 0, _, _, acc => acc
  | n + 1, j, s, acc =>
    plgApply c n (j + 1) (plgStep s) (if c.testBit j then ⟨acc.s0 ^^^ s.s0, acc.s1 ^^^ s.s1⟩ else acc)

/-- jump(s, n) with the constant J(n) (R230). -/
def plgJump (j : Nat) (s : Plg) : Plg := plgApply j 128 0 s ⟨0, 0⟩

/-- The jumps of slots n to 63 of a skip, the constant in hand being J(n) (R230). -/
def plgSkipFrom (g : Nat) : Nat → Nat → Nat → Plg → Plg
  | 0, _, _, s => s
  | k + 1, n, j, s => plgSkipFrom g k (n + 1) (plgSquare j) (if g.testBit n then plgJump j s else s)

/-- The state g steps on (R230). -/
def plgSkip (s : Plg) (g : Nat) : Plg := plgSkipFrom g 64 0 2 s

/-- draw(k, g) under a seed (R229). -/
def plgDraw (seed key g : Nat) : Nat := plgScramble (plgSkip (plgKeymix seed key) g)

/-- n draws from a state on. -/
def plgDraws : Nat → Plg → List Nat
  | 0, _ => []
  | n + 1, s => plgScramble s :: plgDraws n (plgStep s)

/-- Elements one draw serves (R233). -/
def plgPer (k : Nat) : Nat := if k = 4 then 16 else 21

/-- The random bits of elements E to E + n − 1 of a key (R233), as a list; `first` is the state at group E / per. -/
def plgBits (k n e : Nat) (first : Plg) : List Nat :=
  let per := plgPer k
  let draws := plgDraws (n / per + 2) first
  (List.range n).map (fun j =>
    let p := e % per + j
    bitsAt (draws.getD (p / per) 0) (k * (p % per)) k)

/-- A key from its four words (R231). -/
def plgKey (stream a b c : Nat) : Nat :=
  stream % 2 ^ 32 + ((a % 2 ^ 32) <<< 32) + ((b % 2 ^ 32) <<< 64) + ((c % 2 ^ 32) <<< 96)

end Sys2Proof.Machine
end

