-- ==== Sys2Proof/Machine/TileState.lean ====
section
/-! DEFINITION. The state of one tile that no register shows: threads and traps, plays' slots in hand, channels, array
partitions, MV and attention work, the slice controller, the bank units and the random unit (chapters 3 to 9). Cycles named
`origin` or `cyc` are unit cycles: clock cycles less those a domain freeze has gated (R118). -/

namespace Sys2Proof.Machine

/-- One level of a loop stack (R43). -/
structure Level where
  play : Nat
  left : Nat
deriving DecidableEq, Repr

/-- A slot of a play that has issued and that its unit has not yet taken up: `kind` is its bit of SLOT_MASK (R41). -/
structure Slot where
  kind : Nat
  k : Nat
  cyc : Nat
  idx : Nat
  word : Nat
deriving DecidableEq, Repr

/-- A trap detected and not yet written to SEQ_TRAPn (R63, R64). -/
structure PendTrap where
  code : Nat
  info : Nat
  shared : Bool
  multi : Bool
  idx : Nat
  beat : Nat
  cyc : Nat
deriving DecidableEq, Repr

/-- What a START write changed, kept so that a trap of the same cycle can undo it (R64). -/
structure StartSave where
  cyc : Nat
  trap : List Nat
  stack : List Level
  halted : List Nat
  active : Nat
  shadow : Nat
deriving DecidableEq, Repr

/-- A play thread: its next play index, loop stack, last play issued, the schedule cycle of its next turn, the frame of its
last issue, the plays issued in the frame and whether it ran throughout, a pending STOP, a trap to record. -/
structure Thread where
  pos : Nat
  stack : List Level
  last : Nat
  due : Nat
  frame : Nat
  issued : Nat
  whole : Bool
  stopReq : Bool
  save : Option StartSave
  trap : Option PendTrap
deriving DecidableEq, Repr

/-- A thread that never ran. -/
def Thread.idle : Thread := ⟨0, [], 0, 0, 0, 0, false, false, none, none⟩

/-- An exchange channel: the descriptor in progress as a 256-bit number, its thread, origin, next chunk and, after a trap,
the code to halt with (R57, R61, R253). -/
structure Chan where
  desc : Nat
  k : Nat
  origin : Nat
  next : Nat
  served : Nat
  started : Bool
  halt : Option Nat
deriving DecidableEq, Repr

/-- A channel that never ran. -/
def Chan.idle : Chan := ⟨0, 0, 0, 0, 0, false, none⟩

/-- A weight set: the load's number, rate class and W_FMT (R106), its counts, and the columns and scale planes as streams. -/
structure Wts where
  num : Nat
  cls : Nat
  fmt : Nat
  kCount : Nat
  nCount : Nat
  cols : List Nat
  scales : List Nat
deriving DecidableEq, Repr

/-- A pass in flight: its descriptor, weights, origin, the outputs already written (R113). -/
structure Pass where
  origin : Nat
  desc : Nat
  idx : Nat
  w : Wts
  done : List Nat
deriving DecidableEq, Repr

/-- A load in progress (R114): `bad` once a weight read met an uncorrectable error. -/
structure Load where
  origin : Nat
  w : Wts
  slice : Bool
  bad : Bool
deriving DecidableEq, Repr

/-- An array partition (R104, R114): passes in flight, oldest first, a load, and the two weight sets. -/
structure Part where
  passes : List Pass
  streamEnd : Nat
  load : Option Load
  shadow : Wts
  active : Wts
deriving DecidableEq, Repr

/-- No weights. -/
def Wts.none : Wts := ⟨0, 0, 0, 0, 0, [], []⟩
/-- A partition at reset. -/
def Part.idle : Part := ⟨[], 0, none, Wts.none, Wts.none⟩

/-- An MV descriptor in progress: chunks read so far, the chunks of the groups not yet delivered (R127), and when a hold on its
next chunk began (R128). -/
structure MvRun where
  k : Nat
  idx : Nat
  desc : Nat
  origin : Nat
  held : Option Nat
  chunk : Nat
  group : Nat
  data : List Nat
deriving DecidableEq, Repr

/-- An attention step in progress (R143, R146): `bound` is W_max as its table stood at the origin; its writes to the tile store
and to the shadow are still to land. `ok` once it has passed its checks. -/
structure Attend where
  k : Nat
  idx : Nat
  desc : Nat
  origin : Nat
  bound : Nat
  ran : Bool
  ok : Bool
  writes : List (Nat × Bytes)
  shadow : List (Nat × Bytes)
deriving DecidableEq, Repr

/-- A shadow write-through that is due (R156): the slice offsets and bytes of its records. -/
structure ShadowDue where
  head : Nat
  writes : List (Nat × Bytes)
deriving DecidableEq, Repr

/-- A store-slot move on its way (R51): to a register, or to the tile store. -/
structure StorePend where
  toReg : Bool
  vreg : Nat
  addr : Nat
  k : Nat
  due : Nat
  lanes : List Nat
deriving DecidableEq, Repr

/-- A vector result on its way to its register (R250). -/
structure VecPend where
  dst : Nat
  due : Nat
  lanes : List Nat
deriving DecidableEq, Repr

/-- Where a slice access came from (R171): a window request, a channel, the slice slot of a thread with its chunk and its
tile-store address, a port, the mirror engine. -/
inductive Origin where
  | host (tag : Nat)
  | tile (x : Nat) (c : Nat)
  | own (k chunk addr : Nat)
  | port (q : Nat) (tag : Nat)
  | mirror
deriving DecidableEq, Repr

/-- What an access does at a slice. -/
inductive AccKind where
  | read | write | add (fmt : Nat)
deriving DecidableEq, Repr

/-- A slice access that waits to be served: `due` is the unit cycle of its arrival, `late` says that it has been deferred (R170),
`job` tells the pieces of one source apart. -/
structure Acc where
  src : Origin
  kind : AccKind
  dpa : Nat
  len : Nat
  data : Bytes
  due : Nat
  prio : Bool
  late : Bool
  job : Nat
deriving DecidableEq, Repr

/-- Data read from a slice that leaves the controller 96 cycles after its slice cycle (R168). -/
structure Deliver where
  due : Nat
  acc : Acc
  data : Bytes
  bad : Bool
deriving DecidableEq, Repr

/-- A line of the slice cache (R174): its chunk number within the slice, whether it is dirty, its bytes. -/
structure CLine where
  chunk : Nat
  dirty : Bool
  bad : Bool
  used : Nat
  data : Bytes
deriving DecidableEq, Repr

/-- A slice-slot access in progress (R173): its next chunk, whether a chunk has failed (R187), and when a hold on its next chunk
began (R170). -/
structure SliceRun where
  k : Nat
  word : Nat
  origin : Nat
  next : Nat
  failed : Bool
  held : Option Nat
deriving DecidableEq, Repr

/-- The scrubber (R191): the next line, the end, and whether ABORT has been written. -/
structure Scrub where
  pos : Nat
  stop : Nat
  abort : Bool
deriving DecidableEq, Repr

/-- The slice controller of a tile (R165 to R198). Entries of `prio` and `norm` beyond the first 32 are held at their sources
(R171); `refreshEnd` is a clock cycle; `bandDue` is a band that awaits a slot time (R181). -/
structure Slice where
  inbound : List Acc
  defer : List Acc
  prio : List Acc
  norm : List Acc
  prioRun : Nat
  deliver : List Deliver
  cache : Tab CLine
  cacheClock : Nat
  wbuf : List CLine
  slot : Option SliceRun
  corrected : List Nat
  cands : List Nat
  lastCorr : Tab Nat
  scrub : Option Scrub
  owed : Nat
  restIssued : Bool
  bandDue : Option Nat
  refreshEnd : Nat
deriving DecidableEq, Repr

/-- A slice controller at reset. -/
def Slice.idle : Slice := ⟨[], [], [], [], 0, [], [], 0, [], none, [], [], [], none, 0, false, none, 0⟩

/-- The state of a bank unit (R202, R210). -/
inductive BkuState where
  | idle | running | faulted | frozen
deriving DecidableEq, Repr

/-- A bank unit (R202, R210 to R215). `pc` is its next word and `word` the last one run; `next` is the clock cycle at which the
next word begins, `first` that of the first word, `segStart` that of the segment, which has run `segLen` cycles of words.
`boundary` says that it stands at a segment boundary, with a pause until `pauseEnd` once that is not 0; `owed` counts refreshes of
a rest frame still to be carried out. The store lists the image's words that are not 0. -/
structure Bku where
  st : BkuState
  w : Tab Nat
  s : Tab Nat
  chain : Option Nat
  area : Bytes
  store : Tab Nat
  k : Nat
  pc : Nat
  word : Nat
  begun : Bool
  next : Nat
  first : Nat
  segStart : Nat
  segLen : Nat
  boundary : Bool
  pauseEnd : Nat
  abort : Bool
  ended : Bool
  refPauses : Nat
  holdPauses : Nat
  owed : Nat
deriving DecidableEq, Repr

/-- An empty command area. -/
def areaZero : Bytes := List.replicate 128 0

/-- A bank unit at reset. -/
def Bku.idle : Bku := ⟨.idle, [], [], none, areaZero, [], 0, 0, 0, false, 0, 0, 0, 0, false, 0, false, false, 0, 0, 0⟩

/-- A bank-unit command delivered and not yet carried out (R211, R212): GO at origin + 16 and + 24, PROG at origin + 24. -/
structure BkuCmd where
  go : Bool
  k : Nat
  origin : Nat
  first : Nat
  last : Nat
  image : Bytes
  stage : Nat
deriving DecidableEq, Repr

/-- A value on its way along the chain ring (R203). -/
structure ChainHop where
  toward : Nat
  due : Nat
  value : Nat
deriving DecidableEq, Repr

/-- A context of the random unit (R234, R243): `due` is when OPEN or SEEK ends. -/
structure Ctx where
  key : Nat
  k3 : Bool
  seq : Bool
  opened : Bool
  e : Nat
  busy : Bool
  due : Nat
deriving DecidableEq, Repr

/-- A closed context. -/
def Ctx.closed : Ctx := ⟨0, false, false, false, 0, false, 0⟩

/-- What one image slot keeps of a tile while the other runs (R267). -/
structure SlotCopy where
  bases : List Nat
  pos : List Nat
  loopStacks : List (List Level)
  flags : List Nat
  ctxs : List Ctx
deriving DecidableEq, Repr

/-- A slot copy at reset. -/
def SlotCopy.idle : SlotCopy := ⟨[0, 0, 0, 0, 0, 0, 0], [0, 0, 0, 0], [[], [], [], []], [0, 0, 0, 0],
  [Ctx.closed, Ctx.closed, Ctx.closed, Ctx.closed]⟩

/-- Health, role and retirement reason of a tile position (the floor-plan codes of R28's chapter). -/
structure TileFacts where
  health : Nat
  role : Nat
  reason : Nat
  logical : Nat
  bkuRetired : Nat
  bkuPend : Nat
  vertUsed : Nat
  rowSpares : Nat
  colSpares : Nat
deriving DecidableEq, Repr

/-- The facts of a healthy spare position. -/
def TileFacts.fresh : TileFacts := ⟨0, 1, 0, 0xFFFF, 0, 0, 0, 64, 8⟩

/-- The sequencer, vector unit, tile store and exchange engines of a tile (chapter 3). -/
structure Engine where
  threads : Tab Thread
  slots : List Slot
  latch : Tab Slot
  shift : Tab Nat
  vregs : Tab (List Nat)
  vec : List VecPend
  vecFree : Nat
  stores : List StorePend
  poison : Tab Nat
  suspect : Tab Nat
  suspectBeat : Tab Nat
  remap : Tab Nat
  copying : List (Nat × Nat)
  zeroing : Bool
  chans : Tab Chan
deriving DecidableEq, Repr

/-- The engine at reset. -/
def Engine.idle : Engine := ⟨[], [], [], [], [], [], 0, [], [], [], [], [], [], false, []⟩

/-- One tile. `bases` says which base registers have been written since they were last lost (R70): bits 0 to 3 SEQ_PLAY_BASE of each thread,
bit 4 SEQ_XCH_DESC_BASE, bit 5 ARR_DESC_BASE, bit 6 BKU_CMD_BASE. -/
structure Tile where
  eng : Engine
  parts : Tab Part
  loads : Nat
  mv : List MvRun
  mvEnd : Nat
  sliceEnd : Nat
  attends : List Attend
  shadows : List ShadowDue
  restore : List Nat
  slice : Slice
  units : Tab Bku
  cmds : List BkuCmd
  bankFree : Nat
  chain : List ChainHop
  score : Tab Nat
  ctxs : Tab Ctx
  drawFree : Nat
  draws : List VecPend
  copyA : SlotCopy
  copyB : SlotCopy
  bases : Nat
  facts : TileFacts
deriving DecidableEq, Repr

/-- A tile before power-good. -/
def Tile.idle : Tile :=
  ⟨Engine.idle, [], 0, [], 0, 0, [], [], [], Slice.idle, [], [], 0, [], [], [], 0, [], SlotCopy.idle, SlotCopy.idle, 0,
    TileFacts.fresh⟩

end Sys2Proof.Machine
end

