-- ==== Sys2Proof/Syntax.lean ====
section
/-! DEFINITION. The commands of the PX8: one constructor per row of the table of operations and events. The first operand
`t` of every command is the clock cycle in which it happens; the others are what the outside world, a physical fault or a
measurement brings. -/

namespace Sys2Proof

open Sys2Proof.Machine (Acc)

/-- The view a register access reaches (R332). -/
inductive View where
  | control | job
deriving DecidableEq, Repr

/-- An error met by a read: one that a code corrects, or one it cannot. For a slice `die` is corrected on the die and
`symbol` by the second code (R184); for a SECDED store `die` is its single-bit correction (R54). -/
inductive ErrKind where
  | die | symbol | uncorr
deriving DecidableEq, Repr

/-- A physical error in memory that a read of this command meets: the byte address of its line or row (a slice offset, or a
tile-store address; where the command reads both, 2^34 + a for tile-store address a), and how the codes see it. A slice `loc` of
2^33 + w says that way w of the pier cache is judged faulty (R36). -/
structure MemErr where
  loc : Nat
  kind : ErrKind
deriving DecidableEq, Repr

/-- How a play fetch reads its row (R42, R54). -/
inductive Fetch where
  | clean | corr | uncorr
deriving DecidableEq, Repr

/-- A physical error at a bank unit's word (R223). -/
inductive WordErr where
  | none | store | datapath
deriving DecidableEq, Repr

/-- What a read of host memory brings: the bytes, or a PCIe failure after some of them (R348). -/
inductive HostRead where
  | data (bytes : Bytes)
  | fault (moved : Nat) (bytes : Bytes)
deriving DecidableEq, Repr

/-- What is measured over the frame that ends (R382, R383): module power and each pier's power, in W. -/
structure FrameMeas where
  watts : Nat
  piers : List Nat
deriving DecidableEq, Repr

/-- A cell as its receiver decodes it (R310, R311): FEC 0 clean, 1 corrected, 2 uncorrectable; whether the CRC and the tag match;
KIND, RINDEX, RCPT, STATUS and the deciphered payload. -/
structure Cell where
  fec : Fin 3
  crc : Bool
  tag : Bool
  kind : Fin 4
  rindex : Fin 16
  rcpt : Bool
  status : BitVec 16
  payload : Bytes
deriving DecidableEq, Repr

/-- What a training attempt finds (R322): signal on two lanes; the lanes that pass; whether the group's spare lane passes;
whether a failing lane failed on its bit error ratio; the latency; the partner's identity digest; whether the key exchange
succeeds (R446). -/
structure TrainResult where
  signal : Bool
  lanes : BitVec 4
  spare : Bool
  ber : Bool
  lambda : Nat
  partner : BitVec 64
  session : Bool
deriving DecidableEq, Repr

/-- The width an end of a bridge can run (R325). -/
inductive BridgeWidth where
  | down | serial | main
deriving DecidableEq, Repr

/-- The wire group of each newly failed wire of a bridge's main path, lower to higher pier and back (R21). -/
structure BridgeWires where
  up : List Nat
  down : List Nat
deriving DecidableEq, Repr

/-- A firmware image that verifies (R438): VERSION, SVN, BODY_DIGEST, and its microcode's VERSION and IMAGE_DIGEST (R363). -/
structure FwImage where
  version : BitVec 16
  svn : Nat
  body : BitVec 256
  mcodeVer : BitVec 8
  mcode : BitVec 256
deriving DecidableEq, Repr

/-- A bridge as start-up finds it: failed wires and the widths the two ends report. -/
structure BridgeBoot where
  wires : BridgeWires
  low : BridgeWidth
  high : BridgeWidth
deriving DecidableEq, Repr

/-- What start-up finds (R357 to R364): the time taken; the images (none: fails verification); whether the controller boots, the
stored training values and the repair record are good; piers whose B-die fails; the steppings of each pier (B-die, C-die,
courses); read-only register values from fuses, flash and measurement (field, index, value); failed vertical wires (tile,
group); bridges; tiles that fail their self-test, slices retrained and slices that fail; units (tile, unit) that do not confirm
with the image tried first and with the other; the ship-enabled mask of each pier and the positions fused ABSENT (R20); spare
wires of a position's groups and of a bridge's that fail (R362); the last attempt of each port and the attempts used; the source of the beat (a port, or none for the
reference) and its count, if lock is taken. -/
structure Boot where
  elapsed : Nat
  imageA : Option FwImage
  imageB : Option FwImage
  controller : Bool
  training : Bool
  repairs : Bool
  badDies : List Nat
  steppings : List (Nat × Nat × Nat)
  facts : List (Nat × Nat × Nat)
  vertical : List (Nat × Nat)
  bridges : List BridgeBoot
  logic : List Nat
  retrained : List Nat
  slices : List Nat
  units : List (Nat × Nat)
  units2 : List (Nat × Nat)
  ports : List (Nat × TrainResult)
  beat : Option (Option Nat × Nat)
  ship : List Nat
  absent : List Nat
  deadVert : List (Nat × Nat)
  deadBrg : List (Nat × Nat × Nat)
deriving DecidableEq, Repr

/-- A reset that completes (R366, R367). -/
inductive ResetKind where
  | tile (x : TileIx) | pier (p : PierIx) | compute
deriving DecidableEq, Repr

/-- What a thermal update measures (R397): each pier's power and filler in W. -/
structure ThermalMeas where
  powers : List Nat
  fillers : List Nat
deriving DecidableEq, Repr

/-- A 100 ms window of one pier (R394): power in W, temperatures in units of 1/16 °C. -/
structure RthWindow where
  pmin : Nat
  pmax : Nat
  pmean : Nat
  imin : Nat
  imax : Nat
  imean : Nat
  hot : Nat
  course : Nat
deriving DecidableEq, Repr

/-- A rail's second (R386): i_rms over i_ref in units of 1/256, and the highest temperature over its pier in 1/16 °C. -/
structure RailStress where
  ratio : Nat
  temp : Nat
deriving DecidableEq, Repr

/-- A head as a pairing record gives it (R411): logical tile, head, MIRROR, and DIM, K_FMT, V_FMT, GROUP, DECAY, ROUND, HEAD_KEY,
POOL_PAGES and LT_CAP. -/
structure PairHead where
  tile : Nat
  head : Nat
  mirror : Bool
  cfg : List Nat
deriving DecidableEq, Repr

/-- A pairing record (R411): MIRROR_UNITS, the logical tiles with role COMPUTE, the heads, FRAME_LOG2, the domain's size and the
sender's index in it, the port's and the TWIN section's identities. -/
structure PairRec where
  units : Nat
  tiles : List Nat
  heads : List PairHead
  frameLog2 : Nat
  modules : Nat
  index : Nat
  ident : BitVec 64
deriving DecidableEq, Repr

/-- The transports of SPDM (R443). -/
inductive Transport where
  | doe | mctp
deriving DecidableEq, Repr

/-- PLDM monitoring requests (R497): a numeric sensor (0 inlet, 1 outlet, 2 flow, 3 input voltage, 4 input power, 5 + p HOT and
13 + p COURSE of pier p), the state sensor of an attention class, or any other. -/
inductive Pldm where
  | numeric (n : Fin 21) | state (cls : Fin 8) | other (cmd : BitVec 8)
deriving DecidableEq, Repr

/-- The commands. -/
inductive Instr where
  /-- REGISTER_WRITE (R6): A control-view or job-view write to a register field that has no row of its own acts under its access code. -/
  | registerWrite (t : Nat) (view : View) (off : Nat) (wide : Bool) (value : Word64)
  /-- FLOOR_PLAN_CHANGE (R24): A change to the floor plan is written atomically within 20 us of its cause, and GENERATION advances by 2. -/
  | floorPlanChange (t : Nat)
  /-- PLAY_ISSUE (R503): At a thread's turn the sequencer checks a play and issues it whole, or issues nothing and raises the trap of the failing check. -/
  | playIssue (t : Nat) (x : TileIx) (k : ThreadIx) (fetch : Fetch)
  /-- THREAD_START (R65): A write setting a SEQ_THREAD_CTL.START bit clears the thread's trap record and loop stack and arms it for the next frame boundary. -/
  | threadStart (t : Nat) (x : TileIx) (mask : BitVec 4)
  /-- THREAD_STOP (R71): A write to SEQ_THREAD_CTL.STOP stops a thread at its first turn after the next frame boundary. -/
  | threadStop (t : Nat) (x : TileIx) (mask : BitVec 4)
  /-- VECTOR_ADD (R49): The vector unit adds a and b elementwise. -/
  | vectorAdd (t : Nat) (x : TileIx)
  /-- VECTOR_MUL (R49): The vector unit multiplies a and b elementwise. -/
  | vectorMul (t : Nat) (x : TileIx)
  /-- VECTOR_FMA (R49): The vector unit forms a times b plus c with one rounding. -/
  | vectorFma (t : Nat) (x : TileIx)
  /-- VECTOR_MAX (R49): The vector unit takes the larger of a and b elementwise. -/
  | vectorMax (t : Nat) (x : TileIx)
  /-- VECTOR_MIN (R49): The vector unit takes the smaller of a and b elementwise. -/
  | vectorMin (t : Nat) (x : TileIx)
  /-- VECTOR_CMPLT (R49): The vector unit writes all ones where a is less than b, and 0 elsewhere. -/
  | vectorCmplt (t : Nat) (x : TileIx)
  /-- VECTOR_SEL (R49): The vector unit selects a or b by the bits of c. -/
  | vectorSel (t : Nat) (x : TileIx)
  /-- VECTOR_CVT (R88): The vector unit converts elements between formats, taking stochastic draws where ROUND is 2. -/
  | vectorCvt (t : Nat) (x : TileIx)
  /-- VECTOR_BCAST (R49): The vector unit writes IMM into every element. -/
  | vectorBcast (t : Nat) (x : TileIx)
  /-- VECTOR_EXP2 (R50): The vector unit computes 2 to the power of a, correctly rounded. -/
  | vectorExp2 (t : Nat) (x : TileIx)
  /-- VECTOR_LOG2 (R50): The vector unit computes log2 of a, correctly rounded. -/
  | vectorLog2 (t : Nat) (x : TileIx)
  /-- VECTOR_RCP (R50): The vector unit computes 1/a, correctly rounded. -/
  | vectorRcp (t : Nat) (x : TileIx)
  /-- VECTOR_RSQRT (R50): The vector unit computes 1/sqrt(a), correctly rounded. -/
  | vectorRsqrt (t : Nat) (x : TileIx)
  /-- VECTOR_TANH (R50): The vector unit computes tanh a, correctly rounded. -/
  | vectorTanh (t : Nat) (x : TileIx)
  /-- VECTOR_REDSUM (R49): The vector unit sums the 512 elements of a along a fixed pairwise tree into lane 0. -/
  | vectorRedsum (t : Nat) (x : TileIx)
  /-- VECTOR_RESULT (R250): A vector result becomes visible at issue + 4 or issue + 8. -/
  | vectorResult (t : Nat) (x : TileIx)
  /-- STORE_TO_REGISTER (R51): The store slot reads 32 tile-store rows for a move into a vector register. -/
  | storeToRegister (t : Nat) (x : TileIx) (errs : List MemErr)
  /-- REGISTER_TO_STORE (R51): The store slot reads a vector register for a move into the tile store. -/
  | registerToStore (t : Nat) (x : TileIx)
  /-- STORE_MOVE_COMPLETE (R51): A store-slot move writes the register at issue + 12, or the 32 tile-store rows at issue + 4. -/
  | storeMoveComplete (t : Nat) (x : TileIx)
  /-- TSTORE_REMAP_COPY_DONE (R54): The copy of a remapped row's corrected content to its spare row completes. -/
  | tstoreRemapCopyDone (t : Nat) (x : TileIx) (bank : Fin 64)
  /-- TSTORE_ZEROING_DONE (R56): The zeroing of the tile store at a tile reset completes, and held tile-store accesses may proceed. -/
  | tstoreZeroingDone (t : Nat) (x : TileIx)
  /-- EXCHANGE_START (R59): An exchange START launches a descriptor on a channel of the issuing thread. -/
  | exchangeStart (t : Nat) (x : TileIx)
  /-- EXCHANGE_CHUNK_MOVE (R253): A channel moves chunk j of its descriptor at its assigned cycle toward its destination. -/
  | exchangeChunkMove (t : Nat) (x : TileIx) (c : ChanIx) (errs : List MemErr)
  /-- EXCHANGE_CHANNEL_HALT (R61): After its thread traps, a channel finishes the row in progress and halts with the trap code. -/
  | exchangeChannelHalt (t : Nat) (x : TileIx) (c : ChanIx)
  /-- TRAP_RECORD (R63): A trap's record and beat are written to SEQ_TRAPn, and then the TRAP cause is set in ATT_PENDING. -/
  | trapRecord (t : Nat) (x : TileIx) (k : ThreadIx)
  /-- LOAD (R114): An array LOAD begins filling the partition's shadow weights from a descriptor. -/
  | arrayLoad (t : Nat) (x : TileIx) (errs : List MemErr)
  /-- PASS (R113): An array PASS starts streaming input rows through the partition's weights. -/
  | arrayPass (t : Nat) (x : TileIx)
  /-- PASS_LOAD (R105): A PASS and a LOAD start in the same cycle, with the SWAP acting first. -/
  | arrayPassLoad (t : Nat) (x : TileIx) (errs : List MemErr)
  /-- SHADOW_LOAD_COMPLETE (R114): A load completes at issue + 128, and SHADOW_VALID becomes 1. -/
  | shadowLoadComplete (t : Nat) (x : TileIx) (k : ThreadIx)
  /-- ARRAY_OUTPUT (R113): An output y[i][n] is checked and written to the tile store at its exact time. -/
  | arrayOutput (t : Nat) (x : TileIx) (k : ThreadIx) (pass : Nat) (row : Nat) (col : Nat) (errs : List MemErr)
  /-- ARRAY_PASS_FAULT (R119): A residue mismatch or parity error during a pass or load abandons the partition's work and traps its thread. -/
  | arrayPassFault (t : Nat) (x : TileIx) (k : ThreadIx) (col : Nat) (parity : Bool)
  /-- WEIGHT_PARITY_IDLE (R505): A weight parity error while the partition is idle clears its valid bits without a trap. -/
  | weightParityIdle (t : Nat) (x : TileIx) (k : ThreadIx)
  /-- SHARED_CONTROL_FAULT (R122): A fault in the array's shared control abandons every partition's pass and traps every thread. -/
  | sharedControlFault (t : Nat) (x : TileIx)
  /-- MV_START (R124): An MV START begins streaming a weight matrix from the slice against up to 16 vectors. -/
  | mvStart (t : Nat) (x : TileIx)
  /-- MV_CHUNK_READ (R127): The MV path reads chunk c of its descriptor from the slice at origin + c. -/
  | mvChunkRead (t : Nat) (x : TileIx) (errs : List MemErr)
  /-- MV_GROUP_OUTPUT (R127): The outputs of a group are written to the tile store at origin + e_g + 124. -/
  | mvGroupOutput (t : Nat) (x : TileIx) (errs : List MemErr)
  /-- MV_FAULT (R129): A residue mismatch, overflow or uncorrectable read abandons the MV descriptor and traps the issuing thread. -/
  | mvFault (t : Nat) (x : TileIx) (vec : Fin 16)
  /-- ATTEND (R141): An ATTEND starts one attention step of a key-value head on the MV path. -/
  | attend (t : Nat) (x : TileIx)
  /-- ATTEND_BUDGET_CHECK (R145): The device bounds the step's work against BUDGET, then runs releases, allocation, appends, attention and score updates. -/
  | attendBudgetCheck (t : Nat) (x : TileIx) (errs : List MemErr)
  /-- ATTEND_WRITE_BACK (R146): O, LSE, row status and the length table are in the tile store, and BUSY clears. -/
  | attendWriteBack (t : Nat) (x : TileIx)
  /-- SHADOW_WRITE_THROUGH (R156): The step's changed table entries and the header are written to the head's shadow between STEP_BEGIN and STEP_END. -/
  | shadowWriteThrough (t : Nat) (x : TileIx) (h : HeadIx)
  /-- KV_SHADOW_RESTORE (R157): After a reset, a head's tables are restored from its shadow, or the head is marked LOST. -/
  | kvShadowRestore (t : Nat) (x : TileIx) (h : HeadIx)
  /-- LATCHED_WORK_START (R254): Work held in a unit's one-entry latch because of shift begins when the unit frees. -/
  | latchedWorkStart (t : Nat) (x : TileIx) (unit : Nat)
  /-- INBOUND_ACCESS (R167): A scheduled access from elsewhere is served at a slice, or is deferred to the next open cycle. -/
  | inboundAccess (t : Nat) (x : TileIx) (i : Nat) (errs : List MemErr)
  /-- UNSCHEDULED_REQUEST (R171): An unscheduled request joins a slice's priority or normal queue, or is held at its source while the queue is full. -/
  | unscheduledRequest (t : Nat) (x : TileIx) (req : Acc)
  /-- OPEN_CYCLE_SERVE (R167): An open slice cycle serves deferred inbound accesses, queued requests, cache write-backs or scrubbing, in that precedence. -/
  | openCycleServe (t : Nat) (x : TileIx) (errs : List MemErr)
  /-- REFRESH_SLOT (R182): A 128-cycle refresh slot begins at its beat, refreshing the slice or serving as open cycles. -/
  | refreshSlot (t : Nat) (x : TileIx)
  /-- SLICE_READ_DELIVER (R168): The data of a chunk read in slice cycle c leaves the slice controller at c + 96. -/
  | sliceReadDeliver (t : Nat) (x : TileIx)
  /-- READ (R172): A slice-slot READ starts moving chunks from the tile's own slice to the tile store. -/
  | sliceRead (t : Nat) (x : TileIx)
  /-- WRITE (R172): A slice-slot WRITE starts moving chunks from the tile store to the tile's own slice. -/
  | sliceWrite (t : Nat) (x : TileIx)
  /-- FLUSH (R172): A slice-slot FLUSH writes back dirty slice-cache lines over a range. -/
  | sliceFlush (t : Nat) (x : TileIx)
  /-- INVAL (R172): A slice-slot INVAL invalidates slice-cache and pier-cache lines over a range. -/
  | sliceInval (t : Nat) (x : TileIx)
  /-- FLUSH_INVAL (R172): A slice-slot FLUSH_INVAL writes back and then invalidates lines over a range. -/
  | sliceFlushInval (t : Nat) (x : TileIx)
  /-- SLICE_SLOT_CHUNK (R173): The slice slot serves chunk c in its own cycle at origin + c. -/
  | sliceSlotChunk (t : Nat) (x : TileIx) (errs : List MemErr)
  /-- SCRUB_START (R191): Setting SLC_SCRUB_CTL.START begins a scrub of the range, or sets RANGE_ERR. -/
  | scrubStart (t : Nat) (x : TileIx) (value : Word32)
  /-- SCRUB_ABORT (R191): ABORT stops the scrub at the next chunk. -/
  | scrubAbort (t : Nat) (x : TileIx)
  /-- FLIP_MASK_ARM (R190): Setting ARM arms the corruption of the next full-line write on the chosen path. -/
  | flipMaskArm (t : Nat) (x : TileIx) (value : Word64)
  /-- PCH_INVAL (R200): Setting PCH_INVAL.GO starts an invalidation of pier-cache lines. -/
  | pchInval (t : Nat) (p : PierIx) (value : Word64)
  /-- PCH_INVAL_DONE (R200): A pier-cache invalidation completes, and GO clears. -/
  | pchInvalDone (t : Nat) (p : PierIx)
  /-- GO (R212): A bank-slot GO starts a micro-program on every unit of its span. -/
  | bkuGo (t : Nat) (x : TileIx)
  /-- PROG (R211): A bank-slot PROG sends up to 15 words to the micro-program stores of its span. -/
  | bkuProg (t : Nat) (x : TileIx)
  /-- SYNC (R212): A bank-slot SYNC checks that every unit of its span is IDLE, or traps. -/
  | bkuSync (t : Nat) (x : TileIx)
  /-- ABORT (R212): A bank-slot ABORT stops the running units of its span at their next segment boundary. -/
  | bkuAbort (t : Nat) (x : TileIx)
  /-- BKU_COMMAND_AREA_WRITE (R212): The command areas of the span are written at origin + 16, and the units become RUNNING. -/
  | bkuCommandAreaWrite (t : Nat) (x : TileIx)
  /-- BKU_SEQUENCE_BEGIN (R212): The first micro-program word begins at origin + 24. -/
  | bkuSequenceBegin (t : Nat) (x : TileIx)
  /-- PROG_WORDS_WRITE (R211): The words of a PROG are written into the stores from origin + 24. -/
  | progWordsWrite (t : Nat) (x : TileIx)
  /-- BKU_LD (R206): A bank unit loads block n into a working register. -/
  | bkuLd (t : Nat) (x : TileIx) (u : UnitIx) (e : WordErr) (errs : List MemErr)
  /-- BKU_ST (R206): A bank unit stores a working register to block n. -/
  | bkuSt (t : Nat) (x : TileIx) (u : UnitIx) (e : WordErr)
  /-- BKU_ADD (R206): A bank unit adds two working registers. -/
  | bkuAdd (t : Nat) (x : TileIx) (u : UnitIx) (e : WordErr)
  /-- BKU_MUL (R206): A bank unit multiplies two working registers. -/
  | bkuMul (t : Nat) (x : TileIx) (u : UnitIx) (e : WordErr)
  /-- BKU_FMA (R206): A bank unit forms A times B plus W[DST] with one rounding. -/
  | bkuFma (t : Nat) (x : TileIx) (u : UnitIx) (e : WordErr)
  /-- BKU_MAX (R206): A bank unit takes the larger of A and B. -/
  | bkuMax (t : Nat) (x : TileIx) (u : UnitIx) (e : WordErr)
  /-- BKU_MIN (R206): A bank unit takes the smaller of A and B. -/
  | bkuMin (t : Nat) (x : TileIx) (u : UnitIx) (e : WordErr)
  /-- BKU_SCALE (R206): A bank unit multiplies A by IMM. -/
  | bkuScale (t : Nat) (x : TileIx) (u : UnitIx) (e : WordErr)
  /-- BKU_CVT (R207): A bank unit dequantizes a working register into one or more destinations. -/
  | bkuCvt (t : Nat) (x : TileIx) (u : UnitIx) (e : WordErr)
  /-- BKU_CSEL (R206): A bank unit conditionally replaces elements of W[DST] with those of A. -/
  | bkuCsel (t : Nat) (x : TileIx) (u : UnitIx) (e : WordErr)
  /-- BKU_MOV (R206): A bank unit copies A into W[DST]. -/
  | bkuMov (t : Nat) (x : TileIx) (u : UnitIx) (e : WordErr)
  /-- CHOUT (R206): A bank unit sends A to its ring successor. -/
  | chout (t : Nat) (x : TileIx) (u : UnitIx) (e : WordErr)
  /-- CHIN (R206): A bank unit takes its chain input into W[DST] and clears the valid bit. -/
  | chin (t : Nat) (x : TileIx) (u : UnitIx) (e : WordErr)
  /-- CHADD (R206): A bank unit adds its chain input to A and sends the result on. -/
  | chadd (t : Nat) (x : TileIx) (u : UnitIx) (e : WordErr)
  /-- BKU_SET (R206): A bank unit sets a scalar register to IMM. -/
  | bkuSet (t : Nat) (x : TileIx) (u : UnitIx) (e : WordErr)
  /-- BKU_SADD (R206): A bank unit adds IMM to a scalar register. -/
  | bkuSadd (t : Nat) (x : TileIx) (u : UnitIx) (e : WordErr)
  /-- BKU_LOOP (R206): A bank unit decrements a scalar register and branches while it is non-zero. -/
  | bkuLoop (t : Nat) (x : TileIx) (u : UnitIx) (e : WordErr)
  /-- BKU_END (R206): A bank unit's sequence ends. -/
  | bkuEnd (t : Nat) (x : TileIx) (u : UnitIx) (e : WordErr)
  /-- BKU_WAIT (R206): A bank unit idles for IMM further cycles. -/
  | bkuWait (t : Nat) (x : TileIx) (u : UnitIx) (e : WordErr)
  /-- CHAIN_ARRIVE (R203): A value sent on the chain ring arrives at the successor 8 cycles after it was sent. -/
  | chainArrive (t : Nat) (x : TileIx) (u : UnitIx)
  /-- SEGMENT_BOUNDARY (R213): At a segment boundary a unit serves held accesses, pauses for refresh, aborts or freezes. -/
  | segmentBoundary (t : Nat) (x : TileIx) (u : UnitIx)
  /-- BKU_PAUSE_END (R214): A unit's pause at a segment boundary ends, and it resumes at the next word. -/
  | bkuPauseEnd (t : Nat) (x : TileIx) (u : UnitIx)
  /-- BKU_IDLE (R212): At e + 4 a unit shows IDLE, writes TAG_DONE and its counts, and sets its BKU_READY bit. -/
  | bkuIdle (t : Nat) (x : TileIx) (u : UnitIx)
  /-- OPEN (R235): A random-slot OPEN loads a key into a context and begins forming its base state. -/
  | randomOpen (t : Nat) (x : TileIx)
  /-- SEEK (R238): A random-slot SEEK sets E and begins jumping the context's state. -/
  | randomSeek (t : Nat) (x : TileIx)
  /-- DRAW (R236): A random-slot DRAW produces 256 raw draws for a vector register. -/
  | randomDraw (t : Nat) (x : TileIx)
  /-- OPEN_READY (R238): A context's base state is formed at OPEN + 32, and the context is ready. -/
  | openReady (t : Nat) (x : TileIx) (k : ThreadIx)
  /-- SEEK_READY (R238): A context's state at its group is formed at SEEK + 1,024. -/
  | seekReady (t : Nat) (x : TileIx) (k : ThreadIx)
  /-- DRAW_WRITE (R238): A DRAW writes its vector register at origin + 8. -/
  | drawWrite (t : Nat) (x : TileIx)
  /-- FRAME_BOUNDARY (R244): A clock frame begins: threads start or stop, rest frames take hold, mirror records and checkpoints are sent, and frame checks run. -/
  | frameBoundary (t : Nat) (meas : FrameMeas)
  /-- EPOCH_WORD (R247): A 96-bit epoch word arrives on the reference input and is checked against the count. -/
  | epochWord (t : Nat) (w : BitVec 96)
  /-- HOLDOVER_ENTER (R249): A LOCKED module that loses its source enters HOLDOVER and raises LINK attention. -/
  | holdoverEnter (t : Nat)
  /-- HOLDOVER_EXPIRE (R249): Holdover lasting 131,072 beats expires: the beat becomes LOST, every tile traps, and a hold is requested. -/
  | holdoverExpire (t : Nat)
  /-- REST (R261): A REST message makes its target clock frame a rest frame and is forwarded. -/
  | msgRest (t : Nat) (src : Option PortIx) (issuer : Fin 512) (value : BitVec 15)
  /-- HOLD (R263): A HOLD message makes every frame from its target a rest frame while its issuer holds. -/
  | msgHold (t : Nat) (src : Option PortIx) (issuer : Fin 512) (value : BitVec 15)
  /-- RESUME (R263): A RESUME message ends its issuer's hold from the frame it names. -/
  | msgResume (t : Nat) (src : Option PortIx) (issuer : Fin 512) (value : BitVec 15)
  /-- CLAMP (R265): A CLAMP message adds its issuer to the set of clampers and fixes a freeze beat. -/
  | msgClamp (t : Nat) (src : Option PortIx) (issuer : Fin 512) (value : BitVec 15)
  /-- UNCLAMP (R265): An UNCLAMP message removes its issuer from the set of clampers and fixes resumption once the set is empty. -/
  | msgUnclamp (t : Nat) (src : Option PortIx) (issuer : Fin 512) (value : BitVec 15)
  /-- DOMAIN_FREEZE_BEGIN (R264): At cycle 0 of the freeze beat the module gates its compute units and cell schedulers. -/
  | domainFreezeBegin (t : Nat)
  /-- DOMAIN_FREEZE_END (R264): At the resumption beat every gated unit resumes, and shifted slice cycles follow. -/
  | domainFreezeEnd (t : Nat)
  /-- REQ_REST (R277): Setting BEAT_HOLD.REQ_REST issues one REST. -/
  | reqRest (t : Nat)
  /-- REQ_HOLD (R277): Setting BEAT_HOLD.REQ_HOLD issues HOLD for this module. -/
  | reqHold (t : Nat)
  /-- REQ_RESUME (R277): Setting BEAT_HOLD.REQ_RESUME issues RESUME of this module's hold. -/
  | reqResume (t : Nat)
  /-- RAMP_BOUNDARY (R270): At a ramp boundary the power target moves by at most STEP toward the plan, and a rest frame may be requested. -/
  | rampBoundary (t : Nat)
  /-- CELL_SLOT_SEND (R316): A port fills an outbound cell slot by its map entry's USE, or with a RESEND in a let slot. -/
  | cellSlotSend (t : Nat) (q : PortIx)
  /-- CELL_RECEIVE (R311): A cell arrives and is decoded, checked by CRC and tag, and held until its release time. -/
  | cellReceive (t : Nat) (q : PortIx) (slot : Nat) (cell : Cell)
  /-- CELL_RELEASE (R256): A received cell is released at its fixed release time and acted on. -/
  | cellRelease (t : Nat) (q : PortIx)
  /-- NAK (R314): A NAK field marks forward cells not received intact, so that their originals are resent in let slots. -/
  | cellNak (t : Nat) (q : PortIx) (slots : List Nat)
  /-- RECEIPT (R318): A receipt is matched to the requester's queue, and a failed outcome traps the channel's thread. -/
  | cellReceipt (t : Nat) (q : PortIx) (status : BitVec 16)
  /-- PARTNER_DETECT (R322): An UNTRAINED port sees a partner's signal and begins training. -/
  | partnerDetect (t : Nat) (q : PortIx)
  /-- TRAINING_ATTEMPT_END (R322): A port training attempt ends with the port at X4 or X2, or failed. -/
  | trainingAttemptEnd (t : Nat) (q : PortIx) (res : TrainResult)
  /-- PORT_LOCK_LOSS (R323): 16 consecutive blocks failing cell 0's CRC take the port DOWN for retraining. -/
  | portLockLoss (t : Nat) (q : PortIx)
  /-- SESSION_DROP (R311): 8 tag failures in one frame drop the port's session, and the port retrains. -/
  | sessionDrop (t : Nat) (q : PortIx)
  /-- LINK_RETRAIN (R328): Setting LNK_CTLp.RETRAIN retrains the port. -/
  | linkRetrain (t : Nat) (q : PortIx)
  /-- PORT_DISABLE (R328): Setting LNK_CTLp.DISABLE holds the port DOWN with reason DISABLED. -/
  | portDisable (t : Nat) (q : PortIx)
  /-- BRIDGE_HANDSHAKE_TRY (R325): A bridge width handshake try exchanges reported and governing widths over the fall-back lanes. -/
  | bridgeHandshakeTry (t : Nat) (b : BridgeIx) (low high : BridgeWidth) (govLow govHigh : BridgeWidth)
  /-- BRIDGE_RETRAIN (R329): Setting BRG_CTLb.RETRAIN retrains the bridge. -/
  | bridgeRetrain (t : Nat) (b : BridgeIx)
  /-- BRIDGE_RETRAIN_DONE (R326): A bridge retrain completes with an agreed WIDTH. -/
  | bridgeRetrainDone (t : Nat) (b : BridgeIx) (wires : BridgeWires)
  /-- BRIDGE_FALLBACK (R327): Parity failures reaching 4 in a group switch the bridge to its fall-back path. -/
  | bridgeFallback (t : Nat) (b : BridgeIx) (up : Bool)
  /-- SUBMISSION_FETCH (R346): The device fetches a submission record from the ring and starts it in order. -/
  | submissionFetch (t : Nat) (rec : HostRead)
  /-- NOP (R345): A NOP submission replies OK. -/
  | subNop (t : Nat) (i : Nat)
  /-- COPY_IN (R345): COPY_IN moves bytes from host memory to the device, decrypting them if SEALED is set. -/
  | copyIn (t : Nat) (i : Nat) (src : HostRead)
  /-- COPY_OUT (R345): COPY_OUT moves bytes from the device to host memory. -/
  | copyOut (t : Nat) (i : Nat) (failAt : Option Nat) (errs : List MemErr)
  /-- ACTIVATE (R349): ACTIVATE loads an image into a slot and checks it. -/
  | activate (t : Nat) (i : Nat) (src : HostRead)
  /-- START (R345): A START submission starts the image's threads at a clock frame. -/
  | subStart (t : Nat) (i : Nat)
  /-- STOP (R345): A STOP submission stops the image's threads at a clock frame. -/
  | subStop (t : Nat) (i : Nat)
  /-- SAVE (R345): SAVE writes a slot's sealed context to host memory at its next pre-emption point. -/
  | subSave (t : Nat) (i : Nat) (failAt : Option Nat)
  /-- RESTORE (R345): RESTORE restores a slot's context from host memory, with the image checks. -/
  | subRestore (t : Nat) (i : Nat) (src : HostRead)
  /-- UNLOAD (R345): UNLOAD empties an image slot. -/
  | unload (t : Nat) (i : Nat)
  /-- REPLY_RECORD (R347): A completion reply record is written to the reply ring in one posted write. -/
  | replyRecord (t : Nat) (ok : Bool)
  /-- HEARTBEAT (R342): A HEARTBEAT record is written after HB_US without a reply, or within 2 us of a rise in attention class. -/
  | heartbeat (t : Nat) (ok : Bool)
  /-- RING_OPEN (R343): Setting FRONT_RING_CTL.OPEN opens both rings and zeroes their indices, or sets RING_ERR. -/
  | ringOpen (t : Nat) (value : Word64)
  /-- RING_CLOSE (R343): Clearing OPEN stops the fetching of submissions. -/
  | ringClose (t : Nat) (value : Word64)
  /-- SQ_TAIL_WRITE (R350): A write to FRONT_SQ_PTRS.TAIL passes submissions to the device. -/
  | sqTailWrite (t : Nat) (value : Word32)
  /-- RQ_HEAD_WRITE (R350): A write to FRONT_RQ_PTRS.HEAD returns reply entries to the device. -/
  | rqHeadWrite (t : Nat) (value : Word32)
  /-- WINDOW_READ (R351): A BAR4 read is translated and queued as an unscheduled read. -/
  | windowRead (t : Nat) (off : BitVec 36) (len : Nat)
  /-- WINDOW_WRITE (R351): A BAR4 write is translated and queued as a normal-class unscheduled write. -/
  | windowWrite (t : Nat) (off : BitVec 36) (data : Bytes)
  /-- WINDOW_READ_DEADLINE (R352): A window read not served within 40 us completes poisoned with the failure recorded. -/
  | windowReadDeadline (t : Nat) (i : Nat)
  /-- FLR (R354): A function-level reset clears the rings and window and aborts host-memory submissions. -/
  | flr (t : Nat)
  /-- HOT_RESET (R354): A PCIe hot reset acts as an FLR does. -/
  | hotReset (t : Nat)
  /-- PCIE_LINK_DOWN (R354): A PCIe link-down acts as an FLR does. -/
  | pcieLinkDown (t : Nat)
  /-- POWER_GOOD (R357): The rising edge of power-good starts start-up on the fast or full path. -/
  | powerGood (t : Nat) (boot : Boot)
  /-- MICROCODE_CHUNK (R363): A bank unit receives a microcode chunk record, checks its digest and confirms once the image is whole. -/
  | microcodeChunk (t : Nat) (x : TileIx) (u : UnitIx) (rec : Bytes)
  /-- TILE_RESET (R366): A SYS_RESET write of KIND 1 resets one tile position. -/
  | tileReset (t : Nat) (p : PierIx) (pos : Fin 13)
  /-- PIER_RESET (R366): A SYS_RESET write of KIND 2 resets one pier. -/
  | pierReset (t : Nat) (p : PierIx)
  /-- COMPUTE_RESET (R367): A SYS_RESET write of KIND 3 resets all eight piers and the bank-unit stores. -/
  | computeReset (t : Nat)
  /-- MODULE_RESET (R365): A module reset restarts start-up from step 1. -/
  | moduleReset (t : Nat) (cause : Fin 8) (boot : Boot)
  /-- COLD_START (R365): Power-good after a loss of input power or after a latched trip starts everything afresh. -/
  | coldStart (t : Nat) (boot : Boot)
  /-- RESET_COMPLETE (R366): A tile, pier or compute reset completes, and SYS_RESET_STATUS.BUSY clears. -/
  | resetComplete (t : Nat) (kind : ResetKind)
  /-- WATCHDOG_EXPIRY (R432): The system-controller watchdog expires and causes a module reset. -/
  | watchdogExpiry (t : Nat) (boot : Boot)
  /-- REQ_RUNNING (R370): A SYS_POWER.REQ write of 0 requests the running state. -/
  | reqRunning (t : Nat)
  /-- REQ_WARM_IDLE (R370): A SYS_POWER.REQ write of 1 requests warm idle, or is refused. -/
  | reqWarmIdle (t : Nat)
  /-- REQ_STANDBY (R370): A SYS_POWER.REQ write of 2 requests standby, or is refused. -/
  | reqStandby (t : Nat)
  /-- REQ_PARK (R370): A SYS_POWER.REQ write of 3 requests park, or is refused. -/
  | reqPark (t : Nat)
  /-- POWER_STATE_CHANGE_DONE (R370): The entry to or exit from a low-power state completes, and MOVING clears. -/
  | powerStateChangeDone (t : Nat) (retired : List Nat)
  /-- SENSOR_SAMPLE (R392): A sensor is sampled and checked against the model, and may be retired. -/
  | sensorSample (t : Nat) (i : Fin 1332) (reading : Option (BitVec 12))
  /-- THERMAL_MODEL_UPDATE (R397): Every 250 us the pier model corrects, predicts 5 ms ahead, and calls a clamp or a rest. -/
  | thermalModelUpdate (t : Nat) (meas : ThermalMeas)
  /-- RTH_WINDOW (R394): A steady 100 ms window updates each pier's measured thermal resistance. -/
  | rthWindow (t : Nat) (win : List RthWindow)
  /-- CAP_UPDATE (R394): Every 10 ms each pier's power cap is recomputed. -/
  | capUpdate (t : Nat)
  /-- KEEP_WARM_UPDATE (R388): Every 10 ms each pier's keep-warm need rises or falls by 10 W. -/
  | keepWarmUpdate (t : Nat)
  /-- LEDGER_UPDATE (R386): Every second the wear ledger accrues stress and decides whether boost is withheld. -/
  | ledgerUpdate (t : Nat) (rails : List RailStress) (cycles : List Nat) (hours : Nat)
  /-- LEDGER_WRITE_BACK (R386): Every 10 minutes the wear ledger is written back to flash. -/
  | ledgerWriteBack (t : Nat)
  /-- HOLDUP_CHECK (R381): Every 24 hours a controlled discharge measures the hold-up energy and sets OK. -/
  | holdupCheck (t : Nat) (energy : BitVec 12) (ok : Bool)
  /-- POWER_FAIL (R380): Input below 40 V for 20 us cuts the compute rails and starts the Scorebook flush on hold-up. -/
  | powerFail (t : Nat)
  /-- INPUT_RANGE_CHANGE (R385): The input leaving or entering its operating range raises or lowers INPUT and withholds boost. -/
  | inputRangeChange (t : Nat) (volts : BitVec 8)
  /-- INPUT_OVERPOWER (R380): Input power above 3,900 W averaged over 100 us calls the emergency clamp. -/
  | inputOverpower (t : Nat)
  /-- PHASE_FAIL (R379): A regulator phase fails, and a spare replaces it or the rail's limit falls. -/
  | phaseFail (t : Nat) (course : Bool) (p : PierIx)
  /-- COOLANT_PRESSURE_ASSERT (R493): The coolant-pressure input asserts, letting start-up proceed to step 3. -/
  | coolantPressureAssert (t : Nat)
  /-- COOLANT_PRESSURE_DEASSERT (R493): The coolant-pressure input deasserts, and the pressure timers begin. -/
  | coolantPressureDeassert (t : Nat)
  /-- PRESSURE_CLAMP_TIMEOUT (R398): Pressure deasserted for 1 ms calls the emergency clamp. -/
  | pressureClampTimeout (t : Nat)
  /-- COOLANT_LOSS_SHUTDOWN (R401): A clamp lasting 1 s, or pressure lost for 200 ms, shuts the compute rails down into standby. -/
  | coolantLossShutdown (t : Nat)
  /-- BOOST_INTERVAL_END (R382): A boost interval ends 2 s after it opened, and the cooldown runs on. -/
  | boostIntervalEnd (t : Nat)
  /-- COOLDOWN_END (R382): 8 s without a frame above SUSTAINED_W ends the cooldown. -/
  | cooldownEnd (t : Nat)
  /-- COMMISSION_START (R396): Setting THM_COMMISSION.START begins the step test. -/
  | commissionStart (t : Nat)
  /-- COMMISSION_DONE (R396): The step test ends, storing the fitted model and nominal values, or setting FAIL. -/
  | commissionDone (t : Nat) (fit : Option (List Nat))
  /-- TRIP_RECORD_CLEAR (R406): Clearing THM_TRIP.VALID clears the trip record in flash. -/
  | tripRecordClear (t : Nat)
  /-- BOND_STREAM_LOAD (R297): A write of 1 to BND_CTL.LOAD starts a Bond Stream load. -/
  | bondStreamLoad (t : Nat)
  /-- BOND_STREAM_READ (R297): The stream has been read over PCIe, and the header, sections, digests and validation run until the load takes effect or is rejected. -/
  | bondStreamRead (t : Nat) (src : HostRead)
  /-- SUBST_ZEROING_DONE (R305): The zeroing of a substituted spare's slice completes, and the load takes effect. -/
  | substZeroingDone (t : Nat)
  /-- PAIRING_RECORD (R411): A pairing record is received over a mirror port and checked, and the pair forms or is refused. -/
  | pairingRecord (t : Nat) (rec : PairRec)
  /-- MIRROR_HEARTBEAT_SEND (R423): A mirror HEARTBEAT is sent at each beat that is a multiple of 256. -/
  | mirrorHeartbeatSend (t : Nat)
  /-- HEARTBEAT_MISSED (R424): No heartbeat by beat b + 128 counts as missed and may declare partner loss. -/
  | heartbeatMissed (t : Nat)
  /-- MIRROR_HEARTBEAT (R416): A received mirror HEARTBEAT confirms records up to ACK_SEQ and reports the partner's state. -/
  | mirrorHeartbeat (t : Nat) (q : PortIx) (rec : Bytes)
  /-- PAGE (R419): A PAGE record's chunks are applied in mirror-window cycles, after undo logging. -/
  | mirrorPage (t : Nat) (q : PortIx) (rec : Bytes)
  /-- PTE (R419): A PTE record is applied to the mirror region, after undo logging. -/
  | mirrorPte (t : Nat) (q : PortIx) (rec : Bytes)
  /-- LTE (R419): An LTE record is applied to the mirror region, after undo logging. -/
  | mirrorLte (t : Nat) (q : PortIx) (rec : Bytes)
  /-- CONTEXT (R419): A CONTEXT record is staged in the uncommitted context bank. -/
  | mirrorContext (t : Nat) (q : PortIx) (rec : Bytes)
  /-- CARRY (R419): A CARRY record is staged in the uncommitted carry bank. -/
  | mirrorCarry (t : Nat) (q : PortIx) (rec : Bytes)
  /-- END (R419): An END record commits its epoch once every record of the epoch is applied. -/
  | mirrorEnd (t : Nat) (q : PortIx) (rec : Bytes)
  /-- VOID (R421): A VOID record rolls the receiver back to its last commit, and a resync follows. -/
  | mirrorVoid (t : Nat) (q : PortIx) (rec : Bytes)
  /-- HANDOVER (R428): A HANDOVER record arms the replacement's slot A at the named frame. -/
  | mirrorHandover (t : Nat) (q : PortIx) (rec : Bytes)
  /-- TAKEOVER (R426): Setting TWN_CTL.TAKEOVER declares partner loss and starts takeover. -/
  | takeover (t : Nat)
  /-- TAKEOVER_RESTORE_DONE (R426): Committed tables and context are restored into slot B, and the state becomes DUTY_READY or NO_RESUME. -/
  | takeoverRestoreDone (t : Nat)
  /-- BACKFILL (R429): Setting TWN_CTL.BACKFILL starts back-fill of the replacement. -/
  | backfill (t : Nat)
  /-- BACKFILL_PASS (R429): A back-fill pass resends changed slots and table entries, and may reach CAUGHT_UP. -/
  | backfillPass (t : Nat)
  /-- TWIN_RELEASE (R425): Setting TWN_CTL.RELEASE stops slot B at its next pre-emption point and returns to WAITING. -/
  | twinRelease (t : Nat)
  /-- LOAD_KEY (R448): LOAD_KEY checks a key package and places its key in a slot. -/
  | loadKey (t : Nat) (len : Nat) (src : HostRead)
  /-- EVICT_KEY (R455): EVICT_KEY empties a key slot. -/
  | evictKey (t : Nat) (slot : BitVec 6)
  /-- UNSEAL (R451): UNSEAL starts zeroing a range of sealed granules. -/
  | quoUnseal (t : Nat) (count : Nat)
  /-- UNSEAL_DONE (R451): The zeroing of the granules completes and their seal bits clear. -/
  | unsealDone (t : Nat)
  /-- ENROL (R440): ENROL records the owner key after proof of possession. -/
  | enrol (t : Nat) (len : Nat) (src : HostRead)
  /-- RELEASE (R441): RELEASE checks a release record, clears the enrolment and resets the module. -/
  | quoRelease (t : Nat) (len : Nat) (src : HostRead) (boot : Boot)
  /-- DEBUG_NONCE (R454): DEBUG_NONCE draws a fresh nonce into QUO_NONCE. -/
  | debugNonce (t : Nat)
  /-- DEBUG_OPEN (R454): DEBUG_OPEN checks a doubly signed token and opens its debug scopes. -/
  | debugOpen (t : Nat) (len : Nat) (src : HostRead)
  /-- DEBUG_CLOSE (R454): DEBUG_CLOSE closes every open debug scope. -/
  | debugClose (t : Nat)
  /-- EXTEND (R442): EXTEND extends a host measurement register with a digest. -/
  | quoExtend (t : Nat) (len : Nat) (reg : BitVec 6) (src : HostRead)
  /-- FW_STAGE (R439): FW_STAGE verifies a new firmware image and writes it as image A, keeping the old one as image B. -/
  | fwStage (t : Nat) (len : Nat) (src : HostRead)
  /-- COMMIT_SVN (R439): COMMIT_SVN raises SVN_FUSED to the running image's SVN. -/
  | commitSvn (t : Nat)
  /-- TRNG_HEALTH_FAIL (R456): The TRNG's continuous health test fails, and TRNG_OK reads 0. -/
  | trngHealthFail (t : Nat)
  /-- GET_VERSION (R444): Quoin answers an SPDM GET_VERSION. -/
  | getVersion (t : Nat) (tr : Transport) (req : Bytes)
  /-- GET_CAPABILITIES (R444): Quoin answers an SPDM GET_CAPABILITIES. -/
  | getCapabilities (t : Nat) (tr : Transport) (req : Bytes)
  /-- NEGOTIATE_ALGORITHMS (R443): Quoin selects the SM algorithms, or answers ERROR. -/
  | negotiateAlgorithms (t : Nat) (tr : Transport) (req : Bytes)
  /-- GET_DIGESTS (R444): Quoin returns its certificate-chain digests. -/
  | getDigests (t : Nat) (tr : Transport) (req : Bytes)
  /-- GET_CERTIFICATE (R444): Quoin returns a certificate chain from slot 0 or 1. -/
  | getCertificate (t : Nat) (tr : Transport) (req : Bytes)
  /-- CHALLENGE (R445): Quoin answers CHALLENGE_AUTH signed with the alias key. -/
  | challenge (t : Nat) (tr : Transport) (req : Bytes)
  /-- GET_MEASUREMENTS (R445): Quoin reports its measurement registers, signed on request. -/
  | getMeasurements (t : Nat) (tr : Transport) (req : Bytes)
  /-- KEY_EXCHANGE (R444): Quoin begins an SPDM session, or refuses a fifth one. -/
  | keyExchange (t : Nat) (tr : Transport) (req : Bytes)
  /-- FINISH (R444): Quoin completes an SPDM session handshake. -/
  | finish (t : Nat) (tr : Transport) (req : Bytes)
  /-- SPDM_HEARTBEAT (R444): Quoin answers an SPDM session HEARTBEAT. -/
  | spdmHeartbeat (t : Nat) (tr : Transport) (req : Bytes)
  /-- KEY_UPDATE (R444): Quoin updates an SPDM session's keys. -/
  | keyUpdate (t : Nat) (tr : Transport) (req : Bytes)
  /-- END_SESSION (R444): Quoin ends an SPDM session. -/
  | endSession (t : Nat) (tr : Transport) (req : Bytes)
  /-- RESPOND_IF_READY (R444): Quoin answers a deferred SPDM request. -/
  | respondIfReady (t : Nat) (tr : Transport) (req : Bytes)
  /-- SPDM_UNSUPPORTED_REQUEST (R444): Any other SPDM request receives ERROR UnsupportedRequest. -/
  | spdmUnsupportedRequest (t : Nat) (tr : Transport) (req : Bytes)
  /-- FREEZE (R464): Setting SCB_CTL.FREEZE stops updates to a compact area and queues occurrences aside. -/
  | scbFreeze (t : Nat)
  /-- THAW (R464): THAW applies the aside queue and resumes updates. -/
  | scbThaw (t : Nat)
  /-- AUTO_THAW (R464): The area thaws by itself after 100 ms, on a full queue or on a flush trigger. -/
  | scbAutoThaw (t : Nat)
  /-- FLUSH_REQUEST (R467): Setting SCB_CTL.FLUSH requests a flush of the area to flash. -/
  | flushRequest (t : Nat)
  /-- FLUSH_TIMER (R467): 600 s since the last completed flush triggers a flush. -/
  | flushTimer (t : Nat)
  /-- FLUSH_COMPLETE (R467): A flush image with its digest is complete in flash, and FLUSHES advances. -/
  | flushComplete (t : Nat) (ok : Bool)
  /-- CLEAR (R470): CLEAR empties the record of the selected code. -/
  | scbClear (t : Nat)
  /-- CLEAR_ALL (R470): CLEAR_ALL empties every record. -/
  | scbClearAll (t : Nat)
  /-- BUCKET_REFILL (R461): A code's token bucket gains RATE tokens per second, up to BURST. -/
  | bucketRefill (t : Nat) (code : BitVec 12)
  /-- SCB_DATA_READ (R463): A read of SCB_DATA returns bytes of the area at the cursor and may advance it. -/
  | scbDataRead (t : Nat) (size : Nat) (off : Nat)
  /-- MARGIN_START (R474): Setting MRG_CTL.START begins a margin run, or refuses it. -/
  | marginStart (t : Nat)
  /-- MARGIN_STEP (R475): A margin step's dwell ends and it is judged, advancing or ending the run. -/
  | marginStep (t : Nat) (pass : Bool) (worst : BitVec 9) (spareErrs : Nat)
  /-- MARGIN_ABORT (R477): ABORT returns the offsets to centre and ends the run. -/
  | marginAbort (t : Nat)
  /-- PCIE_LANE_MARGIN (R478): A PCIe Lane Margining at the Receiver command is carried out on the link. -/
  | pcieLaneMargin (t : Nat) (lane : Fin 16) (cmd : BitVec 16)
  /-- MATE_MAKE (R487): Both MATE contacts make, and the 50 ms debounce begins. -/
  | mateMake (t : Nat)
  /-- PRECHARGE_START (R487): After the debounce with input at 40 V or above, the precharge path closes. -/
  | prechargeStart (t : Nat)
  /-- PRECHARGE_END (R487): The internal bus comes within 2 V of the input, and the main path closes. -/
  | prechargeEnd (t : Nat)
  /-- MATE_BREAK (R488): A MATE contact broken for 20 us opens both paths as a power fail. -/
  | mateBreak (t : Nat)
  /-- PERST_ASSERT (R496): An assertion of PERST# after a first deassertion is a fundamental reset. -/
  | perstAssert (t : Nat) (boot : Boot)
  /-- PERST_DEASSERT (R496): Deassertion of PERST# lets the PCIe link train. -/
  | perstDeassert (t : Nat)
  /-- SURPRISE_REMOVAL (R355): The module is removed, and host reads return all ones. -/
  | surpriseRemoval (t : Nat)
  /-- ENTDAA (R497): The I3C target accepts a dynamic address from the rack controller. -/
  | entdaa (t : Nat) (addr : BitVec 7)
  /-- PLDM_REQUEST (R497): A PLDM monitoring request over MCTP is answered. -/
  | pldmRequest (t : Nat) (req : Pldm)
  /-- RESET_EFFECTER (R497): The PLDM state effecter requests a module reset. -/
  | resetEffecter (t : Nat) (boot : Boot)
  /-- BEAT_MARK (R246): A block's beat mark and beat field arrive on a port, so that a port-sourced beat places its edges, assembles its count from SERIAL bits, gains lock after 65,536 consistent beats or ends holdover. -/
  | beatMark (t : Nat) (q : PortIx) (field : BitVec 8)
  /-- TRIP_LATCH_RELEASE (R403): A latched trip clears once input power has been absent for 1 s, so that the next power-up proceeds as a cold start on the full path. -/
  | tripLatchRelease (t : Nat)
deriving DecidableEq, Repr

end Sys2Proof
end

