-- ==== Sys2Proof/Decode.lean ====
section
/-! DEFINITION. The decoder of table words. The table of operations and events gives no row any bits: commands reach the module as
register writes, links, pins and its own events, so no word spells a command. -/

namespace Sys2Proof

/-- The command that the low `nbits` bits of a word spell: none, since no row of the table has bits. -/
def decodeTableWord (_nbits _w : Nat) : Option Instr := none

end Sys2Proof
end

