-- ==== Sys2Proof/Config.lean ====
section
/-! DEFINITION. What the spec leaves open: free values (an opaque constant with no body, so that nothing can be proved about
its value), the functions of the published cryptographic standards the spec cites by name only, and the figures an
implementation fixes. The assumption log names each. -/

namespace Sys2Proof

/-- A fresh free value at each count of `State.freeCtr` (log entry 3). -/
opaque Config.freeValue : Nat → BitVec 64
/-- The weight of a position that no load has filled, by load, column and position (log entry 20). -/
opaque Config.unloadedWeight : Nat → Nat → Nat → BitVec 16
/-- SM3-256 of a byte string, as 32 bytes (R437; log entry 6). -/
opaque Config.sm3 : Bytes → BitVec 256
/-- SM2 verification: public key, digest, signature (R437; log entry 6). -/
opaque Config.sm2Verify : BitVec 512 → BitVec 256 → BitVec 512 → Bool
/-- SM2 signing: private key, digest, random bits (R437; log entry 6). -/
opaque Config.sm2Sign : BitVec 256 → BitVec 256 → BitVec 256 → BitVec 512
/-- The SM2 public key of a private key (R437; log entry 6). -/
opaque Config.sm2Public : BitVec 256 → BitVec 512
/-- The SM2 key agreement and unwrapping of R448: private key and wrapped bytes; none if it fails (log entry 6). -/
opaque Config.sm2Unwrap : BitVec 256 → Bytes → Option (BitVec 128)
/-- The device's key agreement secret for an SPDM session (R444; log entry 6). -/
opaque Config.sessionSecret : BitVec 256 → Bytes → Bytes → BitVec 256
/-- SM4 encryption of one block under a key (R449; log entry 6). -/
opaque Config.sm4 : BitVec 128 → BitVec 128 → BitVec 128
/-- HMAC-SM3 of a message under a key (R444; log entry 6). -/
opaque Config.hmac : BitVec 256 → Bytes → BitVec 256
/-- HUK, the fused root key (R434; log entry 6). -/
opaque Config.huk : BitVec 256
/-- The private part of the identity key DIK (R434; log entry 6). -/
opaque Config.identityKey : BitVec 256
/-- The private part of the encryption key DEK (R434; log entry 6). -/
opaque Config.encryptionKey : BitVec 256
/-- The alias key derived from HUK and measurement registers 0 to 3 (R434; log entry 6). -/
opaque Config.aliasKey : BitVec 256 → List (BitVec 256) → BitVec 256
/-- Fitchabin's key that verifies firmware, held in ROM (R434; log entry 6). -/
opaque Config.firmwareKey : BitVec 512
/-- Fitchabin's service key, held in ROM (R434; log entry 6). -/
opaque Config.serviceKey : BitVec 512
/-- The certificate chain of slot 0 or 1 as GET_CERTIFICATE returns it, given the alias public key (R444; log entry 49). -/
opaque Config.certChain : Nat → BitVec 512 → Bytes
/-- What SPDM leaves to the responder: DataTransferSize and MaxSPDMmsgSize, the heartbeat period, the DMTF type of measurement block n + 1,
whether it counts to the trusted base, the opaque data of a KEY_EXCHANGE response, whether the n-th signing request is put off (R444; log
entry 49). -/
opaque Config.spdmTransferSize : BitVec 32
/-- See `spdmTransferSize`. -/
opaque Config.heartbeatPeriod : BitVec 8
/-- See `spdmTransferSize`. -/
opaque Config.measType : Nat → BitVec 7
/-- See `spdmTransferSize`. -/
opaque Config.measTcb : Nat → Bool
/-- See `spdmTransferSize`. -/
opaque Config.keyOpaque : Bytes → Bytes
/-- See `spdmTransferSize`. -/
opaque Config.spdmDefers : Nat → Bool
/-- VERSION and IMAGE_DIGEST of the bank-unit microcode in the body of a firmware image (R363, R438; log entry 10). -/
opaque Config.bodyMcode : Bytes → BitVec 8 × BitVec 256
/-- Random bits of Quoin's generator at each count of its draws (R456; log entry 7). -/
opaque Config.trng : Nat → BitVec 256
/-- The Scorebook code firmware assigns to the k-th of the occurrences of R509 that the spec gives no code (log entry 8). -/
opaque Config.firmwareCode : Nat → BitVec 12
/-- FLAGS of a code that firmware assigns (R509; log entry 8). -/
opaque Config.firmwareFlags : Nat → BitVec 16
/-- DETAIL of a ROUTE rejection for a route that no record gives (R298; log entry 113). -/
opaque Config.missingRoute : BitVec 16
/-- The digest of the boot ROM (R442; log entry 40). -/
opaque Config.romDigest : BitVec 256
/-- The life constants of the wear ledger fused at test: em_life in units of 2^-20 rail-seconds, tc_life in units of 2^-20 (R386; log
entry 9). -/
opaque Config.emLife : BitVec 64
/-- See `emLife`. -/
opaque Config.tcLife : BitVec 64
/-- The model of pier p: what commissioning fitted, the state vector and an update's inputs (pier power, filler, inlet, hot, the
four courses, then the plan of the frames ahead) give the next state vector (R397; log entry 9). -/
opaque Config.thermalStep : Nat → List Nat → List Nat → List Nat → List Nat
/-- The forecast of a node (0 the hot spot, 1 to 4 courses 0 to 3) over 5 ms, in units of 1/16 °C, from the state vector of pier p (R397;
log entry 9). -/
opaque Config.thermalForecast : Nat → List Nat → Nat → Nat
/-- The estimate of the sensor with roster index i, in units of 1/16 °C, from the state vector of its pier p (R392; log entry 9). -/
opaque Config.thermalEstimate : Nat → List Nat → Nat → Nat
/-- The microcode word a broadcast holds at an address of the operation store (R363; log entry 10). -/
opaque Config.opStoreWord : Nat → BitVec 64
/-- The housekeeping routine words 0 to 63 of the micro-program store (R204; log entry 10). -/
opaque Config.housekeepingWord : Nat → BitVec 64

end Sys2Proof
end

