-- ==== Sys2Proof/Machine/SysState.lean ====
section
/-! DEFINITION. The state of the module outside its tiles that no register shows: the beat and the schedule domain, image
slots, the Scorebook and what the module has sent (chapters 10, 13 and 18). -/

namespace Sys2Proof.Machine

/-- A domain message (R261): its type code, issuer and absolute target frame or beat. -/
structure Msg where
  type : Nat
  issuer : Nat
  target : Nat
deriving DecidableEq, Repr

/-- The beat, the clock frames, rest frames, holds and freezes (R244 to R265). Cycle c is cycle c mod 32 of beat
`base + c / 32`. `frame` is one more than the clock frame whose boundary was last taken; `pattern` is the slice pattern in force
(R269); `via` is the port that
gave the count, none for the reference input; `marks` counts the beats of consistent marks. -/
structure BeatState where
  base : Nat
  frame : Nat
  frameStart : Nat
  rest : Bool
  stallFrom : Option Nat
  stalled : Nat
  freezeFrom : Option Nat
  gated : Nat
  rests : List Nat
  holders : List (Nat × Nat)
  resumes : List (Nat × Nat)
  clampers : List Nat
  freezeBeat : Option Nat
  lastFreeze : Nat
  resumeBeat : Option Nat
  seen : List Msg
  send : List Msg
  epochPrev : Option Nat
  marks : Nat
  markBits : List Nat
  holdFrom : Nat
  pattern : Nat × Nat × Bool
  via : Option Nat
deriving DecidableEq, Repr

/-- The beat before the module has one: local cycles from power-good. -/
def BeatState.idle : BeatState :=
  ⟨0, 0, 0, false, none, 0, none, 0, [], [], [], [], none, 0, none, [], [], none, 0, [], 0, (1, 0, false), none⟩

/-- An image slot (R267, R272, R349): its header, signature and power table as read at activation, its schedule frame
index, and the clock frames at which it starts and stops. -/
structure Image where
  loaded : Bool
  header : Bytes
  sig : Bytes
  digest : Nat
  power : List Nat
  sched : Nat
  startAt : Option Nat
  stopAt : Option Nat
  ran : Bool
  turn : Nat
  resume : Option Nat
deriving DecidableEq, Repr

/-- An empty image slot. -/
def Image.empty : Image := ⟨false, [], [], 0, [], 0, none, none, false, 0, none⟩

/-- A record of the Scorebook (R459, R460). -/
structure ScbRec where
  count : Nat
  supp : Nat
  first : Nat
  last : Nat
  min : Nat
  max : Nat
  value : Nat
  hist : Tab Nat
  unlFirst : Bool
  unlLast : Bool
  seq : Nat
deriving DecidableEq, Repr

/-- An empty record. -/
def ScbRec.empty : ScbRec := ⟨0, 0, 0, 0, 0xFFFFFFFF, 0, 0, [], false, false, 0⟩

/-- An occurrence held in the aside queue (R464): `admitted` is the bucket's answer at its arrival. -/
structure Aside where
  code : Nat
  beat : Nat
  unl : Bool
  value : Nat
  admitted : Bool
deriving DecidableEq, Repr

/-- An image of the area in module flash (R467): FLUSHES, its beat, the records, and whether its digest verifies. -/
structure ScbImage where
  flushes : Nat
  beat : Nat
  layout : Nat
  recs : Tab ScbRec
  good : Bool
deriving DecidableEq, Repr

/-- The Scorebook (R458 to R471). `missing` lists the tokens missing from a full bucket, `since` the cycle up to which a bucket has gained
its tokens and the part of the next one, in token-cycles; rates list the SCB_RATE words that differ from the default of 16 and 16.
`flash` holds the two image slots, `slot` the one to be written next, `flushing` the reason of a flush in progress, `flushAgain` of the one
that follows; `flushAt` and `flushBeat` are the cycle and the beat of the last completed flush. -/
structure Scb where
  recs : Tab ScbRec
  missing : Tab Nat
  rates : Tab Nat
  aside : List Aside
  since : Tab (Nat × Nat)
  flash : List ScbImage
  flushing : Option Nat
  flushAgain : Option Nat
  flushAt : Nat
  flushBeat : Nat
  slot : Nat
deriving DecidableEq, Repr

/-- The SCB_RATE word every code starts with (R461). -/
def rateDefault : Nat := 16 + 16 * 65536

/-- An empty Scorebook. -/
def Scb.empty : Scb := ⟨[], [], [], [], [], [], none, none, 0, 0, 0⟩

/-- A line of a pier cache (R179): its address / 128, its way, its bytes. -/
structure PLine where
  line : Nat
  way : Nat
  data : Bytes
deriving DecidableEq, Repr

/-- A chunk of an exchange channel bound for, or wanted from, another module (R253, R317): `kind` 0 write, 1 add, 2 read; `headAt`
and `due` are the unit cycles at which its stream's header and the chunk reach the port. -/
structure RemoteChunk where
  x : Nat
  c : Nat
  k : Nat
  kind : Nat
  fmt : Nat
  prio : Bool
  module : Nat
  addr : Nat
  len : Nat
  data : Bytes
  job : Nat
  first : Bool
  header : Bytes
  headAt : Nat
  due : Nat
deriving DecidableEq, Repr

/-- An entry that a floor-plan change rewrites (R24): the entry, the kind of its repair record (0 for none, R509), what else the
record holds (R31) and the cycle of the event that caused the change (log entry 128). -/
structure FpItem where
  kind : Nat
  part : Nat
  repair : Nat
  value : Nat
  cause : Nat
deriving DecidableEq, Repr

/-- An entry of the repair record in module flash (R31). -/
structure Repair where
  kind : Nat
  part : Nat
  value : Nat
deriving DecidableEq, Repr

/-- A window request in progress (R351): its first physical address, length, direction, arrival, the pieces read so far by
offset, and how many are still to come. -/
structure Win where
  tag : Nat
  dpa : Nat
  len : Nat
  write : Bool
  arrival : Nat
  parts : Tab Bytes
  left : Nat
deriving DecidableEq, Repr

/-- The outcome of a slice access made for an Aelli port or the mirror engine (R177). -/
structure Answer where
  src : Origin
  job : Nat
  code : Nat
  data : Bytes
deriving DecidableEq, Repr

/-- What the module has sent to the outside world: a posted write to host memory, the completion of a window read, a cell (port,
slot, KIND, RINDEX, whether RCPT is set, STATUS, payload before encryption), a domain message in a block of a port, a pairing record, an SPDM, PLDM or
margining response, the bytes of a Scorebook read. -/
inductive Out where
  | hostWrite (addr : Nat) (data : Bytes)
  | window (tag : Nat) (code : Nat) (data : Bytes)
  | cell (q slot kind rindex : Nat) (rcpt : Bool) (status : Nat) (payload : Bytes)
  | message (q : Nat) (m : Msg)
  | pairing (q : Nat) (rec : PairRec)
  | response (tr : Nat) (data : Bytes)
  | margin (lane : Nat) (data : Nat)
  | scb (data : Nat)
deriving DecidableEq, Repr

end Sys2Proof.Machine
end

