-- ==== Sys2Proof/Machine/HostState.lean ====
section
/-! DEFINITION. The state no register shows of the ports, the host interface, start-up and resets, power and heat, the Bond
Stream, the twins, Quoin and margining (chapters 10 to 20). -/

namespace Sys2Proof.Machine

/-- A cell sent, kept until its let slot has passed (R314): its absolute slot number. -/
structure SentCell where
  slot : Nat
  rcpt : Bool
  status : Nat
  payload : Bytes
deriving DecidableEq, Repr

/-- A cell received and held until its release (R256); `ok` once it is held intact, `fresh` if its first copy was. -/
structure HeldCell where
  slot : Nat
  ok : Bool
  fresh : Bool
  kind : Nat
  rcpt : Bool
  status : Nat
  payload : Bytes
deriving DecidableEq, Repr

/-- A stream being received (R317): its tile and channel as 16 × LTILE + CHANNEL, its header, whether the header had a reserved
field set, the next chunk and the bytes of it received so far. -/
structure Stream where
  key : Nat
  head : Bytes
  bad : Bool
  chunk : Nat
  part : Bytes
deriving DecidableEq, Repr

/-- A reply to leave in slot `slot` (R320). -/
structure ReplyDue where
  slot : Nat
  status : Nat
  data : Bytes
deriving DecidableEq, Repr

/-- A request sent, and the slot its reply comes in (R319, R320): tile, channel, chunk, bytes asked for, and
whether it is the chunk's last. -/
structure Asked where
  slot : Nat
  x : Nat
  c : Nat
  job : Nat
  len : Nat
  last : Bool
deriving DecidableEq, Repr

/-- A port (R307 to R323). `next` is the first slot it may still fill; `queue` the chunks whose receipts are awaited (tile,
channel); `owed` the receipts it owes in order (the answer's tag, the code once known); `pieces` the data of remote reads
(tile, channel, bytes); `noSession` says that
its last attempt failed for want of a session; `spare` is the lane its group's spare stands in for. -/
structure PortState where
  next : Nat
  sent : List SentCell
  naks : List Nat
  resent : List Nat
  held : List HeldCell
  streams : List Stream
  queue : List (Nat × Nat)
  owed : List (Nat × Option Nat)
  replies : List ReplyDue
  unsched : List Bytes
  asked : List Asked
  pieces : List (Nat × Nat × Bytes)
  mirror : List Bytes
  told : List Msg
  tagFails : Nat
  crcRun : Nat
  jobs : Nat
  noSession : Bool
  spare : Option Nat
  partner : Nat
deriving DecidableEq, Repr

/-- A port with nothing in hand. -/
def PortState.idle : PortState := ⟨0, [], [], [], [], [], [], [], [], [], [], [], [], [], 0, 0, 0, false, none, 0⟩

/-- A submission in progress (R346): its index and record. -/
structure Sub where
  idx : Nat
  body : Bytes
deriving DecidableEq, Repr

/-- A completion reply that waits to be written (R347). -/
structure ReplyRec where
  op : Nat
  seq : Nat
  tag : Nat
  code : Nat
  detail : Nat
deriving DecidableEq, Repr

/-- The rings (R342, R346, R350): submissions in progress and held by FENCE or order, replies to write, the class and cycle of
the last record written, and whether a ring error has stopped fetching. -/
structure Front where
  subs : List Sub
  replies : List ReplyRec
  lastClass : Nat
  lastAt : Nat
  stopped : Bool
deriving DecidableEq, Repr

/-- A tile, pier or compute reset in progress (R366, R367). -/
structure ResetRun where
  kind : ResetKind
  origin : Nat
deriving DecidableEq, Repr

/-- Microcode as a bank unit has received it (R363): chunk count, bitmap, the data of its chunks, the manifest's digest,
whether it has confirmed. -/
structure McodeRx where
  count : Nat
  version : Nat
  bitmap : Nat
  data : Tab Bytes
  digest : Nat
  ok : Bool
deriving DecidableEq, Repr

/-- No microcode received. -/
def McodeRx.none : McodeRx := ⟨0, 0, 0, [], 0, false⟩

/-- Start-up, resets and the connector (R357 to R377, R486 to R497). `wait` holds what start-up found until coolant pressure
lets it proceed to step 3; `fullNext` and `readyOnce` feed R358; `cause` is the cause recorded at the last power-down,
`ship` holds the ship-enabled mask of each pier, `badDies` the piers whose B-die has failed, `rewrite` the settings lost that await
rewriting (R373), and `absentFrom` the cycle since which input power has been absent, `main` whether the main path of
the hot-swap controller is closed. -/
structure Life where
  powered : Bool
  wait : Option Boot
  full : Bool
  ready : Bool
  version : Nat
  tripped : Bool
  cause : Nat
  resets : List ResetRun
  moving : Option Nat
  mate : Option Nat
  precharge : Option Nat
  main : Bool
  perst : Bool
  perstSeen : Bool
  i3c : Option Nat
  spareVert : List (Nat × Nat)
  spareBrg : List (Nat × Nat × Nat)
  brgWidths : Tab Nat
  mcode : Tab McodeRx
  pressureAt : Nat
  pendingResets : List ResetKind
  firmware : Option FwImage
  imageB : Option FwImage
  staged : Option FwImage
  boot : Nat
  ship : List Nat
  badDies : List Nat
  rewrite : List Nat
  absentFrom : Option Nat
deriving DecidableEq, Repr

/-- Before power-good. -/
def Life.off : Life :=
  ⟨false, none, false, false, 0, false, 0, [], none, none, none, false, false, false, none, [], [], [], [], 0, [], none, none, none, 0, List.replicate 8 0x1FFF, [], [], none⟩

/-- The power and thermal controllers (R382 to R402). Credits are in W × beats; `fc` and `allowed` are those of the frame in
progress; `errs` and `powers` list the last 256 frames that ran, newest first; `boostFrom`, `lastHigh` and `coolFrom` are beats;
`restWhy` lists the rest frames requested for credits, as frame and mask of piers, and for the envelope, as frame and 256. `half` holds the
caps that rise after a clamp, in units of 1/1024 W (0: none). `coolFromAt` is one more than the cycle from which a pier has stayed cool
(R390), `errAt` the same of its last corroborated deviation (R392). `em` and `tc` are in units of 2^-20, with their copies in flash; `fitted`
is what commissioning fitted (R396). -/
structure Power where
  credit : List Int
  errs : List Int
  powers : List Nat
  fc : Option Int
  allowed : Nat
  boostFrom : Option Nat
  lastHigh : Nat
  coolFrom : Option Nat
  peakUsed : Nat
  warm : List Nat
  filler : List Nat
  half : List Nat
  restWhy : List (Nat × Nat)
  own : Bool
  clampFrom : Option Nat
  callers : Nat
  calm : Nat
  localFrom : Option Nat
  model : List (List Nat)
  coolFromAt : List Nat
  errAt : List Nat
  em : List Nat
  tc : Nat
  emFlash : List Nat
  tcFlash : Nat
  fitted : List Nat
  commission : Option Nat
  inputOk : Bool
deriving DecidableEq, Repr

/-- The controllers at reset: full credit of no cap. -/
def Power.idle : Power :=
  ⟨[0, 0, 0, 0, 0, 0, 0, 0], [], [], none, 0, none, 0, none, 0, [0, 0, 0, 0, 0, 0, 0, 0],
    [0, 0, 0, 0, 0, 0, 0, 0], [0, 0, 0, 0, 0, 0, 0, 0], [], false, none, 0, 0, none, [[], [], [], [], [], [], [], []],
    [0, 0, 0, 0, 0, 0, 0, 0], [0, 0, 0, 0, 0, 0, 0, 0], [], 0, [], 0, [], none, true⟩

/-- A section in force (R281, R282): its type, scope, header and body. -/
structure Section where
  type : Nat
  scope : Nat
  body : Bytes
  raw : Bytes
deriving DecidableEq, Repr

/-- The Bond Stream (R282, R297): the section table in ascending (TYPE, SCOPE), the sections whose effect is lost, and a load
that waits for its zeroing with what it will put in force. -/
structure Bond where
  table : List Section
  lost : List (Nat × Nat)
  pend : Option (List Section × Bytes × List (Nat × Nat))
  kvRec : List (Nat × Nat × Bytes × Nat)
deriving DecidableEq, Repr

/-- A write that a commit would keep: the address and the bytes before it (R419). -/
structure Undo where
  addr : Nat
  old : Bytes
deriving DecidableEq, Repr

/-- A slot or table entry of a mirrored head as last sent (R417, R429): tile, head, kind of record, index, bytes. -/
structure Mirrored where
  x : Nat
  h : Nat
  kind : Nat
  ix : Nat
  data : Bytes
deriving DecidableEq, Repr

/-- The mirror engine (R411 to R430): `mark` is what it last sent of each table entry; `unacked` lists records sent and not yet
confirmed (SEQ, clock frame, the page's tile, head and slot); `epoch` is the one being sent. `rxSeq` is the SEQ it expects, `late`
holds records that came ahead of their turn, `rxBad` says that the epoch being received cannot be completed; `bank` and `frame` are of the
last commit. Of the heartbeats: the beat of the last one, those missed in a row, the beat the one awaited was due, the gated cycles at that
beat, whether it has been counted. `sent` is what back-fill last sent; `peer` the pairing records, the partner's and our own, of the pairing in
force. -/
structure Twin where
  seq : Nat
  epoch : Nat
  mark : List Mirrored
  unacked : List (Nat × Nat × Nat × Nat × Nat)
  resync : Bool
  walk : Bool
  rxSeq : Nat
  late : List (Nat × Bytes)
  rxBad : Bool
  undo : List Undo
  bank : Nat
  frame : Nat
  hasCommit : Bool
  hbLast : Nat
  hbMissed : Nat
  hbDue : Option Nat
  hbGated : Nat
  hbCounted : Bool
  lostAt : Option Nat
  sent : List Mirrored
  partnerResync : Bool
  peer : Option (PairRec × PairRec)
deriving DecidableEq, Repr

/-- The mirror engine before pairing. -/
def Twin.idle : Twin :=
  ⟨0, 0, [], [], false, false, 0, [], false, [], 0, 0, false, 0, 0, none, 0, false, none, [], false, none⟩

/-- An SPDM session (R444): its ID, its transport, whether FINISH has completed it, its secret, the hash of its handshake, and the key
updates of the requester's and of the responder's direction. -/
structure Session where
  id : Nat
  tr : Transport
  done : Bool
  key : BitVec 256
  th : BitVec 256
  updReq : Nat
  updRsp : Nat
deriving DecidableEq, Repr

/-- An SPDM connection (R443): how far negotiation has come (1 version, 2 capabilities, 3 algorithms), and the messages exchanged in
negotiation, for certificates, and for measurements since the last signature. -/
structure Conn where
  phase : Nat
  vca : Bytes
  certs : Bytes
  meas : Bytes
deriving DecidableEq, Repr

/-- No connection yet. -/
def Conn.none : Conn := ⟨0, [], [], []⟩

/-- An SPDM request put off (R444): its transport, its token and itself. -/
structure Deferred where
  tr : Transport
  token : Nat
  req : Bytes
deriving DecidableEq, Repr

/-- Quoin (R434 to R457): the owner key, the key slots, the sealed granules, the measurement registers, the SVN raises left, the
SPDM connections of its two transports, the granules that UNSEAL is zeroing (first, count), the draws made of its generator. -/
structure Quoin where
  owner : Option (BitVec 512)
  keys : Tab (BitVec 128)
  granules : List Nat
  meas : List (BitVec 256)
  raisesLeft : Nat
  sessions : List Session
  conns : Tab Conn
  deferred : List Deferred
  zeroing : Option (Nat × Nat)
  draws : Nat
  nonceOk : Bool
  nextSession : Nat
deriving DecidableEq, Repr

/-- Quoin before power-good: unowned, no keys, nothing sealed. -/
def Quoin.idle : Quoin :=
  ⟨none, [], [], List.replicate 16 0, 64, [], [], [], none, 0, false, 0⟩

/-- A margin run (R475): its target (0 bond interface, 1 bridge, 2 port) with the position, bridge or port, SET, the limits of timing and
voltage, whether it goes on to voltage, whether the centre has passed, and the axis (0 timing, 1 voltage), side and step in progress. -/
structure MarginRun where
  kind : Nat
  ix : Nat
  set : Nat
  limT : Nat
  limV : Nat
  both : Bool
  centre : Bool
  axis : Nat
  plus : Bool
  k : Nat
deriving DecidableEq, Repr

end Sys2Proof.Machine
end

