-- ==== Sys2Proof/Machine/Fields.lean ====
section
/-! DEFINITION. What a register field is: its place in a register, its access code (R6), its Reset value, the mildest
event that loses it (R12) and its fate in the low-power states. -/

namespace Sys2Proof.Machine

/-- Access codes (R6). -/
inductive Access where
  | ro | rw | w1c | wo | rw1s | rwl
deriving DecidableEq, Repr

/-- The mildest event that loses a value (R12): tile reset, pier reset, compute reset, module reset, cold start, never. -/
inductive Kept where
  | t | p | k | m | c | never
deriving DecidableEq, Repr

/-- The low-power note of a field: kept in all three states, lost in park, or lost in standby and park. -/
inductive LowPower where
  | kept | lostP | lostSP
deriving DecidableEq, Repr

/-- Which part a register belongs to, with the number of registers of its kind in each such part. -/
inductive Scope where
  | dev (n : Nat) | pier (n : Nat) | tile (n : Nat)
deriving DecidableEq, Repr

/-- A Reset value: a number, or the index of the register itself (SLC_APTf.PHYS, R199). -/
inductive Rst where
  | num (n : Nat) | own
deriving DecidableEq, Repr

/-- The group of SYS_CFG_LOST that the loss of a setting marks (R372, R377); `none` for a field that is no setting. -/
inductive Grp where
  | none | tile | beat | thermal | other
deriving DecidableEq, Repr

/-- A register field. `legal` lists the encodings of a stored field (R11; empty: every encoding); the low `lowZero` bits are
reserved (R10); `recd` says that an ignored write is recorded in the Scorebook by the field's own rule. -/
structure Fld where
  id : Nat
  reg : Nat
  lo : Nat
  w : Nat
  acc : Access
  rst : Rst
  kept : Kept
  lp : LowPower
  scope : Scope
  legal : List (Nat × Nat)
  lowZero : Nat
  recd : Bool
  grp : Grp
deriving DecidableEq, Repr

/-- The view a register lies in; `jobStatus` is FRONT_STATUS, which every job-view register carries (R335). -/
inductive RegView where
  | control | job | jobStatus
deriving DecidableEq, Repr

/-- Whether a register's offset counts from the view, from its pier's block or from its tile's block. -/
inductive RegScope where
  | dev | pier | tile
deriving DecidableEq, Repr

/-- A register, or an array of registers with the count and stride of each index. -/
structure Reg where
  id : Nat
  view : RegView
  scope : RegScope
  off : Nat
  bits : Nat
  dims : List (Nat × Nat)
deriving DecidableEq, Repr

end Sys2Proof.Machine
end

