-- ==== Sys2Proof/Machine/Regs.lean ====
section
/-! DEFINITION. Every register field the spec's register tables and floor-plan records give, with its place, access code,
Reset value, Kept code and low-power note (R6, R12, R22 to R28 and the register tables of each chapter). -/

namespace Sys2Proof.Machine

/-- SYS_FP_STATUS.VALID, bits [0:0] (R23). -/
def F.SYS_FP_STATUS_VALID : Fld := ⟨0, 0, 0, 1, .ro, .num 0, .m, .kept, .dev 1, [], 0, false, .none⟩
/-- SYS_FP_STATUS.UPDATING, bits [1:1] (R23). -/
def F.SYS_FP_STATUS_UPDATING : Fld := ⟨1, 0, 1, 1, .ro, .num 0, .m, .kept, .dev 1, [], 0, false, .none⟩
/-- SYS_FP_STATUS.CHANGED, bits [2:2] (R23). -/
def F.SYS_FP_STATUS_CHANGED : Fld := ⟨2, 0, 2, 1, .w1c, .num 0, .m, .kept, .dev 1, [], 0, false, .none⟩
/-- SYS_FP_STATUS.DEGRADED, bits [3:3] (R23). -/
def F.SYS_FP_STATUS_DEGRADED : Fld := ⟨3, 0, 3, 1, .ro, .num 0, .m, .kept, .dev 1, [], 0, false, .none⟩
/-- SYS_FP_STATUS.RETIRED_TILES, bits [15:8] (R23). -/
def F.SYS_FP_STATUS_RETIRED_TILES : Fld := ⟨4, 0, 8, 8, .ro, .num 0, .m, .kept, .dev 1, [], 0, false, .none⟩
/-- SEQ_CTL.PARTITION, bits [1:0] (R69). -/
def F.SEQ_CTL_PARTITION : Fld := ⟨5, 1, 0, 2, .ro, .num 0, .t, .lostSP, .tile 1, [], 0, false, .none⟩
/-- SEQ_CTL.POWER, bits [3:2] (R69). -/
def F.SEQ_CTL_POWER : Fld := ⟨6, 1, 2, 2, .ro, .num 0, .never, .kept, .tile 1, [], 0, false, .none⟩
/-- SEQ_CTL.CONFIGURED, bits [4:4] (R69). -/
def F.SEQ_CTL_CONFIGURED : Fld := ⟨7, 1, 4, 1, .ro, .num 0, .t, .lostSP, .tile 1, [], 0, false, .none⟩
/-- SEQ_THREAD_CTL.START, bits [3:0] (R71). -/
def F.SEQ_THREAD_CTL_START : Fld := ⟨8, 2, 0, 4, .rw1s, .num 0, .t, .lostSP, .tile 1, [], 0, false, .none⟩
/-- SEQ_THREAD_CTL.STOP, bits [7:4] (R71). -/
def F.SEQ_THREAD_CTL_STOP : Fld := ⟨9, 2, 4, 4, .wo, .num 0, .t, .lostSP, .tile 1, [], 0, false, .none⟩
/-- SEQ_THREAD_CTL.RUNNING, bits [11:8] (R71). -/
def F.SEQ_THREAD_CTL_RUNNING : Fld := ⟨10, 2, 8, 4, .ro, .num 0, .t, .lostSP, .tile 1, [], 0, false, .none⟩
/-- SEQ_THREAD_CTL.TRAPPED, bits [15:12] (R71). -/
def F.SEQ_THREAD_CTL_TRAPPED : Fld := ⟨11, 2, 12, 4, .ro, .num 0, .t, .lostSP, .tile 1, [], 0, false, .none⟩
/-- SEQ_PLAY_BASE.BASE, bits [23:0] (R72). -/
def F.SEQ_PLAY_BASE_BASE : Fld := ⟨12, 3, 0, 24, .rw, .num 0, .t, .lostSP, .tile 4, [], 6, false, .tile⟩
/-- SEQ_XCH_DESC_BASE.BASE, bits [23:0] (R72). -/
def F.SEQ_XCH_DESC_BASE_BASE : Fld := ⟨13, 4, 0, 24, .rw, .num 0, .t, .lostSP, .tile 1, [], 5, false, .tile⟩
/-- SEQ_TRAP.CODE, bits [7:0] (R73). -/
def F.SEQ_TRAP_CODE : Fld := ⟨14, 5, 0, 8, .ro, .num 0, .t, .lostSP, .tile 4, [], 0, false, .none⟩
/-- SEQ_TRAP.MULTI, bits [8:8] (R73). -/
def F.SEQ_TRAP_MULTI : Fld := ⟨15, 5, 8, 1, .ro, .num 0, .t, .lostSP, .tile 4, [], 0, false, .none⟩
/-- SEQ_TRAP.SHARED, bits [9:9] (R73). -/
def F.SEQ_TRAP_SHARED : Fld := ⟨16, 5, 9, 1, .ro, .num 0, .t, .lostSP, .tile 4, [], 0, false, .none⟩
/-- SEQ_TRAP.INFO, bits [31:16] (R73). -/
def F.SEQ_TRAP_INFO : Fld := ⟨17, 5, 16, 16, .ro, .num 0, .t, .lostSP, .tile 4, [], 0, false, .none⟩
/-- SEQ_TRAP.PLAY_INDEX, bits [55:32] (R73). -/
def F.SEQ_TRAP_PLAY_INDEX : Fld := ⟨18, 5, 32, 24, .ro, .num 0, .t, .lostSP, .tile 4, [], 0, false, .none⟩
/-- SEQ_TRAP_BEAT.BEAT, bits [63:0] (R73). -/
def F.SEQ_TRAP_BEAT_BEAT : Fld := ⟨19, 6, 0, 64, .ro, .num 0, .t, .lostSP, .tile 4, [], 0, false, .none⟩
/-- SEQ_XCH_STATUS.STATE, bits [1:0] (R74). -/
def F.SEQ_XCH_STATUS_STATE : Fld := ⟨20, 7, 0, 2, .ro, .num 0, .t, .lostSP, .tile 16, [], 0, false, .none⟩
/-- SEQ_XCH_STATUS.HALT_CODE, bits [15:8] (R74). -/
def F.SEQ_XCH_STATUS_HALT_CODE : Fld := ⟨21, 7, 8, 8, .ro, .num 0, .t, .lostSP, .tile 16, [], 0, false, .none⟩
/-- SEQ_XCH_STATUS.DESC_INDEX, bits [31:16] (R74). -/
def F.SEQ_XCH_STATUS_DESC_INDEX : Fld := ⟨22, 7, 16, 16, .ro, .num 0, .t, .lostSP, .tile 16, [], 0, false, .none⟩
/-- SEQ_TS_BANK.REMAP_USED, bits [3:0] (R75). -/
def F.SEQ_TS_BANK_REMAP_USED : Fld := ⟨23, 8, 0, 4, .ro, .num 0, .never, .kept, .tile 64, [], 0, false, .none⟩
/-- SEQ_TS_BANK.FULL, bits [4:4] (R75). -/
def F.SEQ_TS_BANK_FULL : Fld := ⟨24, 8, 4, 1, .ro, .num 0, .never, .kept, .tile 64, [], 0, false, .none⟩
/-- SEQ_TS_BANK.CORR_COUNT, bits [15:8] (R75). -/
def F.SEQ_TS_BANK_CORR_COUNT : Fld := ⟨25, 8, 8, 8, .ro, .num 0, .m, .lostSP, .tile 64, [], 0, false, .none⟩
/-- SEQ_TS_BANK.UNCORR_COUNT, bits [23:16] (R75). -/
def F.SEQ_TS_BANK_UNCORR_COUNT : Fld := ⟨26, 8, 16, 8, .ro, .num 0, .m, .lostSP, .tile 64, [], 0, false, .none⟩
/-- SEQ_NUMFLAGS.LS_INEXACT, bits [0:0] (R102). -/
def F.SEQ_NUMFLAGS_LS_INEXACT : Fld := ⟨27, 9, 0, 1, .w1c, .num 0, .t, .lostSP, .tile 4, [], 0, false, .none⟩
/-- SEQ_NUMFLAGS.NAN_MADE, bits [1:1] (R102). -/
def F.SEQ_NUMFLAGS_NAN_MADE : Fld := ⟨28, 9, 1, 1, .w1c, .num 0, .t, .lostSP, .tile 4, [], 0, false, .none⟩
/-- SEQ_NUMFLAGS.SATURATED, bits [2:2] (R102). -/
def F.SEQ_NUMFLAGS_SATURATED : Fld := ⟨29, 9, 2, 1, .w1c, .num 0, .t, .lostSP, .tile 4, [], 0, false, .none⟩
/-- SEQ_NUMFLAGS.CONV_SPECIAL, bits [3:3] (R102). -/
def F.SEQ_NUMFLAGS_CONV_SPECIAL : Fld := ⟨30, 9, 3, 1, .w1c, .num 0, .t, .lostSP, .tile 4, [], 0, false, .none⟩
/-- SEQ_NUMFLAGS.OVERFLOW_INF, bits [4:4] (R102). -/
def F.SEQ_NUMFLAGS_OVERFLOW_INF : Fld := ⟨31, 9, 4, 1, .w1c, .num 0, .t, .lostSP, .tile 4, [], 0, false, .none⟩
/-- ARR_DESC_BASE.BASE, bits [23:0] (R131). -/
def F.ARR_DESC_BASE_BASE : Fld := ⟨32, 10, 0, 24, .rw, .num 0, .t, .lostSP, .tile 1, [], 6, false, .tile⟩
/-- ARR_STATUS.STATE, bits [1:0] (R132). -/
def F.ARR_STATUS_STATE : Fld := ⟨33, 11, 0, 2, .ro, .num 0, .t, .lostSP, .tile 4, [], 0, false, .none⟩
/-- ARR_MV_STATUS.STATE, bits [1:0] (R132). -/
def F.ARR_MV_STATUS_STATE : Fld := ⟨34, 12, 0, 2, .ro, .num 0, .t, .lostSP, .tile 1, [], 0, false, .none⟩
/-- ARR_STATUS.LOADING, bits [2:2] (R132). -/
def F.ARR_STATUS_LOADING : Fld := ⟨35, 11, 2, 1, .ro, .num 0, .t, .lostSP, .tile 4, [], 0, false, .none⟩
/-- ARR_STATUS.SHADOW_VALID, bits [3:3] (R132). -/
def F.ARR_STATUS_SHADOW_VALID : Fld := ⟨36, 11, 3, 1, .ro, .num 0, .t, .lostSP, .tile 4, [], 0, false, .none⟩
/-- ARR_STATUS.ACTIVE_VALID, bits [4:4] (R132). -/
def F.ARR_STATUS_ACTIVE_VALID : Fld := ⟨37, 11, 4, 1, .ro, .num 0, .t, .lostSP, .tile 4, [], 0, false, .none⟩
/-- ARR_STATUS.DESC_INDEX, bits [23:8] (R132). -/
def F.ARR_STATUS_DESC_INDEX : Fld := ⟨38, 11, 8, 16, .ro, .num 0, .t, .lostSP, .tile 4, [], 0, false, .none⟩
/-- ARR_MV_STATUS.DESC_INDEX, bits [23:8] (R132). -/
def F.ARR_MV_STATUS_DESC_INDEX : Fld := ⟨39, 12, 8, 16, .ro, .num 0, .t, .lostSP, .tile 1, [], 0, false, .none⟩
/-- ARR_MV_STATUS.THREAD, bits [25:24] (R132). -/
def F.ARR_MV_STATUS_THREAD : Fld := ⟨40, 12, 24, 2, .ro, .num 0, .t, .lostSP, .tile 1, [], 0, false, .none⟩
/-- ARR_CHECK.RESIDUE_FAULTS, bits [7:0] (R133). -/
def F.ARR_CHECK_RESIDUE_FAULTS : Fld := ⟨41, 13, 0, 8, .ro, .num 0, .m, .kept, .tile 1, [], 0, false, .none⟩
/-- ARR_CHECK.PARITY_FAULTS, bits [15:8] (R133). -/
def F.ARR_CHECK_PARITY_FAULTS : Fld := ⟨42, 13, 8, 8, .ro, .num 0, .m, .kept, .tile 1, [], 0, false, .none⟩
/-- ARR_CHECK.SLICE_PAUSES, bits [23:16] (R133). -/
def F.ARR_CHECK_SLICE_PAUSES : Fld := ⟨43, 13, 16, 8, .ro, .num 0, .m, .kept, .tile 1, [], 0, false, .none⟩
/-- KVS_CFG.ENABLED, bits [0:0] (R159). -/
def F.KVS_CFG_ENABLED : Fld := ⟨44, 14, 0, 1, .ro, .num 0, .k, .lostSP, .tile 4, [], 0, true, .none⟩
/-- KVS_CFG.DIM, bits [2:1] (R159). -/
def F.KVS_CFG_DIM : Fld := ⟨45, 14, 1, 2, .ro, .num 0, .k, .lostSP, .tile 4, [], 0, true, .none⟩
/-- KVS_CFG.ROUND, bits [3:3] (R159). -/
def F.KVS_CFG_ROUND : Fld := ⟨46, 14, 3, 1, .ro, .num 0, .k, .lostSP, .tile 4, [], 0, true, .none⟩
/-- KVS_CFG.MIRROR, bits [4:4] (R159). -/
def F.KVS_CFG_MIRROR : Fld := ⟨47, 14, 4, 1, .ro, .num 0, .k, .lostSP, .tile 4, [], 0, true, .none⟩
/-- KVS_CFG.K_FMT, bits [15:8] (R159). -/
def F.KVS_CFG_K_FMT : Fld := ⟨48, 14, 8, 8, .ro, .num 0, .k, .lostSP, .tile 4, [], 0, true, .none⟩
/-- KVS_CFG.V_FMT, bits [23:16] (R159). -/
def F.KVS_CFG_V_FMT : Fld := ⟨49, 14, 16, 8, .ro, .num 0, .k, .lostSP, .tile 4, [], 0, true, .none⟩
/-- KVS_CFG.GROUP, bits [28:24] (R159). -/
def F.KVS_CFG_GROUP : Fld := ⟨50, 14, 24, 5, .ro, .num 0, .k, .lostSP, .tile 4, [], 0, true, .none⟩
/-- KVS_CFG.DECAY, bits [47:32] (R159). -/
def F.KVS_CFG_DECAY : Fld := ⟨51, 14, 32, 16, .ro, .num 0, .k, .lostSP, .tile 4, [], 0, true, .none⟩
/-- KVS_POOL.POOL_BASE, bits [39:0] (R159). -/
def F.KVS_POOL_POOL_BASE : Fld := ⟨52, 15, 0, 40, .ro, .num 0, .k, .lostSP, .tile 4, [], 0, true, .none⟩
/-- KVS_POOL.POOL_PAGES, bits [57:40] (R159). -/
def F.KVS_POOL_POOL_PAGES : Fld := ⟨53, 15, 40, 18, .ro, .num 0, .k, .lostSP, .tile 4, [], 0, true, .none⟩
/-- KVS_TABLES.PT_BASE, bits [23:0] (R159). -/
def F.KVS_TABLES_PT_BASE : Fld := ⟨54, 16, 0, 24, .ro, .num 0, .k, .lostSP, .tile 4, [], 0, true, .none⟩
/-- KVS_TABLES.LT_BASE, bits [47:24] (R159). -/
def F.KVS_TABLES_LT_BASE : Fld := ⟨55, 16, 24, 24, .ro, .num 0, .k, .lostSP, .tile 4, [], 0, true, .none⟩
/-- KVS_TABLES.LT_CAP, bits [60:48] (R159). -/
def F.KVS_TABLES_LT_CAP : Fld := ⟨56, 16, 48, 13, .ro, .num 0, .k, .lostSP, .tile 4, [], 0, true, .none⟩
/-- KVS_SHADOW.SHADOW_BASE, bits [39:0] (R159). -/
def F.KVS_SHADOW_SHADOW_BASE : Fld := ⟨57, 17, 0, 40, .ro, .num 0, .k, .lostSP, .tile 4, [], 0, true, .none⟩
/-- KVS_SHADOW.PAGE_STRIDE, bits [55:40] (R159). -/
def F.KVS_SHADOW_PAGE_STRIDE : Fld := ⟨58, 17, 40, 16, .ro, .num 0, .k, .lostSP, .tile 4, [], 0, true, .none⟩
/-- KVS_STATE.FREE_HEAD, bits [19:0] (R160). -/
def F.KVS_STATE_FREE_HEAD : Fld := ⟨59, 18, 0, 20, .ro, .num 1048575, .k, .lostSP, .tile 4, [], 0, false, .none⟩
/-- KVS_STATE.BUSY, bits [20:20] (R160). -/
def F.KVS_STATE_BUSY : Fld := ⟨60, 18, 20, 1, .ro, .num 0, .t, .lostSP, .tile 4, [], 0, false, .none⟩
/-- KVS_STATE.LOST, bits [21:21] (R160). -/
def F.KVS_STATE_LOST : Fld := ⟨61, 18, 21, 1, .ro, .num 0, .k, .lostSP, .tile 4, [], 0, false, .none⟩
/-- KVS_STATE.FREE_COUNT, bits [41:24] (R160). -/
def F.KVS_STATE_FREE_COUNT : Fld := ⟨62, 18, 24, 18, .ro, .num 0, .k, .lostSP, .tile 4, [], 0, false, .none⟩
/-- KVS_COUNT.STEPS, bits [31:0] (R160). -/
def F.KVS_COUNT_STEPS : Fld := ⟨63, 19, 0, 32, .ro, .num 0, .m, .kept, .tile 4, [], 0, false, .none⟩
/-- KVS_COUNT.EVICTIONS, bits [63:32] (R160). -/
def F.KVS_COUNT_EVICTIONS : Fld := ⟨64, 19, 32, 32, .ro, .num 0, .m, .kept, .tile 4, [], 0, false, .none⟩
/-- SLC_STATUS.BAND, bits [1:0] (R193). -/
def F.SLC_STATUS_BAND : Fld := ⟨65, 20, 0, 2, .ro, .num 0, .never, .kept, .tile 1, [], 0, false, .none⟩
/-- SLC_STATUS.DECL_BAND, bits [3:2] (R193). -/
def F.SLC_STATUS_DECL_BAND : Fld := ⟨66, 20, 2, 2, .ro, .num 1, .k, .lostP, .tile 1, [], 0, true, .none⟩
/-- SLC_STATUS.DEFICIT, bits [7:4] (R193). -/
def F.SLC_STATUS_DEFICIT : Fld := ⟨67, 20, 4, 4, .ro, .num 0, .t, .lostSP, .tile 1, [], 0, false, .none⟩
/-- SLC_STATUS.DERATED, bits [8:8] (R193). -/
def F.SLC_STATUS_DERATED : Fld := ⟨68, 20, 8, 1, .ro, .num 0, .t, .lostSP, .tile 1, [], 0, false, .none⟩
/-- SLC_STATUS.SC_DIRTY, bits [19:10] (R193). -/
def F.SLC_STATUS_SC_DIRTY : Fld := ⟨69, 20, 10, 10, .ro, .num 0, .t, .lostSP, .tile 1, [], 0, false, .none⟩
/-- SLC_REGIONS.MIRROR_UNITS, bits [3:0] (R194). -/
def F.SLC_REGIONS_MIRROR_UNITS : Fld := ⟨70, 21, 0, 4, .ro, .num 4, .k, .lostP, .tile 1, [], 0, true, .none⟩
/-- SLC_REGIONS.SIDE_LINE, bits [36:10] (R194). -/
def F.SLC_REGIONS_SIDE_LINE : Fld := ⟨71, 21, 10, 27, .ro, .num 0, .k, .lostP, .tile 1, [], 0, true, .none⟩
/-- SLC_REGIONS.SIDE_EN, bits [37:37] (R194). -/
def F.SLC_REGIONS_SIDE_EN : Fld := ⟨72, 21, 37, 1, .ro, .num 0, .k, .lostP, .tile 1, [], 0, true, .none⟩
/-- SLC_FLIP_MASK.ARM, bits [0:0] (R195). -/
def F.SLC_FLIP_MASK_ARM : Fld := ⟨73, 22, 0, 1, .rw1s, .num 0, .t, .lostSP, .tile 1, [], 0, false, .none⟩
/-- SLC_FLIP_MASK.PATH, bits [2:1] (R195). -/
def F.SLC_FLIP_MASK_PATH : Fld := ⟨74, 22, 1, 2, .rw, .num 0, .t, .lostSP, .tile 1, [], 0, false, .none⟩
/-- SLC_FLIP_MASK.DIE, bits [3:3] (R195). -/
def F.SLC_FLIP_MASK_DIE : Fld := ⟨75, 22, 3, 1, .rw, .num 0, .t, .lostSP, .tile 1, [], 0, false, .none⟩
/-- SLC_FLIP_MASK.SYM_A, bits [12:8] (R195). -/
def F.SLC_FLIP_MASK_SYM_A : Fld := ⟨76, 22, 8, 5, .rw, .num 0, .t, .lostSP, .tile 1, [], 0, false, .none⟩
/-- SLC_FLIP_MASK.EN_B, bits [13:13] (R195). -/
def F.SLC_FLIP_MASK_EN_B : Fld := ⟨77, 22, 13, 1, .rw, .num 0, .t, .lostSP, .tile 1, [], 0, false, .none⟩
/-- SLC_FLIP_MASK.SYM_B, bits [20:16] (R195). -/
def F.SLC_FLIP_MASK_SYM_B : Fld := ⟨78, 22, 16, 5, .rw, .num 0, .t, .lostSP, .tile 1, [], 0, false, .none⟩
/-- SLC_FLIP_MASK.PATTERN, bits [47:32] (R195). -/
def F.SLC_FLIP_MASK_PATTERN : Fld := ⟨79, 22, 32, 16, .rw, .num 0, .t, .lostSP, .tile 1, [], 0, false, .none⟩
/-- SLC_SCRUB_RANGE.BASE_LINE, bits [26:0] (R196). -/
def F.SLC_SCRUB_RANGE_BASE_LINE : Fld := ⟨80, 23, 0, 27, .rw, .num 0, .t, .lostSP, .tile 1, [], 0, false, .none⟩
/-- SLC_SCRUB_RANGE.LINES, bits [55:28] (R196). -/
def F.SLC_SCRUB_RANGE_LINES : Fld := ⟨81, 23, 28, 28, .rw, .num 0, .t, .lostSP, .tile 1, [(0, 134217728)], 0, false, .none⟩
/-- SLC_SCRUB_CTL.START, bits [0:0] (R196). -/
def F.SLC_SCRUB_CTL_START : Fld := ⟨82, 24, 0, 1, .rw1s, .num 0, .t, .lostSP, .tile 1, [], 0, false, .none⟩
/-- SLC_SCRUB_CTL.ABORT, bits [1:1] (R196). -/
def F.SLC_SCRUB_CTL_ABORT : Fld := ⟨83, 24, 1, 1, .wo, .num 0, .t, .lostSP, .tile 1, [], 0, false, .none⟩
/-- SLC_SCRUB_CTL.RUNNING, bits [2:2] (R196). -/
def F.SLC_SCRUB_CTL_RUNNING : Fld := ⟨84, 24, 2, 1, .ro, .num 0, .t, .lostSP, .tile 1, [], 0, false, .none⟩
/-- SLC_SCRUB_CTL.DONE, bits [3:3] (R196). -/
def F.SLC_SCRUB_CTL_DONE : Fld := ⟨85, 24, 3, 1, .w1c, .num 0, .t, .lostSP, .tile 1, [], 0, false, .none⟩
/-- SLC_SCRUB_CTL.RANGE_ERR, bits [4:4] (R196). -/
def F.SLC_SCRUB_CTL_RANGE_ERR : Fld := ⟨86, 24, 4, 1, .w1c, .num 0, .t, .lostSP, .tile 1, [], 0, false, .none⟩
/-- SLC_SCRUB_CTL.WRITEBACK, bits [5:5] (R196). -/
def F.SLC_SCRUB_CTL_WRITEBACK : Fld := ⟨87, 24, 5, 1, .rw, .num 1, .t, .lostSP, .tile 1, [], 0, false, .none⟩
/-- SLC_SCRUB_SUM.CORR, bits [31:0] (R197). -/
def F.SLC_SCRUB_SUM_CORR : Fld := ⟨88, 25, 0, 32, .ro, .num 0, .t, .lostSP, .tile 1, [], 0, false, .none⟩
/-- SLC_SCRUB_SUM.UNCORR, bits [63:32] (R197). -/
def F.SLC_SCRUB_SUM_UNCORR : Fld := ⟨89, 25, 32, 32, .ro, .num 0, .t, .lostSP, .tile 1, [], 0, false, .none⟩
/-- SLC_SCRUB_ADDR.FIRST, bits [26:0] (R197). -/
def F.SLC_SCRUB_ADDR_FIRST : Fld := ⟨90, 26, 0, 27, .ro, .num 0, .t, .lostSP, .tile 1, [], 0, false, .none⟩
/-- SLC_SCRUB_ADDR.LAST, bits [58:32] (R197). -/
def F.SLC_SCRUB_ADDR_LAST : Fld := ⟨91, 26, 32, 27, .ro, .num 0, .t, .lostSP, .tile 1, [], 0, false, .none⟩
/-- SLC_SCRUB_EXT.CORR_COURSE0, bits [15:0] (R197). -/
def F.SLC_SCRUB_EXT_CORR_COURSE0 : Fld := ⟨92, 27, 0, 16, .ro, .num 0, .t, .lostSP, .tile 1, [], 0, false, .none⟩
/-- SLC_SCRUB_EXT.CORR_COURSE1, bits [31:16] (R197). -/
def F.SLC_SCRUB_EXT_CORR_COURSE1 : Fld := ⟨93, 27, 16, 16, .ro, .num 0, .t, .lostSP, .tile 1, [], 0, false, .none⟩
/-- SLC_SCRUB_EXT.CORR_COURSE2, bits [47:32] (R197). -/
def F.SLC_SCRUB_EXT_CORR_COURSE2 : Fld := ⟨94, 27, 32, 16, .ro, .num 0, .t, .lostSP, .tile 1, [], 0, false, .none⟩
/-- SLC_SCRUB_EXT.CORR_COURSE3, bits [63:48] (R197). -/
def F.SLC_SCRUB_EXT_CORR_COURSE3 : Fld := ⟨95, 27, 48, 16, .ro, .num 0, .t, .lostSP, .tile 1, [], 0, false, .none⟩
/-- SLC_ERR.VALID, bits [0:0] (R198). -/
def F.SLC_ERR_VALID : Fld := ⟨96, 28, 0, 1, .w1c, .num 0, .m, .kept, .tile 1, [], 0, false, .none⟩
/-- SLC_ERR.MORE, bits [1:1] (R198). -/
def F.SLC_ERR_MORE : Fld := ⟨97, 28, 1, 1, .w1c, .num 0, .m, .kept, .tile 1, [], 0, false, .none⟩
/-- SLC_ERR.PATH, bits [4:2] (R198). -/
def F.SLC_ERR_PATH : Fld := ⟨98, 28, 2, 3, .ro, .num 0, .m, .kept, .tile 1, [], 0, false, .none⟩
/-- SLC_ERR.COURSE, bits [6:5] (R198). -/
def F.SLC_ERR_COURSE : Fld := ⟨99, 28, 5, 2, .ro, .num 0, .m, .kept, .tile 1, [], 0, false, .none⟩
/-- SLC_ERR.LINE, bits [36:10] (R198). -/
def F.SLC_ERR_LINE : Fld := ⟨100, 28, 10, 27, .ro, .num 0, .m, .kept, .tile 1, [], 0, false, .none⟩
/-- SLC_COUNT.CORR_DIE, bits [15:0] (R198). -/
def F.SLC_COUNT_CORR_DIE : Fld := ⟨101, 29, 0, 16, .ro, .num 0, .m, .kept, .tile 1, [], 0, false, .none⟩
/-- SLC_COUNT.CORR_LINE, bits [31:16] (R198). -/
def F.SLC_COUNT_CORR_LINE : Fld := ⟨102, 29, 16, 16, .ro, .num 0, .m, .kept, .tile 1, [], 0, false, .none⟩
/-- SLC_COUNT.INTRUSIONS, bits [47:32] (R198). -/
def F.SLC_COUNT_INTRUSIONS : Fld := ⟨103, 29, 32, 16, .ro, .num 0, .m, .kept, .tile 1, [], 0, false, .none⟩
/-- SLC_COUNT.BUSY_REPLIES, bits [63:48] (R198). -/
def F.SLC_COUNT_BUSY_REPLIES : Fld := ⟨104, 29, 48, 16, .ro, .num 0, .m, .kept, .tile 1, [], 0, false, .none⟩
/-- SLC_APT.PHYS, bits [3:0] (R199). -/
def F.SLC_APT_PHYS : Fld := ⟨105, 30, 0, 4, .ro, .own, .k, .lostP, .pier 13, [], 0, true, .none⟩
/-- SLC_APT.SUBST, bits [4:4] (R199). -/
def F.SLC_APT_SUBST : Fld := ⟨106, 30, 4, 1, .ro, .num 0, .k, .lostP, .pier 13, [], 0, true, .none⟩
/-- SLC_APT.LOGICAL, bits [14:8] (R199). -/
def F.SLC_APT_LOGICAL : Fld := ⟨107, 30, 8, 7, .ro, .num 127, .k, .lostP, .pier 13, [], 0, true, .none⟩
/-- PCH_CFG.SCR_WAYS, bits [4:0] (R200). -/
def F.PCH_CFG_SCR_WAYS : Fld := ⟨108, 31, 0, 5, .ro, .num 0, .k, .lostP, .pier 1, [], 0, true, .none⟩
/-- PCH_STATUS.IN_SERVICE, bits [4:0] (R200). -/
def F.PCH_STATUS_IN_SERVICE : Fld := ⟨109, 32, 0, 5, .ro, .num 16, .never, .lostP, .pier 1, [], 0, false, .none⟩
/-- PCH_STATUS.CACHE_WAYS, bits [9:5] (R200). -/
def F.PCH_STATUS_CACHE_WAYS : Fld := ⟨110, 32, 5, 5, .ro, .num 16, .never, .lostP, .pier 1, [], 0, false, .none⟩
/-- PCH_STATUS.SCR_LOST, bits [10:10] (R200). -/
def F.PCH_STATUS_SCR_LOST : Fld := ⟨111, 32, 10, 1, .ro, .num 0, .p, .lostP, .pier 1, [], 0, false, .none⟩
/-- PCH_INVAL.GO, bits [0:0] (R200). -/
def F.PCH_INVAL_GO : Fld := ⟨112, 33, 0, 1, .rw1s, .num 0, .p, .lostP, .pier 1, [], 0, false, .none⟩
/-- PCH_INVAL.ALL, bits [1:1] (R200). -/
def F.PCH_INVAL_ALL : Fld := ⟨113, 33, 1, 1, .rw, .num 0, .p, .lostP, .pier 1, [], 0, false, .none⟩
/-- PCH_INVAL.LINE, bits [33:4] (R200). -/
def F.PCH_INVAL_LINE : Fld := ⟨114, 33, 4, 30, .rw, .num 0, .p, .lostP, .pier 1, [], 0, false, .none⟩
/-- PCH_INVAL.COUNT, bits [63:34] (R200). -/
def F.PCH_INVAL_COUNT : Fld := ⟨115, 33, 34, 30, .rw, .num 0, .p, .lostP, .pier 1, [], 0, false, .none⟩
/-- BKU_READY.READY, bits [63:0] (R226). -/
def F.BKU_READY_READY : Fld := ⟨116, 34, 0, 64, .ro, .num 18446744073709551615, .t, .lostSP, .tile 1, [], 0, false, .none⟩
/-- BKU_FAULTED.FAULTED, bits [63:0] (R226). -/
def F.BKU_FAULTED_FAULTED : Fld := ⟨117, 35, 0, 64, .ro, .num 0, .t, .lostSP, .tile 1, [], 0, false, .none⟩
/-- BKU_CMD_BASE.BASE, bits [23:0] (R226). -/
def F.BKU_CMD_BASE_BASE : Fld := ⟨118, 36, 0, 24, .rw, .num 0, .t, .lostSP, .tile 1, [], 7, false, .tile⟩
/-- BKU_CTL.SHORT_SEG, bits [0:0] (R226). -/
def F.BKU_CTL_SHORT_SEG : Fld := ⟨119, 37, 0, 1, .ro, .num 0, .k, .lostSP, .tile 1, [], 0, true, .none⟩
/-- BKU_CTL.MCODE_VER, bits [15:8] (R226). -/
def F.BKU_CTL_MCODE_VER : Fld := ⟨120, 37, 8, 8, .ro, .num 0, .k, .lostSP, .tile 1, [], 0, false, .none⟩
/-- BKU_CTL.MCODE_OK, bits [16:16] (R226). -/
def F.BKU_CTL_MCODE_OK : Fld := ⟨121, 37, 16, 1, .ro, .num 0, .k, .lostSP, .tile 1, [], 0, false, .none⟩
/-- BKU_COUNT.REFRESH_PAUSES, bits [15:0] (R226). -/
def F.BKU_COUNT_REFRESH_PAUSES : Fld := ⟨122, 38, 0, 16, .ro, .num 0, .m, .kept, .tile 1, [], 0, false, .none⟩
/-- BKU_COUNT.HOLDS, bits [31:16] (R226). -/
def F.BKU_COUNT_HOLDS : Fld := ⟨123, 38, 16, 16, .ro, .num 0, .m, .kept, .tile 1, [], 0, false, .none⟩
/-- BKU_COUNT.FAULTS, bits [47:32] (R226). -/
def F.BKU_COUNT_FAULTS : Fld := ⟨124, 38, 32, 16, .ro, .num 0, .m, .kept, .tile 1, [], 0, false, .none⟩
/-- RNG_SEED_STATUS.SEEDED, bits [0:0] (R242). -/
def F.RNG_SEED_STATUS_SEEDED : Fld := ⟨125, 39, 0, 1, .ro, .num 0, .k, .lostP, .dev 1, [], 0, true, .none⟩
/-- RNG_SEED_STATUS.SEED_CHECK, bits [63:32] (R242). -/
def F.RNG_SEED_STATUS_SEED_CHECK : Fld := ⟨126, 39, 32, 32, .ro, .num 0, .k, .lostP, .dev 1, [], 0, true, .none⟩
/-- RNG_CTX.OPEN, bits [0:0] (R243). -/
def F.RNG_CTX_OPEN : Fld := ⟨127, 40, 0, 1, .ro, .num 0, .t, .lostSP, .tile 4, [], 0, false, .none⟩
/-- RNG_CTX.MODE, bits [1:1] (R243). -/
def F.RNG_CTX_MODE : Fld := ⟨128, 40, 1, 1, .ro, .num 0, .t, .lostSP, .tile 4, [], 0, false, .none⟩
/-- RNG_CTX.K3, bits [2:2] (R243). -/
def F.RNG_CTX_K3 : Fld := ⟨129, 40, 2, 1, .ro, .num 0, .t, .lostSP, .tile 4, [], 0, false, .none⟩
/-- RNG_CTX.BUSY, bits [3:3] (R243). -/
def F.RNG_CTX_BUSY : Fld := ⟨130, 40, 3, 1, .ro, .num 0, .t, .lostSP, .tile 4, [], 0, false, .none⟩
/-- RNG_CTX.KEY_CHECK, bits [63:32] (R243). -/
def F.RNG_CTX_KEY_CHECK : Fld := ⟨131, 40, 32, 32, .ro, .num 0, .t, .lostSP, .tile 4, [], 0, false, .none⟩
/-- RNG_POS.E, bits [63:0] (R243). -/
def F.RNG_POS_E : Fld := ⟨132, 41, 0, 64, .ro, .num 0, .t, .lostSP, .tile 4, [], 0, false, .none⟩
/-- BEAT_STATUS.STATE, bits [1:0] (R276). -/
def F.BEAT_STATUS_STATE : Fld := ⟨133, 43, 0, 2, .ro, .num 0, .m, .lostP, .dev 1, [], 0, false, .none⟩
/-- BEAT_STATUS.SLIP, bits [2:2] (R276). -/
def F.BEAT_STATUS_SLIP : Fld := ⟨134, 43, 2, 1, .w1c, .num 0, .m, .lostP, .dev 1, [], 0, false, .none⟩
/-- BEAT_STATUS.EXPIRED, bits [3:3] (R276). -/
def F.BEAT_STATUS_EXPIRED : Fld := ⟨135, 43, 3, 1, .w1c, .num 0, .m, .lostP, .dev 1, [], 0, false, .none⟩
/-- BEAT_STATUS.EPOCH_ERRS, bits [15:8] (R276). -/
def F.BEAT_STATUS_EPOCH_ERRS : Fld := ⟨136, 43, 8, 8, .ro, .num 0, .m, .lostP, .dev 1, [], 0, false, .none⟩
/-- BEAT_CFG.FRAME_LOG2, bits [3:0] (R276). -/
def F.BEAT_CFG_FRAME_LOG2 : Fld := ⟨137, 44, 0, 4, .ro, .num 12, .m, .lostP, .dev 1, [], 0, true, .none⟩
/-- BEAT_CFG.SRC, bits [4:4] (R276). -/
def F.BEAT_CFG_SRC : Fld := ⟨138, 44, 4, 1, .ro, .num 0, .m, .lostP, .dev 1, [], 0, true, .none⟩
/-- BEAT_CFG.SRC_PORT, bits [8:5] (R276). -/
def F.BEAT_CFG_SRC_PORT : Fld := ⟨139, 44, 5, 4, .ro, .num 0, .m, .lostP, .dev 1, [], 0, true, .none⟩
/-- BEAT_CFG.D_HOPS, bits [13:9] (R276). -/
def F.BEAT_CFG_D_HOPS : Fld := ⟨140, 44, 9, 5, .ro, .num 0, .m, .lostP, .dev 1, [], 0, true, .none⟩
/-- BEAT_CFG.C_MAX, bits [17:14] (R276). -/
def F.BEAT_CFG_C_MAX : Fld := ⟨141, 44, 14, 4, .ro, .num 0, .m, .lostP, .dev 1, [], 0, true, .none⟩
/-- BEAT_CFG.DOMAIN_MODULES, bits [27:18] (R276). -/
def F.BEAT_CFG_DOMAIN_MODULES : Fld := ⟨142, 44, 18, 10, .ro, .num 1, .m, .lostP, .dev 1, [], 0, true, .none⟩
/-- BEAT_CFG.P_BEATS, bits [47:32] (R276). -/
def F.BEAT_CFG_P_BEATS : Fld := ⟨143, 44, 32, 16, .ro, .num 1, .m, .lostP, .dev 1, [], 0, true, .none⟩
/-- BEAT_FRAME.SCHED_FRAME, bits [31:0] (R277). -/
def F.BEAT_FRAME_SCHED_FRAME : Fld := ⟨144, 45, 0, 32, .ro, .num 0, .k, .lostP, .dev 1, [], 0, false, .none⟩
/-- BEAT_FRAME.RESTS, bits [47:32] (R277). -/
def F.BEAT_FRAME_RESTS : Fld := ⟨145, 45, 32, 16, .ro, .num 0, .m, .lostP, .dev 1, [], 0, false, .none⟩
/-- BEAT_FRAME.FREEZES, bits [63:48] (R277). -/
def F.BEAT_FRAME_FREEZES : Fld := ⟨146, 45, 48, 16, .ro, .num 0, .m, .lostP, .dev 1, [], 0, false, .none⟩
/-- BEAT_HOLD.REQ_REST, bits [0:0] (R277). -/
def F.BEAT_HOLD_REQ_REST : Fld := ⟨147, 46, 0, 1, .rw1s, .num 0, .k, .lostP, .dev 1, [], 0, false, .none⟩
/-- BEAT_HOLD.REQ_HOLD, bits [1:1] (R277). -/
def F.BEAT_HOLD_REQ_HOLD : Fld := ⟨148, 46, 1, 1, .rw1s, .num 0, .k, .lostP, .dev 1, [], 0, false, .none⟩
/-- BEAT_HOLD.REQ_RESUME, bits [2:2] (R277). -/
def F.BEAT_HOLD_REQ_RESUME : Fld := ⟨149, 46, 2, 1, .rw1s, .num 0, .k, .lostP, .dev 1, [], 0, false, .none⟩
/-- BEAT_HOLD.HOLDING, bits [3:3] (R277). -/
def F.BEAT_HOLD_HOLDING : Fld := ⟨150, 46, 3, 1, .ro, .num 0, .m, .lostP, .dev 1, [], 0, false, .none⟩
/-- BEAT_HOLD.FROZEN, bits [4:4] (R277). -/
def F.BEAT_HOLD_FROZEN : Fld := ⟨151, 46, 4, 1, .ro, .num 0, .m, .lostP, .dev 1, [], 0, false, .none⟩
/-- BEAT_HOLD.OWN_HOLD, bits [5:5] (R277). -/
def F.BEAT_HOLD_OWN_HOLD : Fld := ⟨152, 46, 5, 1, .ro, .num 0, .m, .lostP, .dev 1, [], 0, false, .none⟩
/-- BEAT_HOLD.REST_DUE, bits [6:6] (R277). -/
def F.BEAT_HOLD_REST_DUE : Fld := ⟨153, 46, 6, 1, .ro, .num 0, .m, .lostP, .dev 1, [], 0, false, .none⟩
/-- BEAT_HOLD.HOLDERS, bits [15:8] (R277). -/
def F.BEAT_HOLD_HOLDERS : Fld := ⟨154, 46, 8, 8, .ro, .num 0, .m, .lostP, .dev 1, [], 0, false, .none⟩
/-- BEAT_HOLD.NEXT_REST, bits [31:16] (R277). -/
def F.BEAT_HOLD_NEXT_REST : Fld := ⟨155, 46, 16, 16, .ro, .num 0, .m, .lostP, .dev 1, [], 0, false, .none⟩
/-- BEAT_SLICE.QUANTUM_A, bits [7:0] (R278). -/
def F.BEAT_SLICE_QUANTUM_A : Fld := ⟨156, 47, 0, 8, .rw, .num 1, .k, .lostP, .dev 1, [], 0, false, .beat⟩
/-- BEAT_SLICE.QUANTUM_B, bits [15:8] (R278). -/
def F.BEAT_SLICE_QUANTUM_B : Fld := ⟨157, 47, 8, 8, .rw, .num 0, .k, .lostP, .dev 1, [], 0, false, .beat⟩
/-- BEAT_SLICE.B_REST, bits [16:16] (R278). -/
def F.BEAT_SLICE_B_REST : Fld := ⟨158, 47, 16, 1, .rw, .num 0, .k, .lostP, .dev 1, [], 0, false, .beat⟩
/-- BEAT_SLICE.ACTIVE, bits [17:17] (R278). -/
def F.BEAT_SLICE_ACTIVE : Fld := ⟨159, 47, 17, 1, .ro, .num 0, .k, .lostP, .dev 1, [], 0, false, .none⟩
/-- BEAT_SLICE.PENDING, bits [18:18] (R278). -/
def F.BEAT_SLICE_PENDING : Fld := ⟨160, 47, 18, 1, .ro, .num 0, .k, .lostP, .dev 1, [], 0, false, .none⟩
/-- BEAT_SLICE.TARGET, bits [63:32] (R278). -/
def F.BEAT_SLICE_TARGET : Fld := ⟨161, 47, 32, 32, .rw, .num 0, .k, .lostP, .dev 1, [], 0, false, .beat⟩
/-- BEAT_RAMP.ENABLE, bits [0:0] (R278). -/
def F.BEAT_RAMP_ENABLE : Fld := ⟨162, 48, 0, 1, .rw, .num 0, .m, .kept, .dev 1, [], 0, false, .beat⟩
/-- BEAT_RAMP.PERIOD_LOG2, bits [5:1] (R278). -/
def F.BEAT_RAMP_PERIOD_LOG2 : Fld := ⟨163, 48, 1, 5, .rw, .num 16, .m, .kept, .dev 1, [(10, 24)], 0, false, .beat⟩
/-- BEAT_RAMP.STEP, bits [17:6] (R278). -/
def F.BEAT_RAMP_STEP : Fld := ⟨164, 48, 6, 12, .rw, .num 100, .m, .kept, .dev 1, [(1, 3900)], 0, false, .beat⟩
/-- BEAT_RAMP.TARGET, bits [43:32] (R278). -/
def F.BEAT_RAMP_TARGET : Fld := ⟨165, 48, 32, 12, .ro, .num 0, .m, .lostP, .dev 1, [], 0, false, .none⟩
/-- BEAT_RAMP.FILLER, bits [55:44] (R278). -/
def F.BEAT_RAMP_FILLER : Fld := ⟨166, 48, 44, 12, .ro, .num 0, .m, .lostP, .dev 1, [], 0, false, .none⟩
/-- BND_SRC.ADDR, bits [63:0] (R306). -/
def F.BND_SRC_ADDR : Fld := ⟨167, 49, 0, 64, .rw, .num 0, .m, .kept, .dev 1, [], 3, false, .none⟩
/-- BND_CTL.LOAD, bits [0:0] (R306). -/
def F.BND_CTL_LOAD : Fld := ⟨168, 50, 0, 1, .rw1s, .num 0, .m, .kept, .dev 1, [], 0, false, .none⟩
/-- BND_STATUS.STATE, bits [1:0] (R306). -/
def F.BND_STATUS_STATE : Fld := ⟨169, 51, 0, 2, .ro, .num 0, .m, .kept, .dev 1, [], 0, false, .none⟩
/-- BND_STATUS.RESULT, bits [15:8] (R306). -/
def F.BND_STATUS_RESULT : Fld := ⟨170, 51, 8, 8, .ro, .num 0, .m, .kept, .dev 1, [], 0, false, .none⟩
/-- BND_STATUS.SECTION, bits [31:16] (R306). -/
def F.BND_STATUS_SECTION : Fld := ⟨171, 51, 16, 16, .ro, .num 0, .m, .kept, .dev 1, [], 0, false, .none⟩
/-- BND_STATUS.DETAIL, bits [47:32] (R306). -/
def F.BND_STATUS_DETAIL : Fld := ⟨172, 51, 32, 16, .ro, .num 0, .m, .kept, .dev 1, [], 0, false, .none⟩
/-- BND_STATUS.LOADS, bits [63:48] (R306). -/
def F.BND_STATUS_LOADS : Fld := ⟨173, 51, 48, 16, .ro, .num 0, .m, .kept, .dev 1, [], 0, false, .none⟩
/-- BND_INFORCE.TYPES, bits [11:0] (R306). -/
def F.BND_INFORCE_TYPES : Fld := ⟨174, 52, 0, 12, .ro, .num 0, .m, .kept, .dev 1, [], 0, false, .none⟩
/-- BND_LOST.TYPES, bits [11:0] (R306). -/
def F.BND_LOST_TYPES : Fld := ⟨175, 53, 0, 12, .ro, .num 0, .m, .kept, .dev 1, [], 0, false, .none⟩
/-- BND_FLOOR.FLOOR, bits [31:0] (R306). -/
def F.BND_FLOOR_FLOOR : Fld := ⟨176, 54, 0, 32, .ro, .num 0, .never, .kept, .dev 1, [], 0, false, .none⟩
/-- BND_DOMAIN.DEGRADED, bits [15:0] (R306). -/
def F.BND_DOMAIN_DEGRADED : Fld := ⟨177, 55, 0, 16, .ro, .num 0, .k, .lostP, .dev 1, [], 0, false, .none⟩
/-- BND_DOMAIN.MODULE_INDEX, bits [24:16] (R306). -/
def F.BND_DOMAIN_MODULE_INDEX : Fld := ⟨178, 55, 16, 9, .ro, .num 0, .m, .lostP, .dev 1, [], 0, false, .none⟩
/-- BND_DIGEST.D, bits [31:0] (R306). -/
def F.BND_DIGEST_D : Fld := ⟨179, 56, 0, 32, .ro, .num 0, .m, .kept, .dev 8, [], 0, false, .none⟩
/-- BND_BUILD.BUILD, bits [31:0] (R306). -/
def F.BND_BUILD_BUILD : Fld := ⟨180, 57, 0, 32, .ro, .num 0, .m, .kept, .dev 8, [], 0, false, .none⟩
/-- LNK_STATUS.STATE, bits [1:0] (R328). -/
def F.LNK_STATUS_STATE : Fld := ⟨181, 58, 0, 2, .ro, .num 3, .m, .lostP, .dev 16, [], 0, false, .none⟩
/-- LNK_STATUS.LAT_CLASS, bits [5:2] (R328). -/
def F.LNK_STATUS_LAT_CLASS : Fld := ⟨182, 58, 2, 4, .ro, .num 0, .m, .lostP, .dev 16, [], 0, false, .none⟩
/-- LNK_STATUS.ATTEMPTS, bits [7:6] (R328). -/
def F.LNK_STATUS_ATTEMPTS : Fld := ⟨183, 58, 6, 2, .ro, .num 0, .m, .lostP, .dev 16, [], 0, false, .none⟩
/-- LNK_STATUS.TRAINING, bits [8:8] (R328). -/
def F.LNK_STATUS_TRAINING : Fld := ⟨184, 58, 8, 1, .ro, .num 0, .m, .lostP, .dev 16, [], 0, false, .none⟩
/-- LNK_STATUS.SESSION, bits [9:9] (R328). -/
def F.LNK_STATUS_SESSION : Fld := ⟨185, 58, 9, 1, .ro, .num 0, .m, .lostP, .dev 16, [], 0, false, .none⟩
/-- LNK_STATUS.LAMBDA, bits [27:16] (R328). -/
def F.LNK_STATUS_LAMBDA : Fld := ⟨186, 58, 16, 12, .ro, .num 0, .m, .lostP, .dev 16, [], 0, false, .none⟩
/-- LNK_STATUS.DOWN_REASON, bits [31:28] (R328). -/
def F.LNK_STATUS_DOWN_REASON : Fld := ⟨187, 58, 28, 4, .ro, .num 0, .m, .lostP, .dev 16, [], 0, false, .none⟩
/-- LNK_STATUS.RETRAINS, bits [47:32] (R328). -/
def F.LNK_STATUS_RETRAINS : Fld := ⟨188, 58, 32, 16, .ro, .num 0, .m, .kept, .dev 16, [], 0, false, .none⟩
/-- LNK_CTL.RETRAIN, bits [0:0] (R328). -/
def F.LNK_CTL_RETRAIN : Fld := ⟨189, 59, 0, 1, .rw1s, .num 0, .m, .lostP, .dev 16, [], 0, false, .none⟩
/-- LNK_CTL.DISABLE, bits [1:1] (R328). -/
def F.LNK_CTL_DISABLE : Fld := ⟨190, 59, 1, 1, .rw, .num 0, .m, .kept, .dev 16, [], 0, false, .other⟩
/-- LNK_ERR.FEC_CORR, bits [31:0] (R328). -/
def F.LNK_ERR_FEC_CORR : Fld := ⟨191, 60, 0, 32, .ro, .num 0, .m, .kept, .dev 16, [], 0, false, .none⟩
/-- LNK_ERR.FEC_UNCORR, bits [47:32] (R328). -/
def F.LNK_ERR_FEC_UNCORR : Fld := ⟨192, 60, 32, 16, .ro, .num 0, .m, .kept, .dev 16, [], 0, false, .none⟩
/-- LNK_ERR.CRC_FAIL, bits [63:48] (R328). -/
def F.LNK_ERR_CRC_FAIL : Fld := ⟨193, 60, 48, 16, .ro, .num 0, .m, .kept, .dev 16, [], 0, false, .none⟩
/-- LNK_CELLS.RESENDS, bits [15:0] (R328). -/
def F.LNK_CELLS_RESENDS : Fld := ⟨194, 61, 0, 16, .ro, .num 0, .m, .kept, .dev 16, [], 0, false, .none⟩
/-- LNK_CELLS.LOST, bits [31:16] (R328). -/
def F.LNK_CELLS_LOST : Fld := ⟨195, 61, 16, 16, .ro, .num 0, .m, .kept, .dev 16, [], 0, false, .none⟩
/-- LNK_CELLS.TAG_FAIL, bits [47:32] (R328). -/
def F.LNK_CELLS_TAG_FAIL : Fld := ⟨196, 61, 32, 16, .ro, .num 0, .m, .kept, .dev 16, [], 0, false, .none⟩
/-- LNK_CELLS.RCPT_FAIL, bits [63:48] (R328). -/
def F.LNK_CELLS_RCPT_FAIL : Fld := ⟨197, 61, 48, 16, .ro, .num 0, .m, .kept, .dev 16, [], 0, false, .none⟩
/-- LNK_MAP.ENTRY, bits [31:0] (R328). -/
def F.LNK_MAP_ENTRY : Fld := ⟨198, 62, 0, 32, .rw, .num 0, .k, .lostP, .dev 3072, [], 0, false, .none⟩
/-- BRG_STATUS.WIDTH, bits [1:0] (R329). -/
def F.BRG_STATUS_WIDTH : Fld := ⟨199, 63, 0, 2, .ro, .num 0, .p, .kept, .dev 10, [], 0, false, .none⟩
/-- BRG_STATUS.TRIES, bits [3:2] (R329). -/
def F.BRG_STATUS_TRIES : Fld := ⟨200, 63, 2, 2, .ro, .num 0, .p, .kept, .dev 10, [], 0, false, .none⟩
/-- BRG_STATUS.RETRAINING, bits [4:4] (R329). -/
def F.BRG_STATUS_RETRAINING : Fld := ⟨201, 63, 4, 1, .ro, .num 0, .p, .kept, .dev 10, [], 0, false, .none⟩
/-- BRG_STATUS.DISAGREE, bits [5:5] (R329). -/
def F.BRG_STATUS_DISAGREE : Fld := ⟨202, 63, 5, 1, .w1c, .num 0, .p, .kept, .dev 10, [], 0, false, .none⟩
/-- BRG_STATUS.FINE, bits [6:6] (R329). -/
def F.BRG_STATUS_FINE : Fld := ⟨203, 63, 6, 1, .ro, .num 0, .p, .kept, .dev 10, [], 0, false, .none⟩
/-- BRG_CTL.RETRAIN, bits [0:0] (R329). -/
def F.BRG_CTL_RETRAIN : Fld := ⟨204, 64, 0, 1, .rw1s, .num 0, .p, .kept, .dev 10, [], 0, false, .none⟩
/-- BRG_ERR.PARITY_UP, bits [15:0] (R329). -/
def F.BRG_ERR_PARITY_UP : Fld := ⟨205, 65, 0, 16, .ro, .num 0, .m, .kept, .dev 10, [], 0, false, .none⟩
/-- BRG_ERR.PARITY_DOWN, bits [31:16] (R329). -/
def F.BRG_ERR_PARITY_DOWN : Fld := ⟨206, 65, 16, 16, .ro, .num 0, .m, .kept, .dev 10, [], 0, false, .none⟩
/-- BRG_ERR.SERIAL_CRC, bits [47:32] (R329). -/
def F.BRG_ERR_SERIAL_CRC : Fld := ⟨207, 65, 32, 16, .ro, .num 0, .m, .kept, .dev 10, [], 0, false, .none⟩
/-- BRG_ERR.SWITCHES, bits [63:48] (R329). -/
def F.BRG_ERR_SWITCHES : Fld := ⟨208, 65, 48, 16, .ro, .num 0, .m, .kept, .dev 10, [], 0, false, .none⟩
/-- FRONT_STATUS.STATUS, bits [15:0] (R336). -/
def F.FRONT_STATUS_STATUS : Fld := ⟨209, 79, 0, 16, .ro, .num 0, .never, .kept, .dev 1, [], 0, false, .none⟩
/-- FRONT_STATUS.OPEN, bits [16:16] (R336). -/
def F.FRONT_STATUS_OPEN : Fld := ⟨210, 79, 16, 1, .ro, .num 0, .m, .kept, .dev 1, [], 0, false, .none⟩
/-- FRONT_STATUS.RING_ERR, bits [17:17] (R336). -/
def F.FRONT_STATUS_RING_ERR : Fld := ⟨211, 79, 17, 1, .ro, .num 0, .m, .kept, .dev 1, [], 0, false, .none⟩
/-- ATT_PENDING.SENSOR, bits [0:0] (R340). -/
def F.ATT_PENDING_SENSOR : Fld := ⟨212, 66, 0, 1, .w1c, .num 0, .never, .kept, .dev 1, [], 0, false, .none⟩
/-- ATT_PENDING.COOLING_DEGRADED, bits [1:1] (R340). -/
def F.ATT_PENDING_COOLING_DEGRADED : Fld := ⟨213, 66, 1, 1, .w1c, .num 0, .never, .kept, .dev 1, [], 0, false, .none⟩
/-- ATT_PENDING.CLAMP, bits [2:2] (R340). -/
def F.ATT_PENDING_CLAMP : Fld := ⟨214, 66, 2, 1, .w1c, .num 0, .never, .kept, .dev 1, [], 0, false, .none⟩
/-- ATT_PENDING.HOT_BAND, bits [3:3] (R340). -/
def F.ATT_PENDING_HOT_BAND : Fld := ⟨215, 66, 3, 1, .w1c, .num 0, .never, .kept, .dev 1, [], 0, false, .none⟩
/-- ATT_PENDING.PHASE, bits [8:8] (R340). -/
def F.ATT_PENDING_PHASE : Fld := ⟨216, 66, 8, 1, .w1c, .num 0, .never, .kept, .dev 1, [], 0, false, .none⟩
/-- ATT_PENDING.INPUT, bits [9:9] (R340). -/
def F.ATT_PENDING_INPUT : Fld := ⟨217, 66, 9, 1, .w1c, .num 0, .never, .kept, .dev 1, [], 0, false, .none⟩
/-- ATT_PENDING.LEDGER, bits [10:10] (R340). -/
def F.ATT_PENDING_LEDGER : Fld := ⟨218, 66, 10, 1, .w1c, .num 0, .never, .kept, .dev 1, [], 0, false, .none⟩
/-- ATT_PENDING.HOLDUP, bits [11:11] (R340). -/
def F.ATT_PENDING_HOLDUP : Fld := ⟨219, 66, 11, 1, .w1c, .num 0, .never, .kept, .dev 1, [], 0, false, .none⟩
/-- ATT_PENDING.PARTNER_LOST, bits [16:16] (R340). -/
def F.ATT_PENDING_PARTNER_LOST : Fld := ⟨220, 66, 16, 1, .w1c, .num 0, .never, .kept, .dev 1, [], 0, false, .none⟩
/-- ATT_PENDING.DOUBLE_DUTY, bits [17:17] (R340). -/
def F.ATT_PENDING_DOUBLE_DUTY : Fld := ⟨221, 66, 17, 1, .w1c, .num 0, .never, .kept, .dev 1, [], 0, false, .none⟩
/-- ATT_PENDING.MIRROR_LAG, bits [18:18] (R340). -/
def F.ATT_PENDING_MIRROR_LAG : Fld := ⟨222, 66, 18, 1, .w1c, .num 0, .never, .kept, .dev 1, [], 0, false, .none⟩
/-- ATT_PENDING.REJOINED, bits [19:19] (R340). -/
def F.ATT_PENDING_REJOINED : Fld := ⟨223, 66, 19, 1, .w1c, .num 0, .never, .kept, .dev 1, [], 0, false, .none⟩
/-- ATT_PENDING.PORT_DOWN, bits [24:24] (R340). -/
def F.ATT_PENDING_PORT_DOWN : Fld := ⟨224, 66, 24, 1, .w1c, .num 0, .never, .kept, .dev 1, [], 0, false, .none⟩
/-- ATT_PENDING.BEAT, bits [25:25] (R340). -/
def F.ATT_PENDING_BEAT : Fld := ⟨225, 66, 25, 1, .w1c, .num 0, .never, .kept, .dev 1, [], 0, false, .none⟩
/-- ATT_PENDING.BRIDGE, bits [26:26] (R340). -/
def F.ATT_PENDING_BRIDGE : Fld := ⟨226, 66, 26, 1, .w1c, .num 0, .never, .kept, .dev 1, [], 0, false, .none⟩
/-- ATT_PENDING.ROUTE_SHORT, bits [27:27] (R340). -/
def F.ATT_PENDING_ROUTE_SHORT : Fld := ⟨227, 66, 27, 1, .w1c, .num 0, .never, .kept, .dev 1, [], 0, false, .none⟩
/-- ATT_PENDING.CELL_LOST, bits [28:28] (R340). -/
def F.ATT_PENDING_CELL_LOST : Fld := ⟨228, 66, 28, 1, .w1c, .num 0, .never, .kept, .dev 1, [], 0, false, .none⟩
/-- ATT_PENDING.RETIRE_PENDING, bits [32:32] (R340). -/
def F.ATT_PENDING_RETIRE_PENDING : Fld := ⟨229, 66, 32, 1, .w1c, .num 0, .never, .kept, .dev 1, [], 0, false, .none⟩
/-- ATT_PENDING.UNCORR, bits [33:33] (R340). -/
def F.ATT_PENDING_UNCORR : Fld := ⟨230, 66, 33, 1, .w1c, .num 0, .never, .kept, .dev 1, [], 0, false, .none⟩
/-- ATT_PENDING.KV_LOST, bits [34:34] (R340). -/
def F.ATT_PENDING_KV_LOST : Fld := ⟨231, 66, 34, 1, .w1c, .num 0, .never, .kept, .dev 1, [], 0, false, .none⟩
/-- ATT_PENDING.SCR_LOST, bits [35:35] (R340). -/
def F.ATT_PENDING_SCR_LOST : Fld := ⟨232, 66, 35, 1, .w1c, .num 0, .never, .kept, .dev 1, [], 0, false, .none⟩
/-- ATT_PENDING.TRAP, bits [40:40] (R340). -/
def F.ATT_PENDING_TRAP : Fld := ⟨233, 66, 40, 1, .w1c, .num 0, .never, .kept, .dev 1, [], 0, false, .none⟩
/-- ATT_PENDING.CONFIG_LOST, bits [48:48] (R340). -/
def F.ATT_PENDING_CONFIG_LOST : Fld := ⟨234, 66, 48, 1, .w1c, .num 1, .never, .kept, .dev 1, [], 0, false, .none⟩
/-- FRONT_INFO.FORMAT, bits [15:0] (R356). -/
def F.FRONT_INFO_FORMAT : Fld := ⟨235, 69, 0, 16, .ro, .num 256, .never, .kept, .dev 1, [], 0, false, .none⟩
/-- FRONT_INFO.MAX_INFLIGHT, bits [23:16] (R356). -/
def F.FRONT_INFO_MAX_INFLIGHT : Fld := ⟨236, 69, 16, 8, .ro, .num 8, .never, .kept, .dev 1, [], 0, false, .none⟩
/-- FRONT_RING_CTL.OPEN, bits [0:0] (R356). -/
def F.FRONT_RING_CTL_OPEN : Fld := ⟨237, 70, 0, 1, .rw, .num 0, .m, .lostP, .dev 1, [], 0, false, .none⟩
/-- FRONT_RING_CTL.RING_ERR, bits [1:1] (R356). -/
def F.FRONT_RING_CTL_RING_ERR : Fld := ⟨238, 70, 1, 1, .w1c, .num 0, .m, .lostP, .dev 1, [], 0, false, .none⟩
/-- FRONT_RING_CTL.ERR_CAUSE, bits [4:2] (R356). -/
def F.FRONT_RING_CTL_ERR_CAUSE : Fld := ⟨239, 70, 2, 3, .ro, .num 0, .m, .lostP, .dev 1, [], 0, false, .none⟩
/-- FRONT_RING_CTL.HB_US, bits [14:8] (R356). -/
def F.FRONT_RING_CTL_HB_US : Fld := ⟨240, 70, 8, 7, .rw, .num 100, .m, .lostP, .dev 1, [(10, 100)], 0, false, .none⟩
/-- FRONT_SQ.SIZE_LOG2, bits [3:0] (R356). -/
def F.FRONT_SQ_SIZE_LOG2 : Fld := ⟨241, 71, 0, 4, .rw, .num 0, .m, .lostP, .dev 1, [(4, 15)], 0, false, .none⟩
/-- FRONT_SQ.BASE, bits [63:12] (R356). -/
def F.FRONT_SQ_BASE : Fld := ⟨242, 71, 12, 52, .rw, .num 0, .m, .lostP, .dev 1, [], 0, false, .none⟩
/-- FRONT_SQ_PTRS.TAIL, bits [31:0] (R356). -/
def F.FRONT_SQ_PTRS_TAIL : Fld := ⟨243, 72, 0, 32, .rw, .num 0, .m, .lostP, .dev 1, [], 0, false, .none⟩
/-- FRONT_SQ_PTRS.HEAD, bits [63:32] (R356). -/
def F.FRONT_SQ_PTRS_HEAD : Fld := ⟨244, 72, 32, 32, .ro, .num 0, .m, .lostP, .dev 1, [], 0, false, .none⟩
/-- FRONT_RQ.SIZE_LOG2, bits [3:0] (R356). -/
def F.FRONT_RQ_SIZE_LOG2 : Fld := ⟨245, 73, 0, 4, .rw, .num 0, .m, .lostP, .dev 1, [(4, 15)], 0, false, .none⟩
/-- FRONT_RQ.BASE, bits [63:12] (R356). -/
def F.FRONT_RQ_BASE : Fld := ⟨246, 73, 12, 52, .rw, .num 0, .m, .lostP, .dev 1, [], 0, false, .none⟩
/-- FRONT_RQ_PTRS.HEAD, bits [31:0] (R356). -/
def F.FRONT_RQ_PTRS_HEAD : Fld := ⟨247, 74, 0, 32, .rw, .num 0, .m, .lostP, .dev 1, [], 0, false, .none⟩
/-- FRONT_RQ_PTRS.TAIL, bits [63:32] (R356). -/
def F.FRONT_RQ_PTRS_TAIL : Fld := ⟨248, 74, 32, 32, .ro, .num 0, .m, .lostP, .dev 1, [], 0, false, .none⟩
/-- FRONT_WIN.PRIORITY, bits [0:0] (R356). -/
def F.FRONT_WIN_PRIORITY : Fld := ⟨249, 75, 0, 1, .rw, .num 0, .m, .lostP, .dev 1, [], 0, false, .none⟩
/-- FRONT_WIN.BASE, bits [39:33] (R356). -/
def F.FRONT_WIN_BASE : Fld := ⟨250, 75, 33, 7, .rw, .num 0, .m, .lostP, .dev 1, [(0, 120)], 0, false, .none⟩
/-- FRONT_WIN_LAST.CODE, bits [11:0] (R356). -/
def F.FRONT_WIN_LAST_CODE : Fld := ⟨251, 76, 0, 12, .ro, .num 0, .m, .lostP, .dev 1, [], 0, false, .none⟩
/-- FRONT_WIN_LAST.VALID, bits [12:12] (R356). -/
def F.FRONT_WIN_LAST_VALID : Fld := ⟨252, 76, 12, 1, .w1c, .num 0, .m, .lostP, .dev 1, [], 0, false, .none⟩
/-- FRONT_WIN_LAST.MORE, bits [13:13] (R356). -/
def F.FRONT_WIN_LAST_MORE : Fld := ⟨253, 76, 13, 1, .w1c, .num 0, .m, .lostP, .dev 1, [], 0, false, .none⟩
/-- FRONT_WIN_LAST.WRITE, bits [14:14] (R356). -/
def F.FRONT_WIN_LAST_WRITE : Fld := ⟨254, 76, 14, 1, .ro, .num 0, .m, .lostP, .dev 1, [], 0, false, .none⟩
/-- FRONT_WIN_LAST.DPA, bits [63:24] (R356). -/
def F.FRONT_WIN_LAST_DPA : Fld := ⟨255, 76, 24, 40, .ro, .num 0, .m, .lostP, .dev 1, [], 0, false, .none⟩
/-- FRONT_JOB.LOADED, bits [1:0] (R356). -/
def F.FRONT_JOB_LOADED : Fld := ⟨256, 77, 0, 2, .ro, .num 0, .p, .lostSP, .dev 1, [], 0, false, .none⟩
/-- FRONT_JOB.ACTIVE, bits [4:4] (R356). -/
def F.FRONT_JOB_ACTIVE : Fld := ⟨257, 77, 4, 1, .ro, .num 0, .k, .lostP, .dev 1, [], 0, false, .none⟩
/-- FRONT_JOB.SCHED_FRAME, bits [63:32] (R356). -/
def F.FRONT_JOB_SCHED_FRAME : Fld := ⟨258, 77, 32, 32, .ro, .num 0, .k, .lostP, .dev 1, [], 0, false, .none⟩
/-- FRONT_COUNT.COMPLETED, bits [31:0] (R356). -/
def F.FRONT_COUNT_COMPLETED : Fld := ⟨259, 78, 0, 32, .ro, .num 0, .m, .lostP, .dev 1, [], 0, false, .none⟩
/-- FRONT_COUNT.HEARTBEATS, bits [47:32] (R356). -/
def F.FRONT_COUNT_HEARTBEATS : Fld := ⟨260, 78, 32, 16, .ro, .num 0, .m, .lostP, .dev 1, [], 0, false, .none⟩
/-- FRONT_COUNT.HB_SKIPPED, bits [63:48] (R356). -/
def F.FRONT_COUNT_HB_SKIPPED : Fld := ⟨261, 78, 48, 16, .ro, .num 0, .m, .lostP, .dev 1, [], 0, false, .none⟩
/-- SYS_ID.PART, bits [15:0] (R374). -/
def F.SYS_ID_PART : Fld := ⟨262, 80, 0, 16, .ro, .num 8, .never, .kept, .dev 1, [], 0, false, .none⟩
/-- SYS_ID.MODULE_REV, bits [23:16] (R374). -/
def F.SYS_ID_MODULE_REV : Fld := ⟨263, 80, 16, 8, .ro, .num 0, .never, .kept, .dev 1, [], 0, false, .none⟩
/-- SYS_FW.VERSION, bits [15:0] (R374). -/
def F.SYS_FW_VERSION : Fld := ⟨264, 81, 0, 16, .ro, .num 0, .m, .kept, .dev 1, [], 0, false, .none⟩
/-- SYS_FW.IMAGE, bits [16:16] (R374). -/
def F.SYS_FW_IMAGE : Fld := ⟨265, 81, 16, 1, .ro, .num 0, .m, .kept, .dev 1, [], 0, false, .none⟩
/-- SYS_FW.FALLBACK, bits [17:17] (R374). -/
def F.SYS_FW_FALLBACK : Fld := ⟨266, 81, 17, 1, .ro, .num 0, .m, .kept, .dev 1, [], 0, false, .none⟩
/-- SYS_BOOT_STATUS.STAGE, bits [3:0] (R374). -/
def F.SYS_BOOT_STATUS_STAGE : Fld := ⟨267, 82, 0, 4, .ro, .num 0, .m, .kept, .dev 1, [], 0, false, .none⟩
/-- SYS_BOOT_STATUS.PATH, bits [4:4] (R374). -/
def F.SYS_BOOT_STATUS_PATH : Fld := ⟨268, 82, 4, 1, .ro, .num 0, .m, .kept, .dev 1, [], 0, false, .none⟩
/-- SYS_BOOT_STATUS.FAIL_STAGE, bits [11:8] (R374). -/
def F.SYS_BOOT_STATUS_FAIL_STAGE : Fld := ⟨269, 82, 8, 4, .ro, .num 0, .m, .kept, .dev 1, [], 0, false, .none⟩
/-- SYS_BOOT_STATUS.ELAPSED_MS, bits [31:16] (R374). -/
def F.SYS_BOOT_STATUS_ELAPSED_MS : Fld := ⟨270, 82, 16, 16, .ro, .num 0, .m, .kept, .dev 1, [], 0, false, .none⟩
/-- SYS_BOOT_STATUS.SLICE_RETRAINS, bits [39:32] (R374). -/
def F.SYS_BOOT_STATUS_SLICE_RETRAINS : Fld := ⟨271, 82, 32, 8, .ro, .num 0, .m, .kept, .dev 1, [], 0, false, .none⟩
/-- SYS_BOOT_STATUS.BKU_RETIRED_NOW, bits [47:40] (R374). -/
def F.SYS_BOOT_STATUS_BKU_RETIRED_NOW : Fld := ⟨272, 82, 40, 8, .ro, .num 0, .m, .kept, .dev 1, [], 0, false, .none⟩
/-- SYS_BOOT_CTL.NEXT_FULL, bits [0:0] (R374). -/
def F.SYS_BOOT_CTL_NEXT_FULL : Fld := ⟨273, 83, 0, 1, .rw, .num 0, .never, .kept, .dev 1, [], 0, false, .other⟩
/-- SYS_RESET.KIND, bits [2:0] (R375). -/
def F.SYS_RESET_KIND : Fld := ⟨274, 84, 0, 3, .wo, .num 0, .never, .kept, .dev 1, [(0, 4)], 0, false, .none⟩
/-- SYS_RESET.PIER, bits [6:3] (R375). -/
def F.SYS_RESET_PIER : Fld := ⟨275, 84, 3, 4, .wo, .num 0, .never, .kept, .dev 1, [(0, 7)], 0, false, .none⟩
/-- SYS_RESET.POSITION, bits [10:7] (R375). -/
def F.SYS_RESET_POSITION : Fld := ⟨276, 84, 7, 4, .wo, .num 0, .never, .kept, .dev 1, [(0, 12)], 0, false, .none⟩
/-- SYS_RESET_STATUS.BUSY, bits [0:0] (R375). -/
def F.SYS_RESET_STATUS_BUSY : Fld := ⟨277, 85, 0, 1, .ro, .num 0, .m, .kept, .dev 1, [], 0, false, .none⟩
/-- SYS_RESET_STATUS.LAST_KIND, bits [3:1] (R375). -/
def F.SYS_RESET_STATUS_LAST_KIND : Fld := ⟨278, 85, 1, 3, .ro, .num 0, .c, .kept, .dev 1, [], 0, false, .none⟩
/-- SYS_RESET_STATUS.LAST_CAUSE, bits [7:4] (R375). -/
def F.SYS_RESET_STATUS_LAST_CAUSE : Fld := ⟨279, 85, 4, 4, .ro, .num 0, .c, .kept, .dev 1, [], 0, false, .none⟩
/-- SYS_RESET_STATUS.ABSORBED, bits [15:8] (R375). -/
def F.SYS_RESET_STATUS_ABSORBED : Fld := ⟨280, 85, 8, 8, .ro, .num 0, .m, .kept, .dev 1, [], 0, false, .none⟩
/-- SYS_RESET_STATUS.LAST_MS, bits [31:16] (R375). -/
def F.SYS_RESET_STATUS_LAST_MS : Fld := ⟨281, 85, 16, 16, .ro, .num 0, .m, .kept, .dev 1, [], 0, false, .none⟩
/-- SYS_RESET_STATUS.TILE_RESETS, bits [47:32] (R375). -/
def F.SYS_RESET_STATUS_TILE_RESETS : Fld := ⟨282, 85, 32, 16, .ro, .num 0, .m, .kept, .dev 1, [], 0, false, .none⟩
/-- SYS_RESET_STATUS.OTHER_RESETS, bits [63:48] (R375). -/
def F.SYS_RESET_STATUS_OTHER_RESETS : Fld := ⟨283, 85, 48, 16, .ro, .num 0, .m, .kept, .dev 1, [], 0, false, .none⟩
/-- SYS_POWER.REQ, bits [1:0] (R376). -/
def F.SYS_POWER_REQ : Fld := ⟨284, 86, 0, 2, .rw, .num 0, .m, .kept, .dev 1, [], 0, false, .none⟩
/-- SYS_POWER.STATE, bits [3:2] (R376). -/
def F.SYS_POWER_STATE : Fld := ⟨285, 86, 2, 2, .ro, .num 0, .m, .kept, .dev 1, [], 0, false, .none⟩
/-- SYS_POWER.MOVING, bits [4:4] (R376). -/
def F.SYS_POWER_MOVING : Fld := ⟨286, 86, 4, 1, .ro, .num 0, .m, .kept, .dev 1, [], 0, false, .none⟩
/-- SYS_POWER.REFUSED, bits [5:5] (R376). -/
def F.SYS_POWER_REFUSED : Fld := ⟨287, 86, 5, 1, .w1c, .num 0, .m, .kept, .dev 1, [], 0, false, .none⟩
/-- SYS_CFG_LOST.BOND, bits [0:0] (R377). -/
def F.SYS_CFG_LOST_BOND : Fld := ⟨288, 87, 0, 1, .ro, .num 1, .never, .kept, .dev 1, [], 0, false, .none⟩
/-- SYS_CFG_LOST.TILE, bits [1:1] (R377). -/
def F.SYS_CFG_LOST_TILE : Fld := ⟨289, 87, 1, 1, .ro, .num 0, .never, .kept, .dev 1, [], 0, false, .none⟩
/-- SYS_CFG_LOST.BEAT, bits [2:2] (R377). -/
def F.SYS_CFG_LOST_BEAT : Fld := ⟨290, 87, 2, 1, .ro, .num 0, .never, .kept, .dev 1, [], 0, false, .none⟩
/-- SYS_CFG_LOST.THERMAL, bits [3:3] (R377). -/
def F.SYS_CFG_LOST_THERMAL : Fld := ⟨291, 87, 3, 1, .ro, .num 0, .never, .kept, .dev 1, [], 0, false, .none⟩
/-- SYS_CFG_LOST.KV, bits [4:4] (R377). -/
def F.SYS_CFG_LOST_KV : Fld := ⟨292, 87, 4, 1, .ro, .num 0, .never, .kept, .dev 1, [], 0, false, .none⟩
/-- SYS_CFG_LOST.OTHER, bits [5:5] (R377). -/
def F.SYS_CFG_LOST_OTHER : Fld := ⟨293, 87, 5, 1, .ro, .num 0, .never, .kept, .dev 1, [], 0, false, .none⟩
/-- SYS_TILE_UNCONF.TILES, bits [63:0] (R377). -/
def F.SYS_TILE_UNCONF_TILES : Fld := ⟨294, 88, 0, 64, .ro, .num 0, .never, .kept, .dev 2, [], 0, false, .none⟩
/-- THM_CFG.KEEP_WARM_C, bits [7:0] (R406). -/
def F.THM_CFG_KEEP_WARM_C : Fld := ⟨295, 89, 0, 8, .rw, .num 45, .m, .kept, .dev 1, [(30, 60)], 0, false, .thermal⟩
/-- THM_CFG.KEEP_WARM_EN, bits [8:8] (R406). -/
def F.THM_CFG_KEEP_WARM_EN : Fld := ⟨296, 89, 8, 1, .rw, .num 1, .m, .kept, .dev 1, [], 0, false, .thermal⟩
/-- THM_CFG.MARGIN_C, bits [15:12] (R406). -/
def F.THM_CFG_MARGIN_C : Fld := ⟨297, 89, 12, 4, .rw, .num 5, .m, .kept, .dev 1, [(2, 15)], 0, false, .thermal⟩
/-- THM_CFG.COOLANT_CV, bits [31:16] (R406). -/
def F.THM_CFG_COOLANT_CV : Fld := ⟨298, 89, 16, 16, .rw, .num 3850, .m, .kept, .dev 1, [(3000, 4300)], 0, false, .thermal⟩
/-- THM_STATUS.COOLING_DEGRADED, bits [0:0] (R406). -/
def F.THM_STATUS_COOLING_DEGRADED : Fld := ⟨299, 90, 0, 1, .ro, .num 0, .m, .kept, .dev 1, [], 0, false, .none⟩
/-- THM_STATUS.CLAMPED, bits [1:1] (R406). -/
def F.THM_STATUS_CLAMPED : Fld := ⟨300, 90, 1, 1, .ro, .num 0, .m, .kept, .dev 1, [], 0, false, .none⟩
/-- THM_STATUS.SHUTDOWN, bits [2:2] (R406). -/
def F.THM_STATUS_SHUTDOWN : Fld := ⟨301, 90, 2, 1, .ro, .num 0, .m, .kept, .dev 1, [], 0, false, .none⟩
/-- THM_STATUS.COMMISSIONED, bits [3:3] (R406). -/
def F.THM_STATUS_COMMISSIONED : Fld := ⟨302, 90, 3, 1, .ro, .num 0, .never, .kept, .dev 1, [], 0, false, .none⟩
/-- THM_STATUS.PRESSURE, bits [4:4] (R406). -/
def F.THM_STATUS_PRESSURE : Fld := ⟨303, 90, 4, 1, .ro, .num 0, .never, .kept, .dev 1, [], 0, false, .none⟩
/-- THM_STATUS.FAST, bits [15:8] (R406). -/
def F.THM_STATUS_FAST : Fld := ⟨304, 90, 8, 8, .ro, .num 0, .never, .kept, .dev 1, [], 0, false, .none⟩
/-- THM_STATUS.MODEL_ERR, bits [23:16] (R406). -/
def F.THM_STATUS_MODEL_ERR : Fld := ⟨305, 90, 16, 8, .ro, .num 0, .m, .kept, .dev 1, [], 0, false, .none⟩
/-- THM_STATUS.CLAMPS, bits [47:32] (R406). -/
def F.THM_STATUS_CLAMPS : Fld := ⟨306, 90, 32, 16, .ro, .num 0, .m, .kept, .dev 1, [], 0, false, .none⟩
/-- THM_STATUS.CLAMP_CAUSE, bits [51:48] (R406). -/
def F.THM_STATUS_CLAMP_CAUSE : Fld := ⟨307, 90, 48, 4, .ro, .num 0, .m, .kept, .dev 1, [], 0, false, .none⟩
/-- THM_COOLANT.INLET, bits [11:0] (R406). -/
def F.THM_COOLANT_INLET : Fld := ⟨308, 91, 0, 12, .ro, .num 0, .never, .kept, .dev 1, [], 0, false, .none⟩
/-- THM_COOLANT.OUTLET, bits [23:12] (R406). -/
def F.THM_COOLANT_OUTLET : Fld := ⟨309, 91, 12, 12, .ro, .num 0, .never, .kept, .dev 1, [], 0, false, .none⟩
/-- THM_COOLANT.FLOW, bits [35:24] (R406). -/
def F.THM_COOLANT_FLOW : Fld := ⟨310, 91, 24, 12, .ro, .num 0, .never, .kept, .dev 1, [], 0, false, .none⟩
/-- THM_TRIP.SITE, bits [10:0] (R406). -/
def F.THM_TRIP_SITE : Fld := ⟨311, 92, 0, 11, .ro, .num 0, .never, .kept, .dev 1, [], 0, false, .none⟩
/-- THM_TRIP.VALID, bits [11:11] (R406). -/
def F.THM_TRIP_VALID : Fld := ⟨312, 92, 11, 1, .w1c, .num 0, .never, .kept, .dev 1, [], 0, false, .none⟩
/-- THM_TRIP.READING, bits [23:12] (R406). -/
def F.THM_TRIP_READING : Fld := ⟨313, 92, 12, 12, .ro, .num 0, .never, .kept, .dev 1, [], 0, false, .none⟩
/-- THM_COMMISSION.START, bits [0:0] (R406). -/
def F.THM_COMMISSION_START : Fld := ⟨314, 93, 0, 1, .rw1s, .num 0, .m, .kept, .dev 1, [], 0, false, .none⟩
/-- THM_COMMISSION.RUNNING, bits [1:1] (R406). -/
def F.THM_COMMISSION_RUNNING : Fld := ⟨315, 93, 1, 1, .ro, .num 0, .m, .kept, .dev 1, [], 0, false, .none⟩
/-- THM_COMMISSION.DONE, bits [2:2] (R406). -/
def F.THM_COMMISSION_DONE : Fld := ⟨316, 93, 2, 1, .w1c, .num 0, .m, .kept, .dev 1, [], 0, false, .none⟩
/-- THM_COMMISSION.FAIL, bits [3:3] (R406). -/
def F.THM_COMMISSION_FAIL : Fld := ⟨317, 93, 3, 1, .w1c, .num 0, .m, .kept, .dev 1, [], 0, false, .none⟩
/-- THM_PIER.HOT, bits [11:0] (R407). -/
def F.THM_PIER_HOT : Fld := ⟨318, 94, 0, 12, .ro, .num 0, .never, .kept, .dev 8, [], 0, false, .none⟩
/-- THM_PIER.COURSE, bits [23:12] (R407). -/
def F.THM_PIER_COURSE : Fld := ⟨319, 94, 12, 12, .ro, .num 0, .never, .kept, .dev 8, [], 0, false, .none⟩
/-- THM_PIER.FORE_HOT, bits [35:24] (R407). -/
def F.THM_PIER_FORE_HOT : Fld := ⟨320, 94, 24, 12, .ro, .num 0, .never, .kept, .dev 8, [], 0, false, .none⟩
/-- THM_PIER.FORE_COURSE, bits [47:36] (R407). -/
def F.THM_PIER_FORE_COURSE : Fld := ⟨321, 94, 36, 12, .ro, .num 0, .never, .kept, .dev 8, [], 0, false, .none⟩
/-- THM_PIER.CAP, bits [59:48] (R407). -/
def F.THM_PIER_CAP : Fld := ⟨322, 94, 48, 12, .ro, .num 0, .never, .kept, .dev 8, [], 0, false, .none⟩
/-- THM_RTH.RTH_J, bits [15:0] (R407). -/
def F.THM_RTH_RTH_J : Fld := ⟨323, 95, 0, 16, .ro, .num 0, .never, .kept, .dev 8, [], 0, false, .none⟩
/-- THM_RTH.RTH_M, bits [31:16] (R407). -/
def F.THM_RTH_RTH_M : Fld := ⟨324, 95, 16, 16, .ro, .num 0, .never, .kept, .dev 8, [], 0, false, .none⟩
/-- THM_RTH.NOM_J, bits [47:32] (R407). -/
def F.THM_RTH_NOM_J : Fld := ⟨325, 95, 32, 16, .ro, .num 0, .never, .kept, .dev 8, [], 0, false, .none⟩
/-- THM_RTH.NOM_M, bits [63:48] (R407). -/
def F.THM_RTH_NOM_M : Fld := ⟨326, 95, 48, 16, .ro, .num 0, .never, .kept, .dev 8, [], 0, false, .none⟩
/-- THM_SENSOR.READING, bits [11:0] (R407). -/
def F.THM_SENSOR_READING : Fld := ⟨327, 96, 0, 12, .ro, .num 0, .never, .kept, .dev 1332, [], 0, false, .none⟩
/-- THM_SENSOR.ESTIMATE, bits [23:12] (R407). -/
def F.THM_SENSOR_ESTIMATE : Fld := ⟨328, 96, 12, 12, .ro, .num 0, .never, .kept, .dev 1332, [], 0, false, .none⟩
/-- THM_SENSOR.STATE, bits [25:24] (R407). -/
def F.THM_SENSOR_STATE : Fld := ⟨329, 96, 24, 2, .ro, .num 0, .never, .kept, .dev 1332, [], 0, false, .none⟩
/-- THM_SENSOR.STRIKES, bits [27:26] (R407). -/
def F.THM_SENSOR_STRIKES : Fld := ⟨330, 96, 26, 2, .ro, .num 0, .never, .kept, .dev 1332, [], 0, false, .none⟩
/-- PWR_STATUS.INPUT_W, bits [11:0] (R408). -/
def F.PWR_STATUS_INPUT_W : Fld := ⟨331, 97, 0, 12, .ro, .num 0, .never, .kept, .dev 1, [], 0, false, .none⟩
/-- PWR_STATUS.INPUT_V, bits [19:12] (R408). -/
def F.PWR_STATUS_INPUT_V : Fld := ⟨332, 97, 12, 8, .ro, .num 0, .never, .kept, .dev 1, [], 0, false, .none⟩
/-- PWR_STATUS.ENV, bits [21:20] (R408). -/
def F.PWR_STATUS_ENV : Fld := ⟨333, 97, 20, 2, .ro, .num 0, .never, .kept, .dev 1, [], 0, false, .none⟩
/-- PWR_STATUS.LEDGER_OK, bits [22:22] (R408). -/
def F.PWR_STATUS_LEDGER_OK : Fld := ⟨334, 97, 22, 1, .ro, .num 1, .never, .kept, .dev 1, [], 0, false, .none⟩
/-- PWR_STATUS.BOOST_LEFT, bits [34:24] (R408). -/
def F.PWR_STATUS_BOOST_LEFT : Fld := ⟨335, 97, 24, 11, .ro, .num 0, .never, .kept, .dev 1, [], 0, false, .none⟩
/-- PWR_STATUS.PEAK_LEFT, bits [42:35] (R408). -/
def F.PWR_STATUS_PEAK_LEFT : Fld := ⟨336, 97, 35, 8, .ro, .num 0, .never, .kept, .dev 1, [], 0, false, .none⟩
/-- PWR_STATUS.COOLDOWN, bits [55:43] (R408). -/
def F.PWR_STATUS_COOLDOWN : Fld := ⟨337, 97, 43, 13, .ro, .num 0, .never, .kept, .dev 1, [], 0, false, .none⟩
/-- PWR_COUNT.RESTS_THERMAL, bits [15:0] (R408). -/
def F.PWR_COUNT_RESTS_THERMAL : Fld := ⟨338, 98, 0, 16, .ro, .num 0, .m, .kept, .dev 1, [], 0, false, .none⟩
/-- PWR_COUNT.RESTS_ENVELOPE, bits [31:16] (R408). -/
def F.PWR_COUNT_RESTS_ENVELOPE : Fld := ⟨339, 98, 16, 16, .ro, .num 0, .m, .kept, .dev 1, [], 0, false, .none⟩
/-- PWR_COUNT.OVERRUNS, bits [47:32] (R408). -/
def F.PWR_COUNT_OVERRUNS : Fld := ⟨340, 98, 32, 16, .ro, .num 0, .m, .kept, .dev 1, [], 0, false, .none⟩
/-- PWR_COUNT.RAMP_BREAKS, bits [63:48] (R408). -/
def F.PWR_COUNT_RAMP_BREAKS : Fld := ⟨341, 98, 48, 16, .ro, .num 0, .m, .kept, .dev 1, [], 0, false, .none⟩
/-- PWR_ENVELOPE.SUSTAINED_W, bits [11:0] (R408). -/
def F.PWR_ENVELOPE_SUSTAINED_W : Fld := ⟨342, 99, 0, 12, .ro, .num 2800, .k, .lostP, .dev 1, [], 0, false, .none⟩
/-- PWR_ENVELOPE.BOOST, bits [12:12] (R408). -/
def F.PWR_ENVELOPE_BOOST : Fld := ⟨343, 99, 12, 1, .ro, .num 1, .k, .lostP, .dev 1, [], 0, false, .none⟩
/-- PWR_ENVELOPE.PEAK, bits [13:13] (R408). -/
def F.PWR_ENVELOPE_PEAK : Fld := ⟨344, 99, 13, 1, .ro, .num 1, .k, .lostP, .dev 1, [], 0, false, .none⟩
/-- PWR_DOMAINS.ON, bits [25:0] (R408). -/
def F.PWR_DOMAINS_ON : Fld := ⟨345, 100, 0, 26, .ro, .num 0, .never, .kept, .dev 1, [], 0, false, .none⟩
/-- PWR_LEDGER.USED, bits [23:0] (R409). -/
def F.PWR_LEDGER_USED : Fld := ⟨346, 101, 0, 24, .ro, .num 0, .never, .kept, .dev 1, [], 0, false, .none⟩
/-- PWR_LEDGER.PLAN, bits [47:24] (R409). -/
def F.PWR_LEDGER_PLAN : Fld := ⟨347, 101, 24, 24, .ro, .num 0, .never, .kept, .dev 1, [], 0, false, .none⟩
/-- PWR_LEDGER.WITHHELD, bits [48:48] (R409). -/
def F.PWR_LEDGER_WITHHELD : Fld := ⟨348, 101, 48, 1, .ro, .num 0, .never, .kept, .dev 1, [], 0, false, .none⟩
/-- PWR_HOLDUP.ENERGY, bits [11:0] (R409). -/
def F.PWR_HOLDUP_ENERGY : Fld := ⟨349, 102, 0, 12, .ro, .num 0, .never, .kept, .dev 1, [], 0, false, .none⟩
/-- PWR_HOLDUP.OK, bits [12:12] (R409). -/
def F.PWR_HOLDUP_OK : Fld := ⟨350, 102, 12, 1, .ro, .num 0, .never, .kept, .dev 1, [], 0, false, .none⟩
/-- PWR_RAIL.COMPUTE_W, bits [11:0] (R409). -/
def F.PWR_RAIL_COMPUTE_W : Fld := ⟨351, 103, 0, 12, .ro, .num 0, .never, .kept, .dev 8, [], 0, false, .none⟩
/-- PWR_RAIL.COURSE_W, bits [19:12] (R409). -/
def F.PWR_RAIL_COURSE_W : Fld := ⟨352, 103, 12, 8, .ro, .num 0, .never, .kept, .dev 8, [], 0, false, .none⟩
/-- PWR_RAIL.FILLER_W, bits [28:20] (R409). -/
def F.PWR_RAIL_FILLER_W : Fld := ⟨353, 103, 20, 9, .ro, .num 0, .never, .kept, .dev 8, [], 0, false, .none⟩
/-- PWR_RAIL.PHASES_COMPUTE, bits [33:29] (R409). -/
def F.PWR_RAIL_PHASES_COMPUTE : Fld := ⟨354, 103, 29, 5, .ro, .num 16, .never, .kept, .dev 8, [], 0, false, .none⟩
/-- PWR_RAIL.PHASES_COURSE, bits [36:34] (R409). -/
def F.PWR_RAIL_PHASES_COURSE : Fld := ⟨355, 103, 34, 3, .ro, .num 4, .never, .kept, .dev 8, [], 0, false, .none⟩
/-- PWR_RAIL.LIMIT_W, bits [48:37] (R409). -/
def F.PWR_RAIL_LIMIT_W : Fld := ⟨356, 103, 37, 12, .ro, .num 480, .never, .kept, .dev 8, [], 0, false, .none⟩
/-- TWN_STATUS.STATE, bits [3:0] (R433). -/
def F.TWN_STATUS_STATE : Fld := ⟨357, 104, 0, 4, .ro, .num 0, .k, .lostP, .dev 1, [], 0, false, .none⟩
/-- TWN_STATUS.PARTNER_STATE, bits [7:4] (R433). -/
def F.TWN_STATUS_PARTNER_STATE : Fld := ⟨358, 104, 4, 4, .ro, .num 0, .k, .lostP, .dev 1, [], 0, false, .none⟩
/-- TWN_STATUS.REFUSE_REASON, bits [11:8] (R433). -/
def F.TWN_STATUS_REFUSE_REASON : Fld := ⟨359, 104, 8, 4, .ro, .num 0, .k, .lostP, .dev 1, [], 0, false, .none⟩
/-- TWN_STATUS.SILENT, bits [12:12] (R433). -/
def F.TWN_STATUS_SILENT : Fld := ⟨360, 104, 12, 1, .ro, .num 0, .k, .lostP, .dev 1, [], 0, false, .none⟩
/-- TWN_STATUS.RESYNC, bits [13:13] (R433). -/
def F.TWN_STATUS_RESYNC : Fld := ⟨361, 104, 13, 1, .ro, .num 0, .k, .lostP, .dev 1, [], 0, false, .none⟩
/-- TWN_STATUS.EPOCH, bits [63:32] (R433). -/
def F.TWN_STATUS_EPOCH : Fld := ⟨362, 104, 32, 32, .ro, .num 0, .k, .lostP, .dev 1, [], 0, false, .none⟩
/-- TWN_CTL.TAKEOVER, bits [0:0] (R433). -/
def F.TWN_CTL_TAKEOVER : Fld := ⟨363, 105, 0, 1, .rw1s, .num 0, .k, .lostP, .dev 1, [], 0, false, .none⟩
/-- TWN_CTL.BACKFILL, bits [1:1] (R433). -/
def F.TWN_CTL_BACKFILL : Fld := ⟨364, 105, 1, 1, .rw1s, .num 0, .k, .lostP, .dev 1, [], 0, false, .none⟩
/-- TWN_CTL.RELEASE, bits [2:2] (R433). -/
def F.TWN_CTL_RELEASE : Fld := ⟨365, 105, 2, 1, .rw1s, .num 0, .k, .lostP, .dev 1, [], 0, false, .none⟩
/-- TWN_MIRROR.BACKLOG, bits [7:0] (R433). -/
def F.TWN_MIRROR_BACKLOG : Fld := ⟨366, 106, 0, 8, .ro, .num 0, .k, .lostP, .dev 1, [], 0, false, .none⟩
/-- TWN_MIRROR.UNDO_FILL, bits [15:8] (R433). -/
def F.TWN_MIRROR_UNDO_FILL : Fld := ⟨367, 106, 8, 8, .ro, .num 0, .k, .lostP, .dev 1, [], 0, false, .none⟩
/-- TWN_MIRROR.VOIDS, bits [31:16] (R433). -/
def F.TWN_MIRROR_VOIDS : Fld := ⟨368, 106, 16, 16, .ro, .num 0, .m, .kept, .dev 1, [], 0, false, .none⟩
/-- TWN_MIRROR.COMMITS, bits [63:32] (R433). -/
def F.TWN_MIRROR_COMMITS : Fld := ⟨369, 106, 32, 32, .ro, .num 0, .m, .kept, .dev 1, [], 0, false, .none⟩
/-- TWN_TAKEOVER.RESUME_FRAME, bits [31:0] (R433). -/
def F.TWN_TAKEOVER_RESUME_FRAME : Fld := ⟨370, 107, 0, 32, .ro, .num 0, .k, .lostP, .dev 1, [], 0, false, .none⟩
/-- TWN_TAKEOVER.LOST_BEAT, bits [63:32] (R433). -/
def F.TWN_TAKEOVER_LOST_BEAT : Fld := ⟨371, 107, 32, 32, .ro, .num 0, .k, .lostP, .dev 1, [], 0, false, .none⟩
/-- TWN_COUNT.TAKEOVERS, bits [15:0] (R433). -/
def F.TWN_COUNT_TAKEOVERS : Fld := ⟨372, 108, 0, 16, .ro, .num 0, .m, .kept, .dev 1, [], 0, false, .none⟩
/-- TWN_COUNT.REJOINS, bits [31:16] (R433). -/
def F.TWN_COUNT_REJOINS : Fld := ⟨373, 108, 16, 16, .ro, .num 0, .m, .kept, .dev 1, [], 0, false, .none⟩
/-- TWN_COUNT.HB_MISSED, bits [47:32] (R433). -/
def F.TWN_COUNT_HB_MISSED : Fld := ⟨374, 108, 32, 16, .ro, .num 0, .m, .kept, .dev 1, [], 0, false, .none⟩
/-- TWN_COUNT.REFUSALS, bits [63:48] (R433). -/
def F.TWN_COUNT_REFUSALS : Fld := ⟨375, 108, 48, 16, .ro, .num 0, .m, .kept, .dev 1, [], 0, false, .none⟩
/-- QUO_STATUS.OWNED, bits [0:0] (R457). -/
def F.QUO_STATUS_OWNED : Fld := ⟨376, 109, 0, 1, .ro, .num 0, .never, .kept, .dev 1, [], 0, false, .none⟩
/-- QUO_STATUS.TRNG_OK, bits [1:1] (R457). -/
def F.QUO_STATUS_TRNG_OK : Fld := ⟨377, 109, 1, 1, .ro, .num 1, .m, .kept, .dev 1, [], 0, false, .none⟩
/-- QUO_STATUS.DEBUG_OPEN, bits [2:2] (R457). -/
def F.QUO_STATUS_DEBUG_OPEN : Fld := ⟨378, 109, 2, 1, .ro, .num 0, .m, .kept, .dev 1, [], 0, false, .none⟩
/-- QUO_STATUS.SEALED_ANY, bits [3:3] (R457). -/
def F.QUO_STATUS_SEALED_ANY : Fld := ⟨379, 109, 3, 1, .ro, .num 0, .never, .kept, .dev 1, [], 0, false, .none⟩
/-- QUO_STATUS.ALIAS_READY, bits [4:4] (R457). -/
def F.QUO_STATUS_ALIAS_READY : Fld := ⟨380, 109, 4, 1, .ro, .num 0, .m, .kept, .dev 1, [], 0, false, .none⟩
/-- QUO_STATUS.SESSIONS, bits [10:8] (R457). -/
def F.QUO_STATUS_SESSIONS : Fld := ⟨381, 109, 8, 3, .ro, .num 0, .m, .kept, .dev 1, [], 0, false, .none⟩
/-- QUO_IDENT.IDENT, bits [63:0] (R457). -/
def F.QUO_IDENT_IDENT : Fld := ⟨382, 110, 0, 64, .ro, .num 0, .never, .kept, .dev 1, [], 0, false, .none⟩
/-- QUO_OWNER.OWNER_DIGEST, bits [47:0] (R457). -/
def F.QUO_OWNER_OWNER_DIGEST : Fld := ⟨383, 111, 0, 48, .ro, .num 0, .never, .kept, .dev 1, [], 0, false, .none⟩
/-- QUO_OWNER.EPOCH, bits [53:48] (R457). -/
def F.QUO_OWNER_EPOCH : Fld := ⟨384, 111, 48, 6, .ro, .num 0, .never, .kept, .dev 1, [], 0, false, .none⟩
/-- QUO_FW.SVN_FUSED, bits [15:0] (R457). -/
def F.QUO_FW_SVN_FUSED : Fld := ⟨385, 112, 0, 16, .ro, .num 0, .never, .kept, .dev 1, [], 0, false, .none⟩
/-- QUO_FW.SVN_RUNNING, bits [31:16] (R457). -/
def F.QUO_FW_SVN_RUNNING : Fld := ⟨386, 112, 16, 16, .ro, .num 0, .m, .kept, .dev 1, [], 0, false, .none⟩
/-- QUO_FW.SVN_B, bits [47:32] (R457). -/
def F.QUO_FW_SVN_B : Fld := ⟨387, 112, 32, 16, .ro, .num 0, .never, .kept, .dev 1, [], 0, false, .none⟩
/-- QUO_CMD.OP, bits [3:0] (R457). -/
def F.QUO_CMD_OP : Fld := ⟨388, 113, 0, 4, .wo, .num 0, .never, .kept, .dev 1, [(1, 11)], 0, false, .none⟩
/-- QUO_CMD.ARG, bits [13:8] (R457). -/
def F.QUO_CMD_ARG : Fld := ⟨389, 113, 8, 6, .wo, .num 0, .never, .kept, .dev 1, [], 0, false, .none⟩
/-- QUO_CMD.LENGTH, bits [63:32] (R457). -/
def F.QUO_CMD_LENGTH : Fld := ⟨390, 113, 32, 32, .wo, .num 0, .never, .kept, .dev 1, [], 0, false, .none⟩
/-- QUO_CMD_ADDR.ADDR, bits [63:0] (R457). -/
def F.QUO_CMD_ADDR_ADDR : Fld := ⟨391, 114, 0, 64, .rw, .num 0, .m, .kept, .dev 1, [], 3, false, .other⟩
/-- QUO_CMD_STATUS.BUSY, bits [0:0] (R457). -/
def F.QUO_CMD_STATUS_BUSY : Fld := ⟨392, 115, 0, 1, .ro, .num 0, .m, .kept, .dev 1, [], 0, false, .none⟩
/-- QUO_CMD_STATUS.RESULT, bits [15:8] (R457). -/
def F.QUO_CMD_STATUS_RESULT : Fld := ⟨393, 115, 8, 8, .ro, .num 0, .m, .kept, .dev 1, [], 0, false, .none⟩
/-- QUO_CMD_STATUS.DETAIL, bits [31:16] (R457). -/
def F.QUO_CMD_STATUS_DETAIL : Fld := ⟨394, 115, 16, 16, .ro, .num 0, .m, .kept, .dev 1, [], 0, false, .none⟩
/-- QUO_CMD_STATUS.COMMANDS, bits [47:32] (R457). -/
def F.QUO_CMD_STATUS_COMMANDS : Fld := ⟨395, 115, 32, 16, .ro, .num 0, .m, .kept, .dev 1, [], 0, false, .none⟩
/-- QUO_KEYS.LOADED, bits [63:0] (R457). -/
def F.QUO_KEYS_LOADED : Fld := ⟨396, 116, 0, 64, .ro, .num 0, .m, .kept, .dev 1, [], 0, false, .none⟩
/-- QUO_DEBUG.SCOPE, bits [3:0] (R457). -/
def F.QUO_DEBUG_SCOPE : Fld := ⟨397, 117, 0, 4, .ro, .num 0, .m, .kept, .dev 1, [], 0, false, .none⟩
/-- QUO_DEBUG.OPENINGS, bits [23:8] (R457). -/
def F.QUO_DEBUG_OPENINGS : Fld := ⟨398, 117, 8, 16, .ro, .num 0, .never, .kept, .dev 1, [], 0, false, .none⟩
/-- QUO_SEAL.GRANULES, bits [19:0] (R457). -/
def F.QUO_SEAL_GRANULES : Fld := ⟨399, 118, 0, 20, .ro, .num 0, .never, .kept, .dev 1, [], 0, false, .none⟩
/-- QUO_SEAL.ZEROING, bits [20:20] (R457). -/
def F.QUO_SEAL_ZEROING : Fld := ⟨400, 118, 20, 1, .ro, .num 0, .m, .kept, .dev 1, [], 0, false, .none⟩
/-- QUO_MEAS.VALUE, bits [31:0] (R457). -/
def F.QUO_MEAS_VALUE : Fld := ⟨401, 119, 0, 32, .ro, .num 0, .m, .kept, .dev 128, [], 0, false, .none⟩
/-- QUO_NONCE.NONCE, bits [31:0] (R457). -/
def F.QUO_NONCE_NONCE : Fld := ⟨402, 120, 0, 32, .ro, .num 0, .m, .kept, .dev 4, [], 0, false, .none⟩
/-- SCB_CTL.FREEZE, bits [0:0] (R471). -/
def F.SCB_CTL_FREEZE : Fld := ⟨403, 121, 0, 1, .rw1s, .num 0, .m, .kept, .dev 1, [], 0, false, .none⟩
/-- SCB_CTL.THAW, bits [1:1] (R471). -/
def F.SCB_CTL_THAW : Fld := ⟨404, 121, 1, 1, .wo, .num 0, .never, .kept, .dev 1, [], 0, false, .none⟩
/-- SCB_CTL.FLUSH, bits [2:2] (R471). -/
def F.SCB_CTL_FLUSH : Fld := ⟨405, 121, 2, 1, .rw1s, .num 0, .m, .kept, .dev 1, [], 0, false, .none⟩
/-- SCB_CTL.CLEAR, bits [3:3] (R471). -/
def F.SCB_CTL_CLEAR : Fld := ⟨406, 121, 3, 1, .wo, .num 0, .never, .kept, .dev 1, [], 0, false, .none⟩
/-- SCB_CTL.CLEAR_ALL, bits [4:4] (R471). -/
def F.SCB_CTL_CLEAR_ALL : Fld := ⟨407, 121, 4, 1, .wo, .num 0, .never, .kept, .dev 1, [], 0, false, .none⟩
/-- SCB_CTL.LAYOUT_NEXT, bits [5:5] (R471). -/
def F.SCB_CTL_LAYOUT_NEXT : Fld := ⟨408, 121, 5, 1, .rw, .num 0, .never, .kept, .dev 1, [], 0, false, .other⟩
/-- SCB_STATUS.LAYOUT, bits [0:0] (R471). -/
def F.SCB_STATUS_LAYOUT : Fld := ⟨409, 122, 0, 1, .ro, .num 0, .never, .kept, .dev 1, [], 0, false, .none⟩
/-- SCB_STATUS.FROZEN, bits [1:1] (R471). -/
def F.SCB_STATUS_FROZEN : Fld := ⟨410, 122, 1, 1, .ro, .num 0, .m, .kept, .dev 1, [], 0, false, .none⟩
/-- SCB_STATUS.AUTO_THAW, bits [2:2] (R471). -/
def F.SCB_STATUS_AUTO_THAW : Fld := ⟨411, 122, 2, 1, .w1c, .num 0, .m, .kept, .dev 1, [], 0, false, .none⟩
/-- SCB_STATUS.FLUSHING, bits [3:3] (R471). -/
def F.SCB_STATUS_FLUSHING : Fld := ⟨412, 122, 3, 1, .ro, .num 0, .m, .kept, .dev 1, [], 0, false, .none⟩
/-- SCB_STATUS.FLUSH_FAIL, bits [4:4] (R471). -/
def F.SCB_STATUS_FLUSH_FAIL : Fld := ⟨413, 122, 4, 1, .w1c, .num 0, .m, .kept, .dev 1, [], 0, false, .none⟩
/-- SCB_STATUS.ASIDE, bits [15:5] (R471). -/
def F.SCB_STATUS_ASIDE : Fld := ⟨414, 122, 5, 11, .ro, .num 0, .m, .kept, .dev 1, [], 0, false, .none⟩
/-- SCB_STATUS.UNHELD, bits [31:16] (R471). -/
def F.SCB_STATUS_UNHELD : Fld := ⟨415, 122, 16, 16, .ro, .num 0, .c, .kept, .dev 1, [], 0, false, .none⟩
/-- SCB_STATUS.FLUSHES, bits [63:32] (R471). -/
def F.SCB_STATUS_FLUSHES : Fld := ⟨416, 122, 32, 32, .ro, .num 0, .never, .kept, .dev 1, [], 0, false, .none⟩
/-- SCB_CURSOR.OFFSET, bits [19:0] (R471). -/
def F.SCB_CURSOR_OFFSET : Fld := ⟨417, 123, 0, 20, .rw, .num 0, .m, .kept, .dev 1, [], 3, false, .none⟩
/-- SCB_DATA.DATA, bits [63:0] (R471). -/
def F.SCB_DATA_DATA : Fld := ⟨418, 124, 0, 64, .ro, .num 0, .never, .kept, .dev 1, [], 0, false, .none⟩
/-- SCB_RATE_SEL.CODE, bits [11:0] (R471). -/
def F.SCB_RATE_SEL_CODE : Fld := ⟨419, 125, 0, 12, .rw, .num 0, .m, .kept, .dev 1, [], 0, false, .none⟩
/-- SCB_RATE.RATE, bits [12:0] (R471). -/
def F.SCB_RATE_RATE : Fld := ⟨420, 126, 0, 13, .rw, .num 16, .never, .kept, .dev 1, [(0, 4096)], 0, false, .other⟩
/-- SCB_RATE.BURST, bits [23:16] (R471). -/
def F.SCB_RATE_BURST : Fld := ⟨421, 126, 16, 8, .rw, .num 16, .never, .kept, .dev 1, [], 0, false, .other⟩
/-- SCB_FLUSH_INFO.REASON, bits [2:0] (R471). -/
def F.SCB_FLUSH_INFO_REASON : Fld := ⟨422, 127, 0, 3, .ro, .num 0, .never, .kept, .dev 1, [], 0, false, .none⟩
/-- SCB_FLUSH_INFO.BEAT, bits [63:8] (R471). -/
def F.SCB_FLUSH_INFO_BEAT : Fld := ⟨423, 127, 8, 56, .ro, .num 0, .never, .kept, .dev 1, [], 0, false, .none⟩
/-- MRG_CTL.START, bits [0:0] (R483). -/
def F.MRG_CTL_START : Fld := ⟨424, 128, 0, 1, .rw1s, .num 0, .m, .lostP, .dev 1, [], 0, false, .none⟩
/-- MRG_CTL.ABORT, bits [1:1] (R483). -/
def F.MRG_CTL_ABORT : Fld := ⟨425, 128, 1, 1, .wo, .num 0, .never, .lostP, .dev 1, [], 0, false, .none⟩
/-- MRG_TARGET.KIND, bits [1:0] (R483). -/
def F.MRG_TARGET_KIND : Fld := ⟨426, 129, 0, 2, .rw, .num 0, .m, .lostP, .dev 1, [(0, 2)], 0, false, .none⟩
/-- MRG_TARGET.PIER, bits [5:2] (R483). -/
def F.MRG_TARGET_PIER : Fld := ⟨427, 129, 2, 4, .rw, .num 0, .m, .lostP, .dev 1, [(0, 7)], 0, false, .none⟩
/-- MRG_TARGET.POSITION, bits [9:6] (R483). -/
def F.MRG_TARGET_POSITION : Fld := ⟨428, 129, 6, 4, .rw, .num 0, .m, .lostP, .dev 1, [(0, 12)], 0, false, .none⟩
/-- MRG_TARGET.COURSE, bits [12:10] (R483). -/
def F.MRG_TARGET_COURSE : Fld := ⟨429, 129, 10, 3, .rw, .num 0, .m, .lostP, .dev 1, [(0, 4)], 0, false, .none⟩
/-- MRG_TARGET.DIR, bits [13:13] (R483). -/
def F.MRG_TARGET_DIR : Fld := ⟨430, 129, 13, 1, .rw, .num 0, .m, .lostP, .dev 1, [], 0, false, .none⟩
/-- MRG_TARGET.AXIS, bits [15:14] (R483). -/
def F.MRG_TARGET_AXIS : Fld := ⟨431, 129, 14, 2, .rw, .num 0, .m, .lostP, .dev 1, [(0, 2)], 0, false, .none⟩
/-- MRG_TARGET.SET, bits [17:16] (R483). -/
def F.MRG_TARGET_SET : Fld := ⟨432, 129, 16, 2, .rw, .num 0, .m, .lostP, .dev 1, [], 0, false, .none⟩
/-- MRG_TARGET.PORT, bits [21:18] (R483). -/
def F.MRG_TARGET_PORT : Fld := ⟨433, 129, 18, 4, .rw, .num 0, .m, .lostP, .dev 1, [], 0, false, .none⟩
/-- MRG_TARGET.LANE, bits [24:22] (R483). -/
def F.MRG_TARGET_LANE : Fld := ⟨434, 129, 22, 3, .rw, .num 0, .m, .lostP, .dev 1, [(0, 4)], 0, false, .none⟩
/-- MRG_TARGET.BRIDGE, bits [28:25] (R483). -/
def F.MRG_TARGET_BRIDGE : Fld := ⟨435, 129, 25, 4, .rw, .num 0, .m, .lostP, .dev 1, [(0, 9)], 0, false, .none⟩
/-- MRG_TARGET.DWELL, bits [35:32] (R483). -/
def F.MRG_TARGET_DWELL : Fld := ⟨436, 129, 32, 4, .rw, .num 0, .m, .lostP, .dev 1, [], 0, false, .none⟩
/-- MRG_STATUS.STATE, bits [1:0] (R483). -/
def F.MRG_STATUS_STATE : Fld := ⟨437, 130, 0, 2, .ro, .num 0, .m, .lostP, .dev 1, [], 0, false, .none⟩
/-- MRG_STATUS.CAUSE, bits [5:2] (R483). -/
def F.MRG_STATUS_CAUSE : Fld := ⟨438, 130, 2, 4, .ro, .num 0, .m, .lostP, .dev 1, [], 0, false, .none⟩
/-- MRG_STATUS.FINE, bits [6:6] (R483). -/
def F.MRG_STATUS_FINE : Fld := ⟨439, 130, 6, 1, .ro, .num 0, .m, .lostP, .dev 1, [], 0, false, .none⟩
/-- MRG_RESULT.EARLY, bits [7:0] (R484). -/
def F.MRG_RESULT_EARLY : Fld := ⟨440, 131, 0, 8, .ro, .num 0, .m, .lostP, .dev 1, [], 0, false, .none⟩
/-- MRG_RESULT.LATE, bits [15:8] (R484). -/
def F.MRG_RESULT_LATE : Fld := ⟨441, 131, 8, 8, .ro, .num 0, .m, .lostP, .dev 1, [], 0, false, .none⟩
/-- MRG_RESULT.LOW, bits [23:16] (R484). -/
def F.MRG_RESULT_LOW : Fld := ⟨442, 131, 16, 8, .ro, .num 0, .m, .lostP, .dev 1, [], 0, false, .none⟩
/-- MRG_RESULT.HIGH, bits [31:24] (R484). -/
def F.MRG_RESULT_HIGH : Fld := ⟨443, 131, 24, 8, .ro, .num 0, .m, .lostP, .dev 1, [], 0, false, .none⟩
/-- MRG_RESULT.WORST, bits [40:32] (R484). -/
def F.MRG_RESULT_WORST : Fld := ⟨444, 131, 32, 9, .ro, .num 0, .m, .lostP, .dev 1, [], 0, false, .none⟩
/-- MRG_RESULT.SPARE_ERRS, bits [47:41] (R484). -/
def F.MRG_RESULT_SPARE_ERRS : Fld := ⟨445, 131, 41, 7, .ro, .num 0, .m, .lostP, .dev 1, [], 0, false, .none⟩
/-- MRG_TEST_TILE.VERT_FUSED, bits [8:0] (R485). -/
def F.MRG_TEST_TILE_VERT_FUSED : Fld := ⟨446, 132, 0, 9, .ro, .num 0, .never, .kept, .dev 104, [], 0, false, .none⟩
/-- MRG_TEST_TILE.TSTORE_FUSED, bits [18:9] (R485). -/
def F.MRG_TEST_TILE_TSTORE_FUSED : Fld := ⟨447, 132, 9, 10, .ro, .num 0, .never, .kept, .dev 104, [], 0, false, .none⟩
/-- MRG_TEST_TILE.SCREEN_T, bits [26:19] (R485). -/
def F.MRG_TEST_TILE_SCREEN_T : Fld := ⟨448, 132, 19, 8, .ro, .num 0, .never, .kept, .dev 104, [], 0, false, .none⟩
/-- MRG_TEST_TILE.SCREEN_V, bits [34:27] (R485). -/
def F.MRG_TEST_TILE_SCREEN_V : Fld := ⟨449, 132, 27, 8, .ro, .num 0, .never, .kept, .dev 104, [], 0, false, .none⟩
/-- MRG_TEST_BRIDGE.FUSED_UP, bits [6:0] (R485). -/
def F.MRG_TEST_BRIDGE_FUSED_UP : Fld := ⟨450, 133, 0, 7, .ro, .num 0, .never, .kept, .dev 10, [], 0, false, .none⟩
/-- MRG_TEST_BRIDGE.FUSED_DOWN, bits [13:7] (R485). -/
def F.MRG_TEST_BRIDGE_FUSED_DOWN : Fld := ⟨451, 133, 7, 7, .ro, .num 0, .never, .kept, .dev 10, [], 0, false, .none⟩
/-- BEAT_COUNT.COUNT, bits [63:0] (R275). -/
def F.BEAT_COUNT_COUNT : Fld := ⟨452, 42, 0, 64, .ro, .num 0, .never, .kept, .dev 1, [], 0, false, .none⟩
/-- ATT_TRAP0.TILES, bits [63:0] (R341). -/
def F.ATT_TRAP0_TILES : Fld := ⟨453, 67, 0, 64, .w1c, .num 0, .t, .lostSP, .dev 1, [], 0, false, .none⟩
/-- ATT_TRAP1.TILES, bits [39:0] (R341). -/
def F.ATT_TRAP1_TILES : Fld := ⟨454, 68, 0, 40, .w1c, .num 0, .t, .lostSP, .dev 1, [], 0, false, .none⟩
/-- FP_HDR.FORMAT, bits [31:0] (R24). -/
def F.FP_HDR_FORMAT : Fld := ⟨455, 134, 0, 32, .ro, .num 0, .m, .kept, .dev 1, [], 0, true, .none⟩
/-- FP_HDR.GENERATION, bits [63:32] (R24). -/
def F.FP_HDR_GENERATION : Fld := ⟨456, 134, 32, 32, .ro, .num 0, .m, .kept, .dev 1, [], 0, true, .none⟩
/-- FP_HDR.CHANGE_COUNT, bits [95:64] (R24). -/
def F.FP_HDR_CHANGE_COUNT : Fld := ⟨457, 134, 64, 32, .ro, .num 0, .m, .kept, .dev 1, [], 0, true, .none⟩
/-- FP_HDR.PIER_COUNT, bits [111:96] (R24). -/
def F.FP_HDR_PIER_COUNT : Fld := ⟨458, 134, 96, 16, .ro, .num 0, .m, .kept, .dev 1, [], 0, true, .none⟩
/-- FP_HDR.TILE_COUNT, bits [127:112] (R24). -/
def F.FP_HDR_TILE_COUNT : Fld := ⟨459, 134, 112, 16, .ro, .num 0, .m, .kept, .dev 1, [], 0, true, .none⟩
/-- FP_HDR.PORT_COUNT, bits [143:128] (R24). -/
def F.FP_HDR_PORT_COUNT : Fld := ⟨460, 134, 128, 16, .ro, .num 0, .m, .kept, .dev 1, [], 0, true, .none⟩
/-- FP_HDR.BRIDGE_COUNT, bits [159:144] (R24). -/
def F.FP_HDR_BRIDGE_COUNT : Fld := ⟨461, 134, 144, 16, .ro, .num 0, .m, .kept, .dev 1, [], 0, true, .none⟩
/-- FP_HDR.SENSOR_COUNT, bits [175:160] (R24). -/
def F.FP_HDR_SENSOR_COUNT : Fld := ⟨462, 134, 160, 16, .ro, .num 0, .m, .kept, .dev 1, [], 0, true, .none⟩
/-- FP_HDR.ENABLED_TILES, bits [191:176] (R24). -/
def F.FP_HDR_ENABLED_TILES : Fld := ⟨463, 134, 176, 16, .ro, .num 0, .m, .kept, .dev 1, [], 0, true, .none⟩
/-- FP_HDR.SPARE_TILES, bits [207:192] (R24). -/
def F.FP_HDR_SPARE_TILES : Fld := ⟨464, 134, 192, 16, .ro, .num 0, .m, .kept, .dev 1, [], 0, true, .none⟩
/-- FP_HDR.START_PATH, bits [223:208] (R24). -/
def F.FP_HDR_START_PATH : Fld := ⟨465, 134, 208, 16, .ro, .num 0, .m, .kept, .dev 1, [], 0, true, .none⟩
/-- FP_HDR.DIGEST_GEN, bits [255:224] (R24). -/
def F.FP_HDR_DIGEST_GEN : Fld := ⟨466, 134, 224, 32, .ro, .num 0, .m, .kept, .dev 1, [], 0, true, .none⟩
/-- FP_HDR.DIGEST0, bits [319:256] (R24). -/
def F.FP_HDR_DIGEST0 : Fld := ⟨467, 134, 256, 64, .ro, .num 0, .m, .kept, .dev 1, [], 0, true, .none⟩
/-- FP_HDR.DIGEST1, bits [383:320] (R24). -/
def F.FP_HDR_DIGEST1 : Fld := ⟨468, 134, 320, 64, .ro, .num 0, .m, .kept, .dev 1, [], 0, true, .none⟩
/-- FP_HDR.DIGEST2, bits [447:384] (R24). -/
def F.FP_HDR_DIGEST2 : Fld := ⟨469, 134, 384, 64, .ro, .num 0, .m, .kept, .dev 1, [], 0, true, .none⟩
/-- FP_HDR.DIGEST3, bits [511:448] (R24). -/
def F.FP_HDR_DIGEST3 : Fld := ⟨470, 134, 448, 64, .ro, .num 0, .m, .kept, .dev 1, [], 0, true, .none⟩
/-- FP_PIER.PIER, bits [7:0] (R26). -/
def F.FP_PIER_PIER : Fld := ⟨471, 135, 0, 8, .ro, .num 0, .m, .kept, .dev 8, [], 0, true, .none⟩
/-- FP_PIER.B_STEPPING, bits [15:8] (R26). -/
def F.FP_PIER_B_STEPPING : Fld := ⟨472, 135, 8, 8, .ro, .num 0, .m, .kept, .dev 8, [], 0, true, .none⟩
/-- FP_PIER.C_STEPPING, bits [23:16] (R26). -/
def F.FP_PIER_C_STEPPING : Fld := ⟨473, 135, 16, 8, .ro, .num 0, .m, .kept, .dev 8, [], 0, true, .none⟩
/-- FP_PIER.COURSE_STEPPING, bits [31:24] (R26). -/
def F.FP_PIER_COURSE_STEPPING : Fld := ⟨474, 135, 24, 8, .ro, .num 0, .m, .kept, .dev 8, [], 0, true, .none⟩
/-- FP_PIER.B_CAPS, bits [63:32] (R26). -/
def F.FP_PIER_B_CAPS : Fld := ⟨475, 135, 32, 32, .ro, .num 0, .m, .kept, .dev 8, [], 0, true, .none⟩
/-- FP_PIER.C_CAPS, bits [95:64] (R26). -/
def F.FP_PIER_C_CAPS : Fld := ⟨476, 135, 64, 32, .ro, .num 0, .m, .kept, .dev 8, [], 0, true, .none⟩
/-- FP_PIER.COURSE_CAPS, bits [127:96] (R26). -/
def F.FP_PIER_COURSE_CAPS : Fld := ⟨477, 135, 96, 32, .ro, .num 0, .m, .kept, .dev 8, [], 0, true, .none⟩
/-- FP_PIER.ENABLED_MASK, bits [143:128] (R26). -/
def F.FP_PIER_ENABLED_MASK : Fld := ⟨478, 135, 128, 16, .ro, .num 0, .m, .kept, .dev 8, [], 0, true, .none⟩
/-- FP_PIER.SPARE_MASK, bits [159:144] (R26). -/
def F.FP_PIER_SPARE_MASK : Fld := ⟨479, 135, 144, 16, .ro, .num 0, .m, .kept, .dev 8, [], 0, true, .none⟩
/-- FP_PIER.RETIRED_MASK, bits [175:160] (R26). -/
def F.FP_PIER_RETIRED_MASK : Fld := ⟨480, 135, 160, 16, .ro, .num 0, .m, .kept, .dev 8, [], 0, true, .none⟩
/-- FP_PIER.MEMONLY_MASK, bits [191:176] (R26). -/
def F.FP_PIER_MEMONLY_MASK : Fld := ⟨481, 135, 176, 16, .ro, .num 0, .m, .kept, .dev 8, [], 0, true, .none⟩
/-- FP_PIER.PCH_WAYS, bits [199:192] (R26). -/
def F.FP_PIER_PCH_WAYS : Fld := ⟨482, 135, 192, 8, .ro, .num 0, .m, .kept, .dev 8, [], 0, true, .none⟩
/-- FP_PIER.PCH_SPARE_WAYS, bits [207:200] (R26). -/
def F.FP_PIER_PCH_SPARE_WAYS : Fld := ⟨483, 135, 200, 8, .ro, .num 0, .m, .kept, .dev 8, [], 0, true, .none⟩
/-- FP_PIER.VR_SPARES_COMPUTE, bits [215:208] (R26). -/
def F.FP_PIER_VR_SPARES_COMPUTE : Fld := ⟨484, 135, 208, 8, .ro, .num 0, .m, .kept, .dev 8, [], 0, true, .none⟩
/-- FP_PIER.VR_SPARES_COURSE, bits [223:216] (R26). -/
def F.FP_PIER_VR_SPARES_COURSE : Fld := ⟨485, 135, 216, 8, .ro, .num 0, .m, .kept, .dev 8, [], 0, true, .none⟩
/-- FP_PIER.HEALTH, bits [231:224] (R26). -/
def F.FP_PIER_HEALTH : Fld := ⟨486, 135, 224, 8, .ro, .num 0, .m, .kept, .dev 8, [], 0, true, .none⟩
/-- FP_TILE.PIER, bits [7:0] (R27). -/
def F.FP_TILE_PIER : Fld := ⟨487, 136, 0, 8, .ro, .num 0, .m, .kept, .dev 104, [], 0, true, .none⟩
/-- FP_TILE.POSITION, bits [15:8] (R27). -/
def F.FP_TILE_POSITION : Fld := ⟨488, 136, 8, 8, .ro, .num 0, .m, .kept, .dev 104, [], 0, true, .none⟩
/-- FP_TILE.LOGICAL, bits [31:16] (R27). -/
def F.FP_TILE_LOGICAL : Fld := ⟨489, 136, 16, 16, .ro, .num 0, .m, .kept, .dev 104, [], 0, true, .none⟩
/-- FP_TILE.HEALTH, bits [39:32] (R27). -/
def F.FP_TILE_HEALTH : Fld := ⟨490, 136, 32, 8, .ro, .num 0, .m, .kept, .dev 104, [], 0, true, .none⟩
/-- FP_TILE.ROLE, bits [47:40] (R27). -/
def F.FP_TILE_ROLE : Fld := ⟨491, 136, 40, 8, .ro, .num 0, .m, .kept, .dev 104, [], 0, true, .none⟩
/-- FP_TILE.RETIRE_REASON, bits [55:48] (R27). -/
def F.FP_TILE_RETIRE_REASON : Fld := ⟨492, 136, 48, 8, .ro, .num 0, .m, .kept, .dev 104, [], 0, true, .none⟩
/-- FP_TILE.VERT_SPARES_USED, bits [79:64] (R27). -/
def F.FP_TILE_VERT_SPARES_USED : Fld := ⟨493, 136, 64, 16, .ro, .num 0, .m, .kept, .dev 104, [], 0, true, .none⟩
/-- FP_TILE.TSTORE_REMAP_USED, bits [95:80] (R27). -/
def F.FP_TILE_TSTORE_REMAP_USED : Fld := ⟨494, 136, 80, 16, .ro, .num 0, .m, .kept, .dev 104, [], 0, true, .none⟩
/-- FP_TILE.TSTORE_BANKS_FULL, bits [103:96] (R27). -/
def F.FP_TILE_TSTORE_BANKS_FULL : Fld := ⟨495, 136, 96, 8, .ro, .num 0, .m, .kept, .dev 104, [], 0, true, .none⟩
/-- FP_TILE.BKU_RETIRED, bits [111:104] (R27). -/
def F.FP_TILE_BKU_RETIRED : Fld := ⟨496, 136, 104, 8, .ro, .num 0, .m, .kept, .dev 104, [], 0, true, .none⟩
/-- FP_TILE.ROW_SPARES_MIN, bits [127:112] (R27). -/
def F.FP_TILE_ROW_SPARES_MIN : Fld := ⟨497, 136, 112, 16, .ro, .num 0, .m, .kept, .dev 104, [], 0, true, .none⟩
/-- FP_TILE.BKU_RETIRED_MASK, bits [191:128] (R27). -/
def F.FP_TILE_BKU_RETIRED_MASK : Fld := ⟨498, 136, 128, 64, .ro, .num 0, .m, .kept, .dev 104, [], 0, true, .none⟩
/-- FP_TILE.COL_SPARES_MIN, bits [207:192] (R27). -/
def F.FP_TILE_COL_SPARES_MIN : Fld := ⟨499, 136, 192, 16, .ro, .num 0, .m, .kept, .dev 104, [], 0, true, .none⟩
/-- FP_TILE.SENSOR_FIRST, bits [223:208] (R27). -/
def F.FP_TILE_SENSOR_FIRST : Fld := ⟨500, 136, 208, 16, .ro, .num 0, .m, .kept, .dev 104, [], 0, true, .none⟩
/-- FP_LINK.PORT, bits [7:0] (R27). -/
def F.FP_LINK_PORT : Fld := ⟨501, 137, 0, 8, .ro, .num 0, .m, .kept, .dev 16, [], 0, true, .none⟩
/-- FP_LINK.STATE, bits [15:8] (R27). -/
def F.FP_LINK_STATE : Fld := ⟨502, 137, 8, 8, .ro, .num 0, .m, .kept, .dev 16, [], 0, true, .none⟩
/-- FP_LINK.LAT_CLASS, bits [23:16] (R27). -/
def F.FP_LINK_LAT_CLASS : Fld := ⟨503, 137, 16, 8, .ro, .num 0, .m, .kept, .dev 16, [], 0, true, .none⟩
/-- FP_LINK.SPARE_LANE, bits [31:24] (R27). -/
def F.FP_LINK_SPARE_LANE : Fld := ⟨504, 137, 24, 8, .ro, .num 0, .m, .kept, .dev 16, [], 0, true, .none⟩
/-- FP_LINK.ATTEMPTS, bits [39:32] (R27). -/
def F.FP_LINK_ATTEMPTS : Fld := ⟨505, 137, 32, 8, .ro, .num 0, .m, .kept, .dev 16, [], 0, true, .none⟩
/-- FP_LINK.PORT_ROLE, bits [47:40] (R27). -/
def F.FP_LINK_PORT_ROLE : Fld := ⟨506, 137, 40, 8, .ro, .num 0, .m, .kept, .dev 16, [], 0, true, .none⟩
/-- FP_LINK.PARTNER, bits [127:64] (R27). -/
def F.FP_LINK_PARTNER : Fld := ⟨507, 137, 64, 64, .ro, .num 0, .m, .kept, .dev 16, [], 0, true, .none⟩
/-- FP_SPARE.GROUP, bits [7:0] (R27). -/
def F.FP_SPARE_GROUP : Fld := ⟨508, 138, 0, 8, .ro, .num 0, .m, .kept, .dev 4, [], 0, true, .none⟩
/-- FP_SPARE.STATE, bits [15:8] (R27). -/
def F.FP_SPARE_STATE : Fld := ⟨509, 138, 8, 8, .ro, .num 0, .m, .kept, .dev 4, [], 0, true, .none⟩
/-- FP_SPARE.PORT, bits [23:16] (R27). -/
def F.FP_SPARE_PORT : Fld := ⟨510, 138, 16, 8, .ro, .num 0, .m, .kept, .dev 4, [], 0, true, .none⟩
/-- FP_SPARE.LANE, bits [31:24] (R27). -/
def F.FP_SPARE_LANE : Fld := ⟨511, 138, 24, 8, .ro, .num 0, .m, .kept, .dev 4, [], 0, true, .none⟩
/-- FP_BRIDGE.LOW_PIER, bits [7:0] (R27). -/
def F.FP_BRIDGE_LOW_PIER : Fld := ⟨512, 139, 0, 8, .ro, .num 0, .m, .kept, .dev 10, [], 0, true, .none⟩
/-- FP_BRIDGE.HIGH_PIER, bits [15:8] (R27). -/
def F.FP_BRIDGE_HIGH_PIER : Fld := ⟨513, 139, 8, 8, .ro, .num 0, .m, .kept, .dev 10, [], 0, true, .none⟩
/-- FP_BRIDGE.WIDTH_LOW, bits [23:16] (R27). -/
def F.FP_BRIDGE_WIDTH_LOW : Fld := ⟨514, 139, 16, 8, .ro, .num 0, .m, .kept, .dev 10, [], 0, true, .none⟩
/-- FP_BRIDGE.WIDTH_HIGH, bits [31:24] (R27). -/
def F.FP_BRIDGE_WIDTH_HIGH : Fld := ⟨515, 139, 24, 8, .ro, .num 0, .m, .kept, .dev 10, [], 0, true, .none⟩
/-- FP_BRIDGE.WIDTH, bits [39:32] (R27). -/
def F.FP_BRIDGE_WIDTH : Fld := ⟨516, 139, 32, 8, .ro, .num 0, .m, .kept, .dev 10, [], 0, true, .none⟩
/-- FP_BRIDGE.HANDSHAKE_TRIES, bits [47:40] (R27). -/
def F.FP_BRIDGE_HANDSHAKE_TRIES : Fld := ⟨517, 139, 40, 8, .ro, .num 0, .m, .kept, .dev 10, [], 0, true, .none⟩
/-- FP_BRIDGE.SPARES_UP, bits [63:48] (R27). -/
def F.FP_BRIDGE_SPARES_UP : Fld := ⟨518, 139, 48, 16, .ro, .num 0, .m, .kept, .dev 10, [], 0, true, .none⟩
/-- FP_BRIDGE.SPARES_DOWN, bits [79:64] (R27). -/
def F.FP_BRIDGE_SPARES_DOWN : Fld := ⟨519, 139, 64, 16, .ro, .num 0, .m, .kept, .dev 10, [], 0, true, .none⟩
/-- FP_BRIDGE.COMMON_CAPS, bits [127:96] (R27). -/
def F.FP_BRIDGE_COMMON_CAPS : Fld := ⟨520, 139, 96, 32, .ro, .num 0, .m, .kept, .dev 10, [], 0, true, .none⟩
/-- FP_SENSOR.KIND, bits [7:0] (R28). -/
def F.FP_SENSOR_KIND : Fld := ⟨521, 140, 0, 8, .ro, .num 0, .m, .kept, .dev 1332, [], 0, true, .none⟩
/-- FP_SENSOR.STATE, bits [15:8] (R28). -/
def F.FP_SENSOR_STATE : Fld := ⟨522, 140, 8, 8, .ro, .num 0, .m, .kept, .dev 1332, [], 0, true, .none⟩
/-- FP_SENSOR.PIER, bits [23:16] (R28). -/
def F.FP_SENSOR_PIER : Fld := ⟨523, 140, 16, 8, .ro, .num 0, .m, .kept, .dev 1332, [], 0, true, .none⟩
/-- FP_SENSOR.SITE, bits [31:24] (R28). -/
def F.FP_SENSOR_SITE : Fld := ⟨524, 140, 24, 8, .ro, .num 0, .m, .kept, .dev 1332, [], 0, true, .none⟩
/-- FP_SENSOR.STANDS_FOR, bits [47:32] (R28). -/
def F.FP_SENSOR_STANDS_FOR : Fld := ⟨525, 140, 32, 16, .ro, .num 0, .m, .kept, .dev 1332, [], 0, true, .none⟩
/-- FP_SENSOR.RETIRE_REASON, bits [55:48] (R28). -/
def F.FP_SENSOR_RETIRE_REASON : Fld := ⟨526, 140, 48, 8, .ro, .num 0, .m, .kept, .dev 1332, [], 0, true, .none⟩

/-- Part of the list of every field, in order of its number. -/
def fldPart0 : List Fld :=
  [F.SYS_FP_STATUS_VALID, F.SYS_FP_STATUS_UPDATING, F.SYS_FP_STATUS_CHANGED, F.SYS_FP_STATUS_DEGRADED, F.SYS_FP_STATUS_RETIRED_TILES, F.SEQ_CTL_PARTITION, F.SEQ_CTL_POWER, F.SEQ_CTL_CONFIGURED, F.SEQ_THREAD_CTL_START, F.SEQ_THREAD_CTL_STOP, F.SEQ_THREAD_CTL_RUNNING, F.SEQ_THREAD_CTL_TRAPPED, F.SEQ_PLAY_BASE_BASE, F.SEQ_XCH_DESC_BASE_BASE, F.SEQ_TRAP_CODE, F.SEQ_TRAP_MULTI, F.SEQ_TRAP_SHARED, F.SEQ_TRAP_INFO, F.SEQ_TRAP_PLAY_INDEX, F.SEQ_TRAP_BEAT_BEAT, F.SEQ_XCH_STATUS_STATE, F.SEQ_XCH_STATUS_HALT_CODE, F.SEQ_XCH_STATUS_DESC_INDEX, F.SEQ_TS_BANK_REMAP_USED, F.SEQ_TS_BANK_FULL, F.SEQ_TS_BANK_CORR_COUNT, F.SEQ_TS_BANK_UNCORR_COUNT, F.SEQ_NUMFLAGS_LS_INEXACT, F.SEQ_NUMFLAGS_NAN_MADE, F.SEQ_NUMFLAGS_SATURATED, F.SEQ_NUMFLAGS_CONV_SPECIAL, F.SEQ_NUMFLAGS_OVERFLOW_INF, F.ARR_DESC_BASE_BASE, F.ARR_STATUS_STATE, F.ARR_MV_STATUS_STATE, F.ARR_STATUS_LOADING, F.ARR_STATUS_SHADOW_VALID, F.ARR_STATUS_ACTIVE_VALID, F.ARR_STATUS_DESC_INDEX, F.ARR_MV_STATUS_DESC_INDEX, F.ARR_MV_STATUS_THREAD, F.ARR_CHECK_RESIDUE_FAULTS, F.ARR_CHECK_PARITY_FAULTS, F.ARR_CHECK_SLICE_PAUSES, F.KVS_CFG_ENABLED, F.KVS_CFG_DIM, F.KVS_CFG_ROUND, F.KVS_CFG_MIRROR, F.KVS_CFG_K_FMT, F.KVS_CFG_V_FMT, F.KVS_CFG_GROUP, F.KVS_CFG_DECAY, F.KVS_POOL_POOL_BASE, F.KVS_POOL_POOL_PAGES, F.KVS_TABLES_PT_BASE, F.KVS_TABLES_LT_BASE, F.KVS_TABLES_LT_CAP, F.KVS_SHADOW_SHADOW_BASE, F.KVS_SHADOW_PAGE_STRIDE, F.KVS_STATE_FREE_HEAD]
/-- Part of the list of every field, in order of its number. -/
def fldPart1 : List Fld :=
  [F.KVS_STATE_BUSY, F.KVS_STATE_LOST, F.KVS_STATE_FREE_COUNT, F.KVS_COUNT_STEPS, F.KVS_COUNT_EVICTIONS, F.SLC_STATUS_BAND, F.SLC_STATUS_DECL_BAND, F.SLC_STATUS_DEFICIT, F.SLC_STATUS_DERATED, F.SLC_STATUS_SC_DIRTY, F.SLC_REGIONS_MIRROR_UNITS, F.SLC_REGIONS_SIDE_LINE, F.SLC_REGIONS_SIDE_EN, F.SLC_FLIP_MASK_ARM, F.SLC_FLIP_MASK_PATH, F.SLC_FLIP_MASK_DIE, F.SLC_FLIP_MASK_SYM_A, F.SLC_FLIP_MASK_EN_B, F.SLC_FLIP_MASK_SYM_B, F.SLC_FLIP_MASK_PATTERN, F.SLC_SCRUB_RANGE_BASE_LINE, F.SLC_SCRUB_RANGE_LINES, F.SLC_SCRUB_CTL_START, F.SLC_SCRUB_CTL_ABORT, F.SLC_SCRUB_CTL_RUNNING, F.SLC_SCRUB_CTL_DONE, F.SLC_SCRUB_CTL_RANGE_ERR, F.SLC_SCRUB_CTL_WRITEBACK, F.SLC_SCRUB_SUM_CORR, F.SLC_SCRUB_SUM_UNCORR, F.SLC_SCRUB_ADDR_FIRST, F.SLC_SCRUB_ADDR_LAST, F.SLC_SCRUB_EXT_CORR_COURSE0, F.SLC_SCRUB_EXT_CORR_COURSE1, F.SLC_SCRUB_EXT_CORR_COURSE2, F.SLC_SCRUB_EXT_CORR_COURSE3, F.SLC_ERR_VALID, F.SLC_ERR_MORE, F.SLC_ERR_PATH, F.SLC_ERR_COURSE, F.SLC_ERR_LINE, F.SLC_COUNT_CORR_DIE, F.SLC_COUNT_CORR_LINE, F.SLC_COUNT_INTRUSIONS, F.SLC_COUNT_BUSY_REPLIES, F.SLC_APT_PHYS, F.SLC_APT_SUBST, F.SLC_APT_LOGICAL, F.PCH_CFG_SCR_WAYS, F.PCH_STATUS_IN_SERVICE, F.PCH_STATUS_CACHE_WAYS, F.PCH_STATUS_SCR_LOST, F.PCH_INVAL_GO, F.PCH_INVAL_ALL, F.PCH_INVAL_LINE, F.PCH_INVAL_COUNT, F.BKU_READY_READY, F.BKU_FAULTED_FAULTED, F.BKU_CMD_BASE_BASE, F.BKU_CTL_SHORT_SEG]
/-- Part of the list of every field, in order of its number. -/
def fldPart2 : List Fld :=
  [F.BKU_CTL_MCODE_VER, F.BKU_CTL_MCODE_OK, F.BKU_COUNT_REFRESH_PAUSES, F.BKU_COUNT_HOLDS, F.BKU_COUNT_FAULTS, F.RNG_SEED_STATUS_SEEDED, F.RNG_SEED_STATUS_SEED_CHECK, F.RNG_CTX_OPEN, F.RNG_CTX_MODE, F.RNG_CTX_K3, F.RNG_CTX_BUSY, F.RNG_CTX_KEY_CHECK, F.RNG_POS_E, F.BEAT_STATUS_STATE, F.BEAT_STATUS_SLIP, F.BEAT_STATUS_EXPIRED, F.BEAT_STATUS_EPOCH_ERRS, F.BEAT_CFG_FRAME_LOG2, F.BEAT_CFG_SRC, F.BEAT_CFG_SRC_PORT, F.BEAT_CFG_D_HOPS, F.BEAT_CFG_C_MAX, F.BEAT_CFG_DOMAIN_MODULES, F.BEAT_CFG_P_BEATS, F.BEAT_FRAME_SCHED_FRAME, F.BEAT_FRAME_RESTS, F.BEAT_FRAME_FREEZES, F.BEAT_HOLD_REQ_REST, F.BEAT_HOLD_REQ_HOLD, F.BEAT_HOLD_REQ_RESUME, F.BEAT_HOLD_HOLDING, F.BEAT_HOLD_FROZEN, F.BEAT_HOLD_OWN_HOLD, F.BEAT_HOLD_REST_DUE, F.BEAT_HOLD_HOLDERS, F.BEAT_HOLD_NEXT_REST, F.BEAT_SLICE_QUANTUM_A, F.BEAT_SLICE_QUANTUM_B, F.BEAT_SLICE_B_REST, F.BEAT_SLICE_ACTIVE, F.BEAT_SLICE_PENDING, F.BEAT_SLICE_TARGET, F.BEAT_RAMP_ENABLE, F.BEAT_RAMP_PERIOD_LOG2, F.BEAT_RAMP_STEP, F.BEAT_RAMP_TARGET, F.BEAT_RAMP_FILLER, F.BND_SRC_ADDR, F.BND_CTL_LOAD, F.BND_STATUS_STATE, F.BND_STATUS_RESULT, F.BND_STATUS_SECTION, F.BND_STATUS_DETAIL, F.BND_STATUS_LOADS, F.BND_INFORCE_TYPES, F.BND_LOST_TYPES, F.BND_FLOOR_FLOOR, F.BND_DOMAIN_DEGRADED, F.BND_DOMAIN_MODULE_INDEX, F.BND_DIGEST_D]
/-- Part of the list of every field, in order of its number. -/
def fldPart3 : List Fld :=
  [F.BND_BUILD_BUILD, F.LNK_STATUS_STATE, F.LNK_STATUS_LAT_CLASS, F.LNK_STATUS_ATTEMPTS, F.LNK_STATUS_TRAINING, F.LNK_STATUS_SESSION, F.LNK_STATUS_LAMBDA, F.LNK_STATUS_DOWN_REASON, F.LNK_STATUS_RETRAINS, F.LNK_CTL_RETRAIN, F.LNK_CTL_DISABLE, F.LNK_ERR_FEC_CORR, F.LNK_ERR_FEC_UNCORR, F.LNK_ERR_CRC_FAIL, F.LNK_CELLS_RESENDS, F.LNK_CELLS_LOST, F.LNK_CELLS_TAG_FAIL, F.LNK_CELLS_RCPT_FAIL, F.LNK_MAP_ENTRY, F.BRG_STATUS_WIDTH, F.BRG_STATUS_TRIES, F.BRG_STATUS_RETRAINING, F.BRG_STATUS_DISAGREE, F.BRG_STATUS_FINE, F.BRG_CTL_RETRAIN, F.BRG_ERR_PARITY_UP, F.BRG_ERR_PARITY_DOWN, F.BRG_ERR_SERIAL_CRC, F.BRG_ERR_SWITCHES, F.FRONT_STATUS_STATUS, F.FRONT_STATUS_OPEN, F.FRONT_STATUS_RING_ERR, F.ATT_PENDING_SENSOR, F.ATT_PENDING_COOLING_DEGRADED, F.ATT_PENDING_CLAMP, F.ATT_PENDING_HOT_BAND, F.ATT_PENDING_PHASE, F.ATT_PENDING_INPUT, F.ATT_PENDING_LEDGER, F.ATT_PENDING_HOLDUP, F.ATT_PENDING_PARTNER_LOST, F.ATT_PENDING_DOUBLE_DUTY, F.ATT_PENDING_MIRROR_LAG, F.ATT_PENDING_REJOINED, F.ATT_PENDING_PORT_DOWN, F.ATT_PENDING_BEAT, F.ATT_PENDING_BRIDGE, F.ATT_PENDING_ROUTE_SHORT, F.ATT_PENDING_CELL_LOST, F.ATT_PENDING_RETIRE_PENDING, F.ATT_PENDING_UNCORR, F.ATT_PENDING_KV_LOST, F.ATT_PENDING_SCR_LOST, F.ATT_PENDING_TRAP, F.ATT_PENDING_CONFIG_LOST, F.FRONT_INFO_FORMAT, F.FRONT_INFO_MAX_INFLIGHT, F.FRONT_RING_CTL_OPEN, F.FRONT_RING_CTL_RING_ERR, F.FRONT_RING_CTL_ERR_CAUSE]
/-- Part of the list of every field, in order of its number. -/
def fldPart4 : List Fld :=
  [F.FRONT_RING_CTL_HB_US, F.FRONT_SQ_SIZE_LOG2, F.FRONT_SQ_BASE, F.FRONT_SQ_PTRS_TAIL, F.FRONT_SQ_PTRS_HEAD, F.FRONT_RQ_SIZE_LOG2, F.FRONT_RQ_BASE, F.FRONT_RQ_PTRS_HEAD, F.FRONT_RQ_PTRS_TAIL, F.FRONT_WIN_PRIORITY, F.FRONT_WIN_BASE, F.FRONT_WIN_LAST_CODE, F.FRONT_WIN_LAST_VALID, F.FRONT_WIN_LAST_MORE, F.FRONT_WIN_LAST_WRITE, F.FRONT_WIN_LAST_DPA, F.FRONT_JOB_LOADED, F.FRONT_JOB_ACTIVE, F.FRONT_JOB_SCHED_FRAME, F.FRONT_COUNT_COMPLETED, F.FRONT_COUNT_HEARTBEATS, F.FRONT_COUNT_HB_SKIPPED, F.SYS_ID_PART, F.SYS_ID_MODULE_REV, F.SYS_FW_VERSION, F.SYS_FW_IMAGE, F.SYS_FW_FALLBACK, F.SYS_BOOT_STATUS_STAGE, F.SYS_BOOT_STATUS_PATH, F.SYS_BOOT_STATUS_FAIL_STAGE, F.SYS_BOOT_STATUS_ELAPSED_MS, F.SYS_BOOT_STATUS_SLICE_RETRAINS, F.SYS_BOOT_STATUS_BKU_RETIRED_NOW, F.SYS_BOOT_CTL_NEXT_FULL, F.SYS_RESET_KIND, F.SYS_RESET_PIER, F.SYS_RESET_POSITION, F.SYS_RESET_STATUS_BUSY, F.SYS_RESET_STATUS_LAST_KIND, F.SYS_RESET_STATUS_LAST_CAUSE, F.SYS_RESET_STATUS_ABSORBED, F.SYS_RESET_STATUS_LAST_MS, F.SYS_RESET_STATUS_TILE_RESETS, F.SYS_RESET_STATUS_OTHER_RESETS, F.SYS_POWER_REQ, F.SYS_POWER_STATE, F.SYS_POWER_MOVING, F.SYS_POWER_REFUSED, F.SYS_CFG_LOST_BOND, F.SYS_CFG_LOST_TILE, F.SYS_CFG_LOST_BEAT, F.SYS_CFG_LOST_THERMAL, F.SYS_CFG_LOST_KV, F.SYS_CFG_LOST_OTHER, F.SYS_TILE_UNCONF_TILES, F.THM_CFG_KEEP_WARM_C, F.THM_CFG_KEEP_WARM_EN, F.THM_CFG_MARGIN_C, F.THM_CFG_COOLANT_CV, F.THM_STATUS_COOLING_DEGRADED]
/-- Part of the list of every field, in order of its number. -/
def fldPart5 : List Fld :=
  [F.THM_STATUS_CLAMPED, F.THM_STATUS_SHUTDOWN, F.THM_STATUS_COMMISSIONED, F.THM_STATUS_PRESSURE, F.THM_STATUS_FAST, F.THM_STATUS_MODEL_ERR, F.THM_STATUS_CLAMPS, F.THM_STATUS_CLAMP_CAUSE, F.THM_COOLANT_INLET, F.THM_COOLANT_OUTLET, F.THM_COOLANT_FLOW, F.THM_TRIP_SITE, F.THM_TRIP_VALID, F.THM_TRIP_READING, F.THM_COMMISSION_START, F.THM_COMMISSION_RUNNING, F.THM_COMMISSION_DONE, F.THM_COMMISSION_FAIL, F.THM_PIER_HOT, F.THM_PIER_COURSE, F.THM_PIER_FORE_HOT, F.THM_PIER_FORE_COURSE, F.THM_PIER_CAP, F.THM_RTH_RTH_J, F.THM_RTH_RTH_M, F.THM_RTH_NOM_J, F.THM_RTH_NOM_M, F.THM_SENSOR_READING, F.THM_SENSOR_ESTIMATE, F.THM_SENSOR_STATE, F.THM_SENSOR_STRIKES, F.PWR_STATUS_INPUT_W, F.PWR_STATUS_INPUT_V, F.PWR_STATUS_ENV, F.PWR_STATUS_LEDGER_OK, F.PWR_STATUS_BOOST_LEFT, F.PWR_STATUS_PEAK_LEFT, F.PWR_STATUS_COOLDOWN, F.PWR_COUNT_RESTS_THERMAL, F.PWR_COUNT_RESTS_ENVELOPE, F.PWR_COUNT_OVERRUNS, F.PWR_COUNT_RAMP_BREAKS, F.PWR_ENVELOPE_SUSTAINED_W, F.PWR_ENVELOPE_BOOST, F.PWR_ENVELOPE_PEAK, F.PWR_DOMAINS_ON, F.PWR_LEDGER_USED, F.PWR_LEDGER_PLAN, F.PWR_LEDGER_WITHHELD, F.PWR_HOLDUP_ENERGY, F.PWR_HOLDUP_OK, F.PWR_RAIL_COMPUTE_W, F.PWR_RAIL_COURSE_W, F.PWR_RAIL_FILLER_W, F.PWR_RAIL_PHASES_COMPUTE, F.PWR_RAIL_PHASES_COURSE, F.PWR_RAIL_LIMIT_W, F.TWN_STATUS_STATE, F.TWN_STATUS_PARTNER_STATE, F.TWN_STATUS_REFUSE_REASON]
/-- Part of the list of every field, in order of its number. -/
def fldPart6 : List Fld :=
  [F.TWN_STATUS_SILENT, F.TWN_STATUS_RESYNC, F.TWN_STATUS_EPOCH, F.TWN_CTL_TAKEOVER, F.TWN_CTL_BACKFILL, F.TWN_CTL_RELEASE, F.TWN_MIRROR_BACKLOG, F.TWN_MIRROR_UNDO_FILL, F.TWN_MIRROR_VOIDS, F.TWN_MIRROR_COMMITS, F.TWN_TAKEOVER_RESUME_FRAME, F.TWN_TAKEOVER_LOST_BEAT, F.TWN_COUNT_TAKEOVERS, F.TWN_COUNT_REJOINS, F.TWN_COUNT_HB_MISSED, F.TWN_COUNT_REFUSALS, F.QUO_STATUS_OWNED, F.QUO_STATUS_TRNG_OK, F.QUO_STATUS_DEBUG_OPEN, F.QUO_STATUS_SEALED_ANY, F.QUO_STATUS_ALIAS_READY, F.QUO_STATUS_SESSIONS, F.QUO_IDENT_IDENT, F.QUO_OWNER_OWNER_DIGEST, F.QUO_OWNER_EPOCH, F.QUO_FW_SVN_FUSED, F.QUO_FW_SVN_RUNNING, F.QUO_FW_SVN_B, F.QUO_CMD_OP, F.QUO_CMD_ARG, F.QUO_CMD_LENGTH, F.QUO_CMD_ADDR_ADDR, F.QUO_CMD_STATUS_BUSY, F.QUO_CMD_STATUS_RESULT, F.QUO_CMD_STATUS_DETAIL, F.QUO_CMD_STATUS_COMMANDS, F.QUO_KEYS_LOADED, F.QUO_DEBUG_SCOPE, F.QUO_DEBUG_OPENINGS, F.QUO_SEAL_GRANULES, F.QUO_SEAL_ZEROING, F.QUO_MEAS_VALUE, F.QUO_NONCE_NONCE, F.SCB_CTL_FREEZE, F.SCB_CTL_THAW, F.SCB_CTL_FLUSH, F.SCB_CTL_CLEAR, F.SCB_CTL_CLEAR_ALL, F.SCB_CTL_LAYOUT_NEXT, F.SCB_STATUS_LAYOUT, F.SCB_STATUS_FROZEN, F.SCB_STATUS_AUTO_THAW, F.SCB_STATUS_FLUSHING, F.SCB_STATUS_FLUSH_FAIL, F.SCB_STATUS_ASIDE, F.SCB_STATUS_UNHELD, F.SCB_STATUS_FLUSHES, F.SCB_CURSOR_OFFSET, F.SCB_DATA_DATA, F.SCB_RATE_SEL_CODE]
/-- Part of the list of every field, in order of its number. -/
def fldPart7 : List Fld :=
  [F.SCB_RATE_RATE, F.SCB_RATE_BURST, F.SCB_FLUSH_INFO_REASON, F.SCB_FLUSH_INFO_BEAT, F.MRG_CTL_START, F.MRG_CTL_ABORT, F.MRG_TARGET_KIND, F.MRG_TARGET_PIER, F.MRG_TARGET_POSITION, F.MRG_TARGET_COURSE, F.MRG_TARGET_DIR, F.MRG_TARGET_AXIS, F.MRG_TARGET_SET, F.MRG_TARGET_PORT, F.MRG_TARGET_LANE, F.MRG_TARGET_BRIDGE, F.MRG_TARGET_DWELL, F.MRG_STATUS_STATE, F.MRG_STATUS_CAUSE, F.MRG_STATUS_FINE, F.MRG_RESULT_EARLY, F.MRG_RESULT_LATE, F.MRG_RESULT_LOW, F.MRG_RESULT_HIGH, F.MRG_RESULT_WORST, F.MRG_RESULT_SPARE_ERRS, F.MRG_TEST_TILE_VERT_FUSED, F.MRG_TEST_TILE_TSTORE_FUSED, F.MRG_TEST_TILE_SCREEN_T, F.MRG_TEST_TILE_SCREEN_V, F.MRG_TEST_BRIDGE_FUSED_UP, F.MRG_TEST_BRIDGE_FUSED_DOWN, F.BEAT_COUNT_COUNT, F.ATT_TRAP0_TILES, F.ATT_TRAP1_TILES, F.FP_HDR_FORMAT, F.FP_HDR_GENERATION, F.FP_HDR_CHANGE_COUNT, F.FP_HDR_PIER_COUNT, F.FP_HDR_TILE_COUNT, F.FP_HDR_PORT_COUNT, F.FP_HDR_BRIDGE_COUNT, F.FP_HDR_SENSOR_COUNT, F.FP_HDR_ENABLED_TILES, F.FP_HDR_SPARE_TILES, F.FP_HDR_START_PATH, F.FP_HDR_DIGEST_GEN, F.FP_HDR_DIGEST0, F.FP_HDR_DIGEST1, F.FP_HDR_DIGEST2, F.FP_HDR_DIGEST3, F.FP_PIER_PIER, F.FP_PIER_B_STEPPING, F.FP_PIER_C_STEPPING, F.FP_PIER_COURSE_STEPPING, F.FP_PIER_B_CAPS, F.FP_PIER_C_CAPS, F.FP_PIER_COURSE_CAPS, F.FP_PIER_ENABLED_MASK, F.FP_PIER_SPARE_MASK]
/-- Part of the list of every field, in order of its number. -/
def fldPart8 : List Fld :=
  [F.FP_PIER_RETIRED_MASK, F.FP_PIER_MEMONLY_MASK, F.FP_PIER_PCH_WAYS, F.FP_PIER_PCH_SPARE_WAYS, F.FP_PIER_VR_SPARES_COMPUTE, F.FP_PIER_VR_SPARES_COURSE, F.FP_PIER_HEALTH, F.FP_TILE_PIER, F.FP_TILE_POSITION, F.FP_TILE_LOGICAL, F.FP_TILE_HEALTH, F.FP_TILE_ROLE, F.FP_TILE_RETIRE_REASON, F.FP_TILE_VERT_SPARES_USED, F.FP_TILE_TSTORE_REMAP_USED, F.FP_TILE_TSTORE_BANKS_FULL, F.FP_TILE_BKU_RETIRED, F.FP_TILE_ROW_SPARES_MIN, F.FP_TILE_BKU_RETIRED_MASK, F.FP_TILE_COL_SPARES_MIN, F.FP_TILE_SENSOR_FIRST, F.FP_LINK_PORT, F.FP_LINK_STATE, F.FP_LINK_LAT_CLASS, F.FP_LINK_SPARE_LANE, F.FP_LINK_ATTEMPTS, F.FP_LINK_PORT_ROLE, F.FP_LINK_PARTNER, F.FP_SPARE_GROUP, F.FP_SPARE_STATE, F.FP_SPARE_PORT, F.FP_SPARE_LANE, F.FP_BRIDGE_LOW_PIER, F.FP_BRIDGE_HIGH_PIER, F.FP_BRIDGE_WIDTH_LOW, F.FP_BRIDGE_WIDTH_HIGH, F.FP_BRIDGE_WIDTH, F.FP_BRIDGE_HANDSHAKE_TRIES, F.FP_BRIDGE_SPARES_UP, F.FP_BRIDGE_SPARES_DOWN, F.FP_BRIDGE_COMMON_CAPS, F.FP_SENSOR_KIND, F.FP_SENSOR_STATE, F.FP_SENSOR_PIER, F.FP_SENSOR_SITE, F.FP_SENSOR_STANDS_FOR, F.FP_SENSOR_RETIRE_REASON]
/-- Every field, in order of its number. -/
def allFields : List Fld := fldPart0 ++ fldPart1 ++ fldPart2 ++ fldPart3 ++ fldPart4 ++ fldPart5 ++ fldPart6 ++ fldPart7 ++ fldPart8

/-- Part of the list of every register, in order of its number. -/
def regPart0 : List Reg :=
  [⟨0, .control, .dev, 0x200000, 32, []⟩,
   ⟨1, .control, .tile, 0x0, 32, []⟩,
   ⟨2, .control, .tile, 0x8, 32, []⟩,
   ⟨3, .control, .tile, 0x10, 32, [(4, 8)]⟩,
   ⟨4, .control, .tile, 0x30, 32, []⟩,
   ⟨5, .control, .tile, 0x40, 64, [(4, 16)]⟩,
   ⟨6, .control, .tile, 0x48, 64, [(4, 16)]⟩,
   ⟨7, .control, .tile, 0x100, 32, [(16, 4)]⟩,
   ⟨8, .control, .tile, 0x200, 32, [(64, 4)]⟩,
   ⟨9, .control, .tile, 0x300, 32, [(4, 4)]⟩,
   ⟨10, .control, .tile, 0x400, 32, []⟩,
   ⟨11, .control, .tile, 0x410, 32, [(4, 4)]⟩,
   ⟨12, .control, .tile, 0x420, 32, []⟩,
   ⟨13, .control, .tile, 0x428, 32, []⟩,
   ⟨14, .control, .tile, 0x500, 64, [(4, 32)]⟩,
   ⟨15, .control, .tile, 0x508, 64, [(4, 32)]⟩,
   ⟨16, .control, .tile, 0x510, 64, [(4, 32)]⟩,
   ⟨17, .control, .tile, 0x518, 64, [(4, 32)]⟩,
   ⟨18, .control, .tile, 0x580, 64, [(4, 8)]⟩,
   ⟨19, .control, .tile, 0x5a0, 64, [(4, 8)]⟩,
   ⟨20, .control, .tile, 0x600, 32, []⟩,
   ⟨21, .control, .tile, 0x608, 64, []⟩,
   ⟨22, .control, .tile, 0x610, 64, []⟩,
   ⟨23, .control, .tile, 0x618, 64, []⟩,
   ⟨24, .control, .tile, 0x620, 32, []⟩,
   ⟨25, .control, .tile, 0x628, 64, []⟩,
   ⟨26, .control, .tile, 0x630, 64, []⟩,
   ⟨27, .control, .tile, 0x638, 64, []⟩,
   ⟨28, .control, .tile, 0x640, 64, []⟩,
   ⟨29, .control, .tile, 0x648, 64, []⟩,
   ⟨30, .control, .pier, 0x0, 32, [(13, 4)]⟩,
   ⟨31, .control, .pier, 0x100, 32, []⟩,
   ⟨32, .control, .pier, 0x108, 32, []⟩,
   ⟨33, .control, .pier, 0x110, 64, []⟩,
   ⟨34, .control, .tile, 0x700, 64, []⟩,
   ⟨35, .control, .tile, 0x708, 64, []⟩,
   ⟨36, .control, .tile, 0x710, 32, []⟩,
   ⟨37, .control, .tile, 0x718, 32, []⟩,
   ⟨38, .control, .tile, 0x720, 64, []⟩,
   ⟨39, .control, .dev, 0x210000, 64, []⟩]
/-- Part of the list of every register, in order of its number. -/
def regPart1 : List Reg :=
  [⟨40, .control, .tile, 0x800, 64, [(4, 16)]⟩,
   ⟨41, .control, .tile, 0x808, 64, [(4, 16)]⟩,
   ⟨42, .control, .dev, 0x220000, 64, []⟩,
   ⟨43, .control, .dev, 0x220008, 32, []⟩,
   ⟨44, .control, .dev, 0x220010, 64, []⟩,
   ⟨45, .control, .dev, 0x220018, 64, []⟩,
   ⟨46, .control, .dev, 0x220020, 32, []⟩,
   ⟨47, .control, .dev, 0x220028, 64, []⟩,
   ⟨48, .control, .dev, 0x220030, 64, []⟩,
   ⟨49, .control, .dev, 0x240000, 64, []⟩,
   ⟨50, .control, .dev, 0x240008, 32, []⟩,
   ⟨51, .control, .dev, 0x240010, 64, []⟩,
   ⟨52, .control, .dev, 0x240018, 32, []⟩,
   ⟨53, .control, .dev, 0x24001c, 32, []⟩,
   ⟨54, .control, .dev, 0x240020, 32, []⟩,
   ⟨55, .control, .dev, 0x240024, 32, []⟩,
   ⟨56, .control, .dev, 0x240040, 32, [(8, 4)]⟩,
   ⟨57, .control, .dev, 0x240060, 32, [(8, 4)]⟩,
   ⟨58, .control, .dev, 0x260000, 64, [(16, 256)]⟩,
   ⟨59, .control, .dev, 0x260008, 32, [(16, 256)]⟩,
   ⟨60, .control, .dev, 0x260010, 64, [(16, 256)]⟩,
   ⟨61, .control, .dev, 0x260018, 64, [(16, 256)]⟩,
   ⟨62, .control, .dev, 0x268000, 32, [(16, 1024), (2, 512), (2, 256), (48, 4)]⟩,
   ⟨63, .control, .dev, 0x270000, 32, [(10, 64)]⟩,
   ⟨64, .control, .dev, 0x270008, 32, [(10, 64)]⟩,
   ⟨65, .control, .dev, 0x270010, 64, [(10, 64)]⟩,
   ⟨66, .control, .dev, 0x10000, 64, []⟩,
   ⟨67, .control, .dev, 0x10008, 64, []⟩,
   ⟨68, .control, .dev, 0x10010, 64, []⟩,
   ⟨69, .job, .dev, 0x0, 64, []⟩,
   ⟨70, .job, .dev, 0x10, 64, []⟩,
   ⟨71, .job, .dev, 0x20, 64, []⟩,
   ⟨72, .job, .dev, 0x30, 64, []⟩,
   ⟨73, .job, .dev, 0x40, 64, []⟩,
   ⟨74, .job, .dev, 0x50, 64, []⟩,
   ⟨75, .job, .dev, 0x60, 64, []⟩,
   ⟨76, .job, .dev, 0x70, 64, []⟩,
   ⟨77, .job, .dev, 0x80, 64, []⟩,
   ⟨78, .job, .dev, 0x90, 64, []⟩,
   ⟨79, .jobStatus, .dev, 0x0, 32, []⟩]
/-- Part of the list of every register, in order of its number. -/
def regPart2 : List Reg :=
  [⟨80, .control, .dev, 0x0, 64, []⟩,
   ⟨81, .control, .dev, 0x8, 32, []⟩,
   ⟨82, .control, .dev, 0x10, 64, []⟩,
   ⟨83, .control, .dev, 0x18, 32, []⟩,
   ⟨84, .control, .dev, 0x20, 32, []⟩,
   ⟨85, .control, .dev, 0x28, 64, []⟩,
   ⟨86, .control, .dev, 0x30, 32, []⟩,
   ⟨87, .control, .dev, 0x38, 32, []⟩,
   ⟨88, .control, .dev, 0x40, 64, [(2, 8)]⟩,
   ⟨89, .control, .dev, 0x20000, 32, []⟩,
   ⟨90, .control, .dev, 0x20008, 64, []⟩,
   ⟨91, .control, .dev, 0x20010, 64, []⟩,
   ⟨92, .control, .dev, 0x20018, 64, []⟩,
   ⟨93, .control, .dev, 0x20020, 32, []⟩,
   ⟨94, .control, .dev, 0x20100, 64, [(8, 16)]⟩,
   ⟨95, .control, .dev, 0x20108, 64, [(8, 16)]⟩,
   ⟨96, .control, .dev, 0x21000, 64, [(1332, 8)]⟩,
   ⟨97, .control, .dev, 0x30000, 64, []⟩,
   ⟨98, .control, .dev, 0x30008, 64, []⟩,
   ⟨99, .control, .dev, 0x30010, 32, []⟩,
   ⟨100, .control, .dev, 0x30018, 32, []⟩,
   ⟨101, .control, .dev, 0x30020, 64, []⟩,
   ⟨102, .control, .dev, 0x30028, 32, []⟩,
   ⟨103, .control, .dev, 0x30100, 64, [(8, 8)]⟩,
   ⟨104, .control, .dev, 0x80000, 64, []⟩,
   ⟨105, .control, .dev, 0x80008, 32, []⟩,
   ⟨106, .control, .dev, 0x80010, 64, []⟩,
   ⟨107, .control, .dev, 0x80018, 64, []⟩,
   ⟨108, .control, .dev, 0x80020, 64, []⟩,
   ⟨109, .control, .dev, 0x40000, 64, []⟩,
   ⟨110, .control, .dev, 0x40008, 64, []⟩,
   ⟨111, .control, .dev, 0x40010, 64, []⟩,
   ⟨112, .control, .dev, 0x40018, 64, []⟩,
   ⟨113, .control, .dev, 0x40020, 64, []⟩,
   ⟨114, .control, .dev, 0x40028, 64, []⟩,
   ⟨115, .control, .dev, 0x40030, 64, []⟩,
   ⟨116, .control, .dev, 0x40038, 64, []⟩,
   ⟨117, .control, .dev, 0x40040, 64, []⟩,
   ⟨118, .control, .dev, 0x40048, 64, []⟩,
   ⟨119, .control, .dev, 0x40100, 32, [(16, 32), (8, 4)]⟩]
/-- Part of the list of every register, in order of its number. -/
def regPart3 : List Reg :=
  [⟨120, .control, .dev, 0x40400, 32, [(4, 4)]⟩,
   ⟨121, .control, .dev, 0x60000, 32, []⟩,
   ⟨122, .control, .dev, 0x60008, 64, []⟩,
   ⟨123, .control, .dev, 0x60010, 64, []⟩,
   ⟨124, .control, .dev, 0x60018, 64, []⟩,
   ⟨125, .control, .dev, 0x60020, 32, []⟩,
   ⟨126, .control, .dev, 0x60028, 32, []⟩,
   ⟨127, .control, .dev, 0x60030, 64, []⟩,
   ⟨128, .control, .dev, 0xa0000, 32, []⟩,
   ⟨129, .control, .dev, 0xa0008, 64, []⟩,
   ⟨130, .control, .dev, 0xa0010, 32, []⟩,
   ⟨131, .control, .dev, 0xa0018, 64, []⟩,
   ⟨132, .control, .dev, 0xa1000, 64, [(104, 8)]⟩,
   ⟨133, .control, .dev, 0xa2000, 64, [(10, 8)]⟩,
   ⟨134, .control, .dev, 0x201000, 512, []⟩,
   ⟨135, .control, .dev, 0x201040, 256, [(8, 32)]⟩,
   ⟨136, .control, .dev, 0x201200, 256, [(104, 32)]⟩,
   ⟨137, .control, .dev, 0x202000, 128, [(16, 16)]⟩,
   ⟨138, .control, .dev, 0x202100, 64, [(4, 8)]⟩,
   ⟨139, .control, .dev, 0x202200, 128, [(10, 16)]⟩,
   ⟨140, .control, .dev, 0x202400, 64, [(1332, 8)]⟩]
/-- Every register: its view, scope, offset, width in bits and the count and stride of each of its indices. -/
def allRegs : List Reg := regPart0 ++ regPart1 ++ regPart2 ++ regPart3

/-- The number of SYS_FP_STATUS among the registers. -/
def Rg.SYS_FP_STATUS : Nat := 0
/-- The number of SEQ_CTL among the registers. -/
def Rg.SEQ_CTL : Nat := 1
/-- The number of SEQ_THREAD_CTL among the registers. -/
def Rg.SEQ_THREAD_CTL : Nat := 2
/-- The number of SEQ_PLAY_BASE among the registers. -/
def Rg.SEQ_PLAY_BASE : Nat := 3
/-- The number of SEQ_XCH_DESC_BASE among the registers. -/
def Rg.SEQ_XCH_DESC_BASE : Nat := 4
/-- The number of SEQ_TRAP among the registers. -/
def Rg.SEQ_TRAP : Nat := 5
/-- The number of SEQ_TRAP_BEAT among the registers. -/
def Rg.SEQ_TRAP_BEAT : Nat := 6
/-- The number of SEQ_XCH_STATUS among the registers. -/
def Rg.SEQ_XCH_STATUS : Nat := 7
/-- The number of SEQ_TS_BANK among the registers. -/
def Rg.SEQ_TS_BANK : Nat := 8
/-- The number of SEQ_NUMFLAGS among the registers. -/
def Rg.SEQ_NUMFLAGS : Nat := 9
/-- The number of ARR_DESC_BASE among the registers. -/
def Rg.ARR_DESC_BASE : Nat := 10
/-- The number of ARR_STATUS among the registers. -/
def Rg.ARR_STATUS : Nat := 11
/-- The number of ARR_MV_STATUS among the registers. -/
def Rg.ARR_MV_STATUS : Nat := 12
/-- The number of ARR_CHECK among the registers. -/
def Rg.ARR_CHECK : Nat := 13
/-- The number of KVS_CFG among the registers. -/
def Rg.KVS_CFG : Nat := 14
/-- The number of KVS_POOL among the registers. -/
def Rg.KVS_POOL : Nat := 15
/-- The number of KVS_TABLES among the registers. -/
def Rg.KVS_TABLES : Nat := 16
/-- The number of KVS_SHADOW among the registers. -/
def Rg.KVS_SHADOW : Nat := 17
/-- The number of KVS_STATE among the registers. -/
def Rg.KVS_STATE : Nat := 18
/-- The number of KVS_COUNT among the registers. -/
def Rg.KVS_COUNT : Nat := 19
/-- The number of SLC_STATUS among the registers. -/
def Rg.SLC_STATUS : Nat := 20
/-- The number of SLC_REGIONS among the registers. -/
def Rg.SLC_REGIONS : Nat := 21
/-- The number of SLC_FLIP_MASK among the registers. -/
def Rg.SLC_FLIP_MASK : Nat := 22
/-- The number of SLC_SCRUB_RANGE among the registers. -/
def Rg.SLC_SCRUB_RANGE : Nat := 23
/-- The number of SLC_SCRUB_CTL among the registers. -/
def Rg.SLC_SCRUB_CTL : Nat := 24
/-- The number of SLC_SCRUB_SUM among the registers. -/
def Rg.SLC_SCRUB_SUM : Nat := 25
/-- The number of SLC_SCRUB_ADDR among the registers. -/
def Rg.SLC_SCRUB_ADDR : Nat := 26
/-- The number of SLC_SCRUB_EXT among the registers. -/
def Rg.SLC_SCRUB_EXT : Nat := 27
/-- The number of SLC_ERR among the registers. -/
def Rg.SLC_ERR : Nat := 28
/-- The number of SLC_COUNT among the registers. -/
def Rg.SLC_COUNT : Nat := 29
/-- The number of SLC_APT among the registers. -/
def Rg.SLC_APT : Nat := 30
/-- The number of PCH_CFG among the registers. -/
def Rg.PCH_CFG : Nat := 31
/-- The number of PCH_STATUS among the registers. -/
def Rg.PCH_STATUS : Nat := 32
/-- The number of PCH_INVAL among the registers. -/
def Rg.PCH_INVAL : Nat := 33
/-- The number of BKU_READY among the registers. -/
def Rg.BKU_READY : Nat := 34
/-- The number of BKU_FAULTED among the registers. -/
def Rg.BKU_FAULTED : Nat := 35
/-- The number of BKU_CMD_BASE among the registers. -/
def Rg.BKU_CMD_BASE : Nat := 36
/-- The number of BKU_CTL among the registers. -/
def Rg.BKU_CTL : Nat := 37
/-- The number of BKU_COUNT among the registers. -/
def Rg.BKU_COUNT : Nat := 38
/-- The number of RNG_SEED_STATUS among the registers. -/
def Rg.RNG_SEED_STATUS : Nat := 39
/-- The number of RNG_CTX among the registers. -/
def Rg.RNG_CTX : Nat := 40
/-- The number of RNG_POS among the registers. -/
def Rg.RNG_POS : Nat := 41
/-- The number of BEAT_COUNT among the registers. -/
def Rg.BEAT_COUNT : Nat := 42
/-- The number of BEAT_STATUS among the registers. -/
def Rg.BEAT_STATUS : Nat := 43
/-- The number of BEAT_CFG among the registers. -/
def Rg.BEAT_CFG : Nat := 44
/-- The number of BEAT_FRAME among the registers. -/
def Rg.BEAT_FRAME : Nat := 45
/-- The number of BEAT_HOLD among the registers. -/
def Rg.BEAT_HOLD : Nat := 46
/-- The number of BEAT_SLICE among the registers. -/
def Rg.BEAT_SLICE : Nat := 47
/-- The number of BEAT_RAMP among the registers. -/
def Rg.BEAT_RAMP : Nat := 48
/-- The number of BND_SRC among the registers. -/
def Rg.BND_SRC : Nat := 49
/-- The number of BND_CTL among the registers. -/
def Rg.BND_CTL : Nat := 50
/-- The number of BND_STATUS among the registers. -/
def Rg.BND_STATUS : Nat := 51
/-- The number of BND_INFORCE among the registers. -/
def Rg.BND_INFORCE : Nat := 52
/-- The number of BND_LOST among the registers. -/
def Rg.BND_LOST : Nat := 53
/-- The number of BND_FLOOR among the registers. -/
def Rg.BND_FLOOR : Nat := 54
/-- The number of BND_DOMAIN among the registers. -/
def Rg.BND_DOMAIN : Nat := 55
/-- The number of BND_DIGEST among the registers. -/
def Rg.BND_DIGEST : Nat := 56
/-- The number of BND_BUILD among the registers. -/
def Rg.BND_BUILD : Nat := 57
/-- The number of LNK_STATUS among the registers. -/
def Rg.LNK_STATUS : Nat := 58
/-- The number of LNK_CTL among the registers. -/
def Rg.LNK_CTL : Nat := 59
/-- The number of LNK_ERR among the registers. -/
def Rg.LNK_ERR : Nat := 60
/-- The number of LNK_CELLS among the registers. -/
def Rg.LNK_CELLS : Nat := 61
/-- The number of LNK_MAP among the registers. -/
def Rg.LNK_MAP : Nat := 62
/-- The number of BRG_STATUS among the registers. -/
def Rg.BRG_STATUS : Nat := 63
/-- The number of BRG_CTL among the registers. -/
def Rg.BRG_CTL : Nat := 64
/-- The number of BRG_ERR among the registers. -/
def Rg.BRG_ERR : Nat := 65
/-- The number of ATT_PENDING among the registers. -/
def Rg.ATT_PENDING : Nat := 66
/-- The number of ATT_TRAP0 among the registers. -/
def Rg.ATT_TRAP0 : Nat := 67
/-- The number of ATT_TRAP1 among the registers. -/
def Rg.ATT_TRAP1 : Nat := 68
/-- The number of FRONT_INFO among the registers. -/
def Rg.FRONT_INFO : Nat := 69
/-- The number of FRONT_RING_CTL among the registers. -/
def Rg.FRONT_RING_CTL : Nat := 70
/-- The number of FRONT_SQ among the registers. -/
def Rg.FRONT_SQ : Nat := 71
/-- The number of FRONT_SQ_PTRS among the registers. -/
def Rg.FRONT_SQ_PTRS : Nat := 72
/-- The number of FRONT_RQ among the registers. -/
def Rg.FRONT_RQ : Nat := 73
/-- The number of FRONT_RQ_PTRS among the registers. -/
def Rg.FRONT_RQ_PTRS : Nat := 74
/-- The number of FRONT_WIN among the registers. -/
def Rg.FRONT_WIN : Nat := 75
/-- The number of FRONT_WIN_LAST among the registers. -/
def Rg.FRONT_WIN_LAST : Nat := 76
/-- The number of FRONT_JOB among the registers. -/
def Rg.FRONT_JOB : Nat := 77
/-- The number of FRONT_COUNT among the registers. -/
def Rg.FRONT_COUNT : Nat := 78
/-- The number of FRONT_STATUS among the registers. -/
def Rg.FRONT_STATUS : Nat := 79
/-- The number of SYS_ID among the registers. -/
def Rg.SYS_ID : Nat := 80
/-- The number of SYS_FW among the registers. -/
def Rg.SYS_FW : Nat := 81
/-- The number of SYS_BOOT_STATUS among the registers. -/
def Rg.SYS_BOOT_STATUS : Nat := 82
/-- The number of SYS_BOOT_CTL among the registers. -/
def Rg.SYS_BOOT_CTL : Nat := 83
/-- The number of SYS_RESET among the registers. -/
def Rg.SYS_RESET : Nat := 84
/-- The number of SYS_RESET_STATUS among the registers. -/
def Rg.SYS_RESET_STATUS : Nat := 85
/-- The number of SYS_POWER among the registers. -/
def Rg.SYS_POWER : Nat := 86
/-- The number of SYS_CFG_LOST among the registers. -/
def Rg.SYS_CFG_LOST : Nat := 87
/-- The number of SYS_TILE_UNCONF among the registers. -/
def Rg.SYS_TILE_UNCONF : Nat := 88
/-- The number of THM_CFG among the registers. -/
def Rg.THM_CFG : Nat := 89
/-- The number of THM_STATUS among the registers. -/
def Rg.THM_STATUS : Nat := 90
/-- The number of THM_COOLANT among the registers. -/
def Rg.THM_COOLANT : Nat := 91
/-- The number of THM_TRIP among the registers. -/
def Rg.THM_TRIP : Nat := 92
/-- The number of THM_COMMISSION among the registers. -/
def Rg.THM_COMMISSION : Nat := 93
/-- The number of THM_PIER among the registers. -/
def Rg.THM_PIER : Nat := 94
/-- The number of THM_RTH among the registers. -/
def Rg.THM_RTH : Nat := 95
/-- The number of THM_SENSOR among the registers. -/
def Rg.THM_SENSOR : Nat := 96
/-- The number of PWR_STATUS among the registers. -/
def Rg.PWR_STATUS : Nat := 97
/-- The number of PWR_COUNT among the registers. -/
def Rg.PWR_COUNT : Nat := 98
/-- The number of PWR_ENVELOPE among the registers. -/
def Rg.PWR_ENVELOPE : Nat := 99
/-- The number of PWR_DOMAINS among the registers. -/
def Rg.PWR_DOMAINS : Nat := 100
/-- The number of PWR_LEDGER among the registers. -/
def Rg.PWR_LEDGER : Nat := 101
/-- The number of PWR_HOLDUP among the registers. -/
def Rg.PWR_HOLDUP : Nat := 102
/-- The number of PWR_RAIL among the registers. -/
def Rg.PWR_RAIL : Nat := 103
/-- The number of TWN_STATUS among the registers. -/
def Rg.TWN_STATUS : Nat := 104
/-- The number of TWN_CTL among the registers. -/
def Rg.TWN_CTL : Nat := 105
/-- The number of TWN_MIRROR among the registers. -/
def Rg.TWN_MIRROR : Nat := 106
/-- The number of TWN_TAKEOVER among the registers. -/
def Rg.TWN_TAKEOVER : Nat := 107
/-- The number of TWN_COUNT among the registers. -/
def Rg.TWN_COUNT : Nat := 108
/-- The number of QUO_STATUS among the registers. -/
def Rg.QUO_STATUS : Nat := 109
/-- The number of QUO_IDENT among the registers. -/
def Rg.QUO_IDENT : Nat := 110
/-- The number of QUO_OWNER among the registers. -/
def Rg.QUO_OWNER : Nat := 111
/-- The number of QUO_FW among the registers. -/
def Rg.QUO_FW : Nat := 112
/-- The number of QUO_CMD among the registers. -/
def Rg.QUO_CMD : Nat := 113
/-- The number of QUO_CMD_ADDR among the registers. -/
def Rg.QUO_CMD_ADDR : Nat := 114
/-- The number of QUO_CMD_STATUS among the registers. -/
def Rg.QUO_CMD_STATUS : Nat := 115
/-- The number of QUO_KEYS among the registers. -/
def Rg.QUO_KEYS : Nat := 116
/-- The number of QUO_DEBUG among the registers. -/
def Rg.QUO_DEBUG : Nat := 117
/-- The number of QUO_SEAL among the registers. -/
def Rg.QUO_SEAL : Nat := 118
/-- The number of QUO_MEAS among the registers. -/
def Rg.QUO_MEAS : Nat := 119
/-- The number of QUO_NONCE among the registers. -/
def Rg.QUO_NONCE : Nat := 120
/-- The number of SCB_CTL among the registers. -/
def Rg.SCB_CTL : Nat := 121
/-- The number of SCB_STATUS among the registers. -/
def Rg.SCB_STATUS : Nat := 122
/-- The number of SCB_CURSOR among the registers. -/
def Rg.SCB_CURSOR : Nat := 123
/-- The number of SCB_DATA among the registers. -/
def Rg.SCB_DATA : Nat := 124
/-- The number of SCB_RATE_SEL among the registers. -/
def Rg.SCB_RATE_SEL : Nat := 125
/-- The number of SCB_RATE among the registers. -/
def Rg.SCB_RATE : Nat := 126
/-- The number of SCB_FLUSH_INFO among the registers. -/
def Rg.SCB_FLUSH_INFO : Nat := 127
/-- The number of MRG_CTL among the registers. -/
def Rg.MRG_CTL : Nat := 128
/-- The number of MRG_TARGET among the registers. -/
def Rg.MRG_TARGET : Nat := 129
/-- The number of MRG_STATUS among the registers. -/
def Rg.MRG_STATUS : Nat := 130
/-- The number of MRG_RESULT among the registers. -/
def Rg.MRG_RESULT : Nat := 131
/-- The number of MRG_TEST_TILE among the registers. -/
def Rg.MRG_TEST_TILE : Nat := 132
/-- The number of MRG_TEST_BRIDGE among the registers. -/
def Rg.MRG_TEST_BRIDGE : Nat := 133
/-- The number of FP_HDR among the registers. -/
def Rg.FP_HDR : Nat := 134
/-- The number of FP_PIER among the registers. -/
def Rg.FP_PIER : Nat := 135
/-- The number of FP_TILE among the registers. -/
def Rg.FP_TILE : Nat := 136
/-- The number of FP_LINK among the registers. -/
def Rg.FP_LINK : Nat := 137
/-- The number of FP_SPARE among the registers. -/
def Rg.FP_SPARE : Nat := 138
/-- The number of FP_BRIDGE among the registers. -/
def Rg.FP_BRIDGE : Nat := 139
/-- The number of FP_SENSOR among the registers. -/
def Rg.FP_SENSOR : Nat := 140

end Sys2Proof.Machine
end

