-- ==== Sys2Proof/Machine/State.lean ====
section
/-! DEFINITION. The whole state of the PX8: registers, memories, tiles, the rest of the module, and the queue of commands. -/

namespace Sys2Proof.Machine

/-- Why the machine stops. No meaning raises a fault: every command of the table has an effect the spec gives. -/
inductive Fault where
  /-- Raised by nobody: the type needs an inhabitant to be written down. Safe. -/
  | unreachable
deriving DecidableEq, Repr

/-- Why a command has no meaning. -/
inductive Refusal where
  /-- Raised by `exec` alone, for a command whose meaning is not written yet. Safe. -/
  | notModelled (mnemonic : String)
deriving DecidableEq, Repr

/-- The state of the module. -/
structure State where
  /-- The commands that wait, first in, first out. -/
  pending : List Instr
  /-- The clock cycle of the last event. -/
  now : Nat
  /-- Register fields that differ from their Reset values: key 65,536 × field + index. -/
  fv : Tab (BitVec 64)
  /-- Slices and pier-cache scratchpads by physical address; an unlisted byte reads 0. -/
  mem : List Host.Cell
  /-- Tile stores, at 2^25 × tile + address; an unlisted byte reads 0. -/
  ts : List Host.Cell
  /-- Slice lines that are uncorrectable (R186), by physical address / 64. -/
  badLines : Tab Nat
  /-- Slice lines that carry an armed flip (R190): 1 correctable on the die, 2 by the second code, 3 not at all. -/
  latent : Tab Nat
  /-- Lines held in the cache ways of the pier caches, oldest first (R179). -/
  pch : List PLine
  tiles : Tab Tile
  beat : BeatState
  imgA : Image
  imgB : Image
  scb : Scb
  fpPend : List FpItem
  repairs : List Repair
  out : List Out
  /-- Chunks that wait at their port for a cell slot of their channel (R253). -/
  remote : List RemoteChunk
  /-- Window requests in progress (R351). -/
  wins : List Win
  /-- Outcomes that wait for the port or mirror engine that asked (R177). -/
  answers : List Answer
  /-- The model's own count of free values drawn. -/
  freeCtr : Nat
  /-- The cycle of the last cold start. -/
  coldAt : Nat
  /-- The device seed (R232). -/
  seed : Nat
  /-- HEAD_KEY of head h of tile x, at 4x + h (R241). -/
  headKeys : Tab Nat
  /-- Module indices with a MODULES record in force (R290). -/
  modules : List Nat
  /-- The Aelli ports. -/
  ports : Tab PortState
  front : Front
  life : Life
  power : Power
  bond : Bond
  twin : Twin
  quoin : Quoin
  /-- A margin run in progress (R475). -/
  margin : Option MarginRun
  /-- PCIe lanes that stand off their normal settings or error limit: 65,536 × error limit + 256 × margin type + payload (R478). -/
  lanes : Tab Nat
deriving DecidableEq, Repr

/-- The module before power-good: every register at its Reset value, every memory unwritten, nothing in progress. -/
def State.reset : State :=
  { pending := [], now := 0, fv := [], mem := [], ts := [], badLines := [], latent := [], pch := [], tiles := [], beat := BeatState.idle,
    imgA := Image.empty, imgB := Image.empty, scb := Scb.empty, fpPend := [], repairs := [], out := [], remote := [], wins := [], answers := [], freeCtr := 0, coldAt := 0, seed := 0, headKeys := [], modules := [], ports := [], front := ⟨[], [], 0, 0, false⟩, life := Life.off,
    power := Power.idle, bond := ⟨[], [], none, []⟩, twin := Twin.idle, quoin := Quoin.idle, margin := none, lanes := [] }

end Sys2Proof.Machine
end

