-- ==== Sys2Proof/Machine/Tab.lean ====
section
/-! DEFINITION. Reading and writing a sparse table in its one canonical form: keys strictly rising, no entry equal to
the default an unlisted key reads as. -/

namespace Sys2Proof.Machine

/-- The value listed at a key, if one is listed. -/
def Tab.find {α : Type} : Tab α → Nat → Option α
  | [], _ => none
  | (k, v) :: r, q => if k = q then some v else Tab.find r q

/-- The value at a key; an unlisted key reads as the default. -/
def Tab.get {α : Type} (d : α) (m : Tab α) (q : Nat) : α := (Tab.find m q).getD d

/-- The table without any entry at a key. -/
def Tab.drop {α : Type} : Tab α → Nat → Tab α
  | [], _ => []
  | (k, v) :: r, q => if k = q then Tab.drop r q else (k, v) :: Tab.drop r q

/-- An entry placed before the first larger key. -/
def Tab.ins {α : Type} : Tab α → Nat → α → Tab α
  | [], q, x => [(q, x)]
  | (k, v) :: r, q, x => if q < k then (q, x) :: (k, v) :: r else (k, v) :: Tab.ins r q x

/-- The table with a value at a key; the default is never listed. -/
def Tab.put {α : Type} [DecidableEq α] (d : α) (m : Tab α) (q : Nat) (x : α) : Tab α :=
  if x = d then Tab.drop m q else Tab.ins (Tab.drop m q) q x

/-- The table with the value at a key changed by a function. -/
def Tab.upd {α : Type} [DecidableEq α] (d : α) (m : Tab α) (q : Nat) (f : α → α) : Tab α :=
  Tab.put d m q (f (Tab.get d m q))

/-- The table without the entries whose key meets a test. -/
def Tab.dropWhere {α : Type} (p : Nat → Bool) : Tab α → Tab α
  | [] => []
  | (k, v) :: r => if p k then Tab.dropWhere p r else (k, v) :: Tab.dropWhere p r

/-- Every key of the table lies above a bound and the keys rise strictly; no value is the default. -/
def Tab.wfFrom {α : Type} [DecidableEq α] (d : α) : Nat → Tab α → Bool
  | _, [] => true
  | lo, (k, v) :: r => decide (lo ≤ k) && !decide (v = d) && Tab.wfFrom d (k + 1) r

/-- The canonical form of a sparse table. -/
def Tab.wf {α : Type} [DecidableEq α] (d : α) (m : Tab α) : Bool := Tab.wfFrom d 0 m

end Sys2Proof.Machine
end

