-- ==== Sys2Proof/Machine/Ops.lean ====
section
/-! DEFINITION. The named operations over registers and memories, and what every chapter shares: time and beats, attention
(R337 to R340), Scorebook occurrences (R461, R464, R467), traps (R62 to R64), free values, floor-plan items. -/

namespace Sys2Proof.Machine

/-! ### Time -/

/-- The state at the cycle of an event; time never runs back. -/
def State.tick (s : State) (t : Nat) : State := { s with now := max s.now t }

/-- The beat of the present cycle, a 64-bit count (R244). -/
def State.beatNow (s : State) : Nat := (s.beat.base + s.now / 32) % 2 ^ 64

/-- Unit cycles: clock cycles less those gated by domain freezes (R118). -/
def State.gclk (s : State) : Nat :=
  match s.beat.freezeFrom with
  | some c => c - s.beat.gated
  | none => s.now - s.beat.gated

/-- Whether a domain freeze is in force. -/
def State.frozen (s : State) : Bool := s.beat.freezeFrom.isSome

/-- Schedule cycles: clock cycles less those of rest frames and freezes (R245). -/
def State.sclk (s : State) : Nat :=
  match s.beat.stallFrom with
  | some c => c - s.beat.stalled
  | none => s.now - s.beat.stalled

/-! ### Registers -/

/-- The key of register field f, copy i, in the register file. -/
def Fld.key (f : Fld) (i : Nat) : Nat := f.id * 65536 + i

/-- The Reset value of copy i of a field. -/
def Fld.dflt (f : Fld) (i : Nat) : BitVec 64 :=
  match f.rst with
  | .num n => BitVec.ofNat 64 n
  | .own => BitVec.ofNat 64 (i % 13)

/-- The value of copy i of a register field. -/
def State.rd (s : State) (f : Fld) (i : Nat) : Nat := (Tab.get (f.dflt i) s.fv (f.key i)).toNat % 2 ^ f.w

/-- Copy i of a register field set to a value, taken to the field's width. -/
def State.wr (s : State) (f : Fld) (i n : Nat) : State :=
  { s with fv := Tab.put (f.dflt i) s.fv (f.key i) (BitVec.ofNat 64 (n % 2 ^ f.w)) }

/-- A field raised by n, staying at its maximum. -/
def State.sat (s : State) (f : Fld) (i n : Nat) : State := s.wr f i (satAdd f.w (s.rd f i) n)

/-- One bit of a field set or cleared. -/
def State.wrBit (s : State) (f : Fld) (i b : Nat) (v : Bool) : State :=
  s.wr f i (putBits (s.rd f i) b 1 (bit v))

/-! ### Memory -/

/-- One byte of a slice or scratchpad. -/
def State.memByte (s : State) (a : Nat) : Byte := Tab.get 0 s.mem a

/-- One byte of a tile store. -/
def State.tsByte (s : State) (x a : Nat) : Byte := Tab.get 0 s.ts (x * 2 ^ 25 + a)

/-- Consecutive bytes of a slice or scratchpad. -/
def State.memRead (s : State) (a : Nat) : Nat → Bytes
  | 0 => []
  | n + 1 => s.memByte a :: s.memRead (a + 1) n

/-- Consecutive bytes of a tile store. -/
def State.tsRead (s : State) (x a : Nat) : Nat → Bytes
  | 0 => []
  | n + 1 => s.tsByte x a :: s.tsRead x (a + 1) n

/-- Bytes written to consecutive cells of a memory. -/
def cellsWrite : List Host.Cell → Nat → Bytes → List Host.Cell
  | m, _, [] => m
  | m, a, b :: r => cellsWrite (Tab.put 0 m a b) (a + 1) r

/-- The canonical form of a memory: addresses strictly rising and no byte that an unlisted address already reads as. -/
def Memory.wf (m : List Host.Cell) : Bool := Tab.wf (0 : Byte) m

/-! ### Positions, roles and the device physical address map (R161 to R165) -/

/-- The position p.t of a tile index. -/
def pierOf (x : Nat) : Nat := x / 13
/-- The position within its pier. -/
def posOf (x : Nat) : Nat := x % 13
/-- The physical address of a slice's first byte. -/
def sliceBase (x : Nat) : Nat := (pierOf x <<< 37) + (posOf x <<< 33)

/-- A tile. -/
def State.tile (s : State) (x : Nat) : Tile := Tab.get Tile.idle s.tiles x
/-- A tile changed. -/
def State.updTile (s : State) (x : Nat) (f : Tile → Tile) : State := { s with tiles := Tab.upd Tile.idle s.tiles x f }

/-- Role codes of a tile position: 0 COMPUTE, 1 SPARE_IDLE, 2 SPARE_MEMONLY, 3 NONE. -/
def State.role (s : State) (x : Nat) : Nat := (s.tile x).facts.role
/-- Whether a position's compute units are powered off in memory-only mode (R66). -/
def State.memOnly (s : State) (x : Nat) : Bool := s.role x == 2

/-- Bytes of a slice. -/
def sliceSize : Nat := 2 ^ 33

/-- The first slice offset of a tile's mirror region (R165). -/
def State.mirrorBase (s : State) (x : Nat) : Nat :=
  if s.role x = 0 then sliceSize - s.rd F.SLC_REGIONS_MIRROR_UNITS x * 2 ^ 29 else sliceSize

/-- What a device physical address names (R164): an offset of a slice, an offset of a scratchpad, or a violation with its
cause (R189). -/
inductive Place where
  | slice (x off : Nat)
  | scratch (p off : Nat)
  | viol (cause : Nat)
deriving DecidableEq, Repr

/-- The decode of R164. `mirror` says that the access is the twin mirror engine's. -/
def State.decodeDpa (s : State) (mirror : Bool) (dpa : Nat) : Place :=
  let p := bitsAt dpa 37 3
  let f := bitsAt dpa 33 4
  let a := bitsAt dpa 0 33
  if f = 13 then
    (if s.rd F.PCH_CFG_SCR_WAYS p * 2 ^ 23 ≤ a ∨ s.rd F.PCH_STATUS_SCR_LOST p = 1 then .viol 1 else .scratch p a)
  else if 12 < f then .viol 1
  else
    let t := s.rd F.SLC_APT_PHYS (p * 13 + f)
    if t = 15 then .viol 2
    else
      let x := 13 * p + t
      if s.mirrorBase x ≤ a ∧ !mirror then .viol 3 else .slice x a

/-- The key of a byte of memory that a place names. -/
def Place.addr : Place → Nat
  | .slice x off => sliceBase x + off
  | .scratch p off => (p <<< 37) + (13 <<< 33) + off
  | .viol _ => 0

/-- The home field of the logical tile a slice serves, or its own position (R163, R182). -/
def State.homeField (s : State) (x : Nat) : Nat :=
  let p := pierOf x
  match (List.range 13).find? (fun f => s.rd F.SLC_APT_PHYS (p * 13 + f) == posOf x &&
      s.rd F.SLC_APT_LOGICAL (p * 13 + f) != 0x7F) with
  | some f => f
  | none => posOf x

/-- The tile position that serves a logical tile, if one does. -/
def State.tileOfLogical (s : State) (n : Nat) : Option Nat :=
  (List.range 104).find? (fun x => (s.tile x).facts.logical == n)

/-- Bytes written to a slice or scratchpad at a physical address. A write that covers all 64 bytes of an uncorrectable line
makes it good; bytes written to part of one are not kept (R186). -/
def State.memWriteLine (s : State) (a : Nat) (bs : Bytes) : State :=
  let line := a / 64
  if Tab.get 0 s.badLines line = 1 then
    (if bs.length = 64 then { s with mem := cellsWrite s.mem a bs, badLines := Tab.drop s.badLines line } else s)
  else { s with mem := cellsWrite s.mem a bs }

/-- Bytes written line by line. -/
def State.memWriteFrom (s : State) : Nat → Nat → Bytes → State
  | 0, _, _ => s
  | n + 1, a, bs =>
    if bs.isEmpty then s
    else
      let k := 64 - a % 64
      (s.memWriteLine a (bs.take k)).memWriteFrom n (a + k) (bs.drop k)

/-- Bytes written to a slice or scratchpad. -/
def State.memWrite (s : State) (a : Nat) (bs : Bytes) : State := s.memWriteFrom (bs.length / 64 + 2) a bs

/-- Whether some line of a range is uncorrectable. -/
def State.badRange (s : State) (a n : Nat) : Bool :=
  (List.range ((a + n - 1) / 64 + 1 - a / 64)).any (fun i => Tab.get 0 s.badLines (a / 64 + i) == 1)

/-! ### Free values -/

/-- A fresh free value, and the state that has drawn it (log entry 3). -/
def State.free (s : State) : Nat × State := ((Config.freeValue s.freeCtr).toNat, { s with freeCtr := s.freeCtr + 1 })

/-! ### Attention (R337 to R340) -/

/-- A cause of ATT_PENDING set. -/
def State.attn (s : State) (f : Fld) : State := s.wr f 0 1

/-- The causes of ATT_PENDING with their classes, highest class first (R338, R340). -/
def attnClasses : List (Nat × List Fld) :=
  [(7, [F.ATT_PENDING_SENSOR, F.ATT_PENDING_COOLING_DEGRADED, F.ATT_PENDING_CLAMP, F.ATT_PENDING_HOT_BAND]),
   (6, [F.ATT_PENDING_PHASE, F.ATT_PENDING_INPUT, F.ATT_PENDING_LEDGER, F.ATT_PENDING_HOLDUP]),
   (5, [F.ATT_PENDING_PARTNER_LOST, F.ATT_PENDING_DOUBLE_DUTY, F.ATT_PENDING_MIRROR_LAG, F.ATT_PENDING_REJOINED]),
   (4, [F.ATT_PENDING_PORT_DOWN, F.ATT_PENDING_BEAT, F.ATT_PENDING_BRIDGE, F.ATT_PENDING_ROUTE_SHORT,
     F.ATT_PENDING_CELL_LOST]),
   (3, [F.ATT_PENDING_RETIRE_PENDING, F.ATT_PENDING_UNCORR, F.ATT_PENDING_KV_LOST, F.ATT_PENDING_SCR_LOST]),
   (2, [F.ATT_PENDING_TRAP]), (1, [F.ATT_PENDING_CONFIG_LOST])]

/-- The highest class among the set causes, 0 when none is set (R337). -/
def State.attnClass (s : State) : Nat :=
  match attnClasses.find? (fun c => c.2.any (fun f => s.rd f 0 == 1)) with
  | some c => c.1
  | none => 0

/-- The status field with a completion code (R337). -/
def State.statusField (s : State) (code : Nat) : Nat :=
  code % 4096 + (s.attnClass <<< 12) + (if s.attnClass = 0 then 0 else 0x8000)

/-! ### The Scorebook (R458 to R470) -/

/-- The beat of an event and whether it is a Campus Beat count (R460). -/
def State.scbBeat (s : State) : Nat × Bool :=
  let st := s.rd F.BEAT_STATUS_STATE 0
  if st = 1 ∨ st = 2 then (s.beatNow, false) else ((s.now - s.coldAt) / 32, true)

/-- The histogram bin of a value (R460). -/
def scbBin (v : Nat) : Nat := if v < 2 then 0 else min 15 (Nat.log2 v)

/-- The fixed codes (R509): whether latching, and the unit. -/
def scbFixed (code : Nat) : Option (Bool × Nat) :=
  match code with
  | 0x001 => some (false, 0) | 0x002 => some (false, 0) | 0x003 => some (false, 7) | 0x004 => some (false, 0) | 0x005 => some (false, 0)
  | 0x006 => some (false, 0) | 0x007 => some (false, 0) | 0x008 => some (false, 0) | 0x009 => some (true, 0) | 0x0F0 => some (false, 0)
  | 0x201 => some (false, 0) | 0x210 => some (false, 1) | 0x211 => some (true, 0) | 0x300 => some (true, 0)
  | _ => none

/-- FLAGS of a code without its UNLOCKED bits (R460, R509): IN_USE, VALUED, LATCHING and UNIT; for a code that firmware assigns, firmware's
(log entry 8). -/
def scbFlags (code : Nat) : Nat :=
  match scbFixed code with
  | some f => 3 + 4 * bit f.1 + 256 * f.2
  | none => (Config.firmwareFlags code).toNat &&& 0xF07

/-- Codes whose occurrences trigger a flush (R460). -/
def scbLatching (code : Nat) : Bool :=
  match scbFixed code with
  | some f => f.1
  | none => (scbFlags code).testBit 2

/-- Codes whose occurrences carry a value (R460). -/
def scbValued (code : Nat) : Bool := (scbFixed code).isSome || (scbFlags code).testBit 1

/-- A record updated by one occurrence (R461, R466). Histogram bins hold 24 bits in the compact layout and 32 in the full. -/
def scbApply (full : Bool) (r : ScbRec) (a : Aside) : ScbRec :=
  let first := r.count == 0
  let lim := if full then 32 else 24
  let v := scbValued a.code
  let base := { r with
    count := satAdd 32 r.count 1, min := if v then min r.min a.value else r.min, max := if v then max r.max a.value else r.max,
    seq := (r.seq + 1) % 2 ^ 32, first := if first then a.beat else r.first, unlFirst := if first then a.unl else r.unlFirst }
  if a.admitted then
    { base with
      last := a.beat, unlLast := a.unl, value := if v then a.value else r.value,
      hist := if v then Tab.upd 0 r.hist (scbBin a.value) (fun h => satAdd lim h 1) else r.hist }
  else { base with supp := satAdd 32 r.supp 1 }

/-- An occurrence applied to its record, or counted in UNHELD if the layout does not hold its code (R459). -/
def State.scbLand (s : State) (a : Aside) : State :=
  let full := s.rd F.SCB_STATUS_LAYOUT 0 == 1
  if full || decide (a.code < 0x400) then
    { s with scb := { s.scb with recs := Tab.upd ScbRec.empty s.scb.recs a.code (fun r => scbApply full r a) } }
  else s.sat F.SCB_STATUS_UNHELD 0 1

/-- The occurrences of the aside queue applied in order. -/
def State.scbDrain : List Aside → State → State
  | [], s => s
  | a :: r, s => State.scbDrain r (s.scbLand a)

/-- A thaw (R464). -/
def State.scbThawNow (s : State) (auto : Bool) : State :=
  let q := s.scb.aside
  let s1 := State.scbDrain q { s with scb := { s.scb with aside := [] } }
  let s2 := ((s1.wr F.SCB_STATUS_FROZEN 0 0).wr F.SCB_CTL_FREEZE 0 0).wr F.SCB_STATUS_ASIDE 0 0
  s2.wr F.SCB_STATUS_AUTO_THAW 0 (if auto then 1 else s2.rd F.SCB_STATUS_AUTO_THAW 0)

/-- A flush begins (R467). -/
def State.scbFlushBegin (s : State) (reason : Nat) : State :=
  ({ s with scb := { s.scb with flushing := some reason } } : State).wr F.SCB_STATUS_FLUSHING 0 1

/-- A flush trigger (R467, R468): power fail abandons a flush in progress; a trip is satisfied by it; any other trigger
starts a further flush afterwards. -/
def State.scbTrigger (s : State) (reason : Nat) (trip : Bool) : State :=
  let s1 := if (reason = 2 ∨ reason = 3) ∧ s.rd F.SCB_STATUS_FROZEN 0 = 1 then s.scbThawNow true else s
  match s1.scb.flushing with
  | none => s1.scbFlushBegin reason
  | some r =>
    if reason = 3 then
      (if r = 3 then s1 else { s1 with scb := { s1.scb with flushing := some 3, slot := 1 - s1.scb.slot } })
    else if trip then s1
    else { s1 with scb := { s1.scb with flushAgain := some reason } }

/-- An occurrence of an event with its value (R461, R464). -/
def State.note (s : State) (code value : Nat) : State :=
  let word := Tab.get rateDefault s.scb.rates code
  let rate := bitsAt word 0 13
  let burst := bitsAt word 16 8
  let miss := Tab.get 0 s.scb.missing code
  let ok := rate != 0 && decide (miss < burst)
  let s1 := if ok then { s with scb := { s.scb with
      missing := Tab.put 0 s.scb.missing code (miss + 1)
      since := if miss = 0 then Tab.put (0, 0) s.scb.since code (s.now, 0) else s.scb.since } } else s
  let b := s.scbBeat
  let a : Aside := ⟨code, b.1, b.2, value % 2 ^ 32, ok⟩
  let s2 :=
    if s1.rd F.SCB_STATUS_FROZEN 0 = 1 then
      let s3 := { s1 with scb := { s1.scb with aside := s1.scb.aside ++ [a] } }
      let s4 := s3.wr F.SCB_STATUS_ASIDE 0 s3.scb.aside.length
      if 1024 ≤ s4.scb.aside.length then s4.scbThawNow true else s4
    else s1.scbLand a
  if scbLatching code then s2.scbTrigger 2 false else s2

/-- A write that the device ignores and records (R9, R11, R22). -/
def State.noteWrite (s : State) (off : Nat) : State := s.note 0x001 off

/-- An occurrence that the spec says is recorded without fixing its code: number k of those firmware assigns (log entry 8). -/
def State.noteFw (s : State) (k value : Nat) : State := s.note (Config.firmwareCode k).toNat value

/-! ### Floor-plan items -/

/-- A cause that the floor plan has yet to show (R24). -/
def State.fpPush (s : State) (kind part repair : Nat) : State := { s with fpPend := s.fpPend ++ [⟨kind, part, repair, 0, s.now⟩] }

/-- A tile found unfit while a schedule runs enters RETIRE_PENDING (R34). Item kind 1 is a tile entry. -/
def State.retirePending (s : State) (x reason : Nat) : State :=
  if 2 ≤ (s.tile x).facts.health then s
  else ((s.updTile x (fun t => { t with facts := { t.facts with health := 2, reason := reason } })).attn
    F.ATT_PENDING_RETIRE_PENDING).fpPush 1 x 0

/-! ### Traps (R62 to R64) -/

/-- A trap to raise: its code, INFO, and whether its scope is every thread. -/
structure TrapReq where
  code : Nat
  info : Nat
  shared : Bool
deriving DecidableEq, Repr

/-- Threads of a tile's partition mode (R44). -/
def State.threadCount (s : State) (x : Nat) : Nat :=
  match s.rd F.SEQ_CTL_PARTITION x with
  | 0 => 1
  | 1 => 2
  | _ => 4

/-- A play thread. -/
def State.thread (s : State) (x k : Nat) : Thread := Tab.get Thread.idle (s.tile x).eng.threads k
/-- The engine of a tile changed. -/
def State.updEng (s : State) (x : Nat) (f : Engine → Engine) : State := s.updTile x (fun t => { t with eng := f t.eng })
/-- A play thread changed. -/
def State.updThread (s : State) (x k : Nat) (f : Thread → Thread) : State :=
  s.updEng x (fun e => { e with threads := Tab.upd Thread.idle e.threads k f })

/-- Whether a thread runs. -/
def State.running (s : State) (x k : Nat) : Bool := (s.rd F.SEQ_THREAD_CTL_RUNNING x).testBit k
/-- Whether any thread of a tile runs. -/
def State.anyRunning (s : State) (x : Nat) : Bool := s.rd F.SEQ_THREAD_CTL_RUNNING x != 0
/-- Whether a thread's START bit is set. -/
def State.started (s : State) (x k : Nat) : Bool := (s.rd F.SEQ_THREAD_CTL_START x).testBit k
/-- Whether a thread holds a trap, recorded or still to record. -/
def State.trapped (s : State) (x k : Nat) : Bool :=
  (s.rd F.SEQ_THREAD_CTL_TRAPPED x).testBit k || (s.thread x k).trap.isSome

/-- A thread's RUNNING and START bits cleared (R71). -/
def State.stopThread (s : State) (x k : Nat) : State :=
  ((s.wrBit F.SEQ_THREAD_CTL_RUNNING x k false).wrBit F.SEQ_THREAD_CTL_START x k false).updThread x k
    (fun h => { h with stopReq := false, whole := false })

/-- The thread that owns an exchange channel in a partition mode of n threads (R44). -/
def chanOwner (n c : Nat) : Nat := c / (16 / n)

/-- The busy channels of a trapped thread stop after the row in progress (R61). -/
def State.haltChans (s : State) (x k code : Nat) : State :=
  let n := s.threadCount x
  (List.range 16).foldl (fun a c =>
    if chanOwner n c = k ∧ a.rd F.SEQ_XCH_STATUS_STATE (x * 16 + c) = 1 then
      a.updEng x (fun e => { e with chans := Tab.upd Chan.idle e.chans c (fun h => { h with halt := some code }) })
    else a) (s.updEng x (fun e => { e with latch := e.latch.filter (fun l => !(decide (16 ≤ l.1) && l.2.k == k)) }))

/-- What a START write of this very cycle changed, put back (R64). -/
def State.undoStart (s : State) (x k : Nat) : State :=
  match (s.thread x k).save with
  | none => s
  | some v =>
    if v.cyc = s.now then
      let i := x * 4 + k
      let s1 := ((((s.wr F.SEQ_TRAP_CODE i (v.trap.getD 0 0)).wr F.SEQ_TRAP_MULTI i (v.trap.getD 1 0)).wr
        F.SEQ_TRAP_SHARED i (v.trap.getD 2 0)).wr F.SEQ_TRAP_INFO i (v.trap.getD 3 0)).wr
        F.SEQ_TRAP_PLAY_INDEX i (v.trap.getD 4 0)
      let s2 := (s1.wr F.SEQ_TRAP_BEAT_BEAT i (v.trap.getD 5 0)).wrBit F.SEQ_THREAD_CTL_TRAPPED x k (v.trap.getD 0 0 != 0)
      let s3 := (s2.wr F.ARR_STATUS_ACTIVE_VALID i v.active).wr F.ARR_STATUS_SHADOW_VALID i v.shadow
      let s4 := v.halted.foldl (fun a c => a.wr F.SEQ_XCH_STATUS_STATE (x * 16 + c) 2) s3
      s4.updThread x k (fun h => { h with stack := v.stack, save := none })
    else s

/-- One trap in one thread: the thread issues nothing more from now on, and the record waits for TRAP_RECORD (R63, R64). A
record that SEQ_TRAPn already holds keeps its CODE and gains MULTI. -/
def State.trapThread (s : State) (x k : Nat) (code info : Nat) (shared multi : Bool) (idx : Nat) : State :=
  let s0 := (s.undoStart x k)
  let s1 := (s0.stopThread x k).haltChans x k code
  if (s0.rd F.SEQ_TRAP_CODE (x * 4 + k)) != 0 then s1.wr F.SEQ_TRAP_MULTI (x * 4 + k) 1
  else
    let fresh : PendTrap := ⟨code, info, shared, multi, idx, s.beatNow, s.now⟩
    s1.updThread x k (fun h => { h with trap := some (match h.trap with
      | none => fresh
      | some o =>
        if o.cyc = s.now ∧ ((shared ∧ !o.shared) ∨ (shared = o.shared ∧ code < o.code)) then { fresh with multi := true }
        else { o with multi := true }) })

/-- The lowest code among trap requests. -/
def lowestTrap : List TrapReq → Option TrapReq
  | [] => none
  | r :: rs => match lowestTrap rs with
    | none => some r
    | some q => if q.code < r.code then some q else some r

/-- Traps found in one cycle, by work of thread k of a tile (R62, R64): an all-thread trap goes to every thread of the mode
that runs, awaits its start or holds a trap, and governs; otherwise the lower code is recorded, with MULTI for several. -/
def State.raise (s : State) (x k : Nat) (reqs : List TrapReq) (idx : Nat) : State :=
  let own := lowestTrap (reqs.filter (fun r => !r.shared))
  let all := lowestTrap (reqs.filter (fun r => r.shared))
  let many := decide (1 < reqs.length)
  match all, own with
  | none, none => s
  | none, some r => s.trapThread x k r.code r.info false many idx
  | some r, o =>
    (List.range (s.threadCount x)).foldl (fun a n =>
      if s.running x n || s.started x n || s.trapped x n || (decide (n = k) && o.isSome) then
        a.trapThread x n r.code r.info true (decide (n = k) && many) (if n = k then idx else (a.thread x n).last)
      else a) s

/-- One thread-scoped trap found by a unit at work: PLAY_INDEX is the last play the thread issued (R73). -/
def State.trapOne (s : State) (x k code info : Nat) : State := s.raise x k [⟨code, info, false⟩] (s.thread x k).last

/-- Every thread of a tile trapped. -/
def State.trapAll (s : State) (x code info : Nat) : State :=
  (List.range (s.threadCount x)).foldl (fun a n =>
    if s.running x n || s.started x n || s.trapped x n then
      a.trapThread x n code info true false (a.thread x n).last
    else a) s

/-- Flags of R102 set for work of a thread. -/
def State.setFlags (s : State) (x k : Nat) (fl : Flags) : State :=
  let i := x * 4 + k
  let one (a : State) (b : Nat) (f : Fld) : State := if fl.testBit b then a.wr f i 1 else a
  one (one (one (one (one s 0 F.SEQ_NUMFLAGS_LS_INEXACT) 1 F.SEQ_NUMFLAGS_NAN_MADE) 2 F.SEQ_NUMFLAGS_SATURATED) 3
    F.SEQ_NUMFLAGS_CONV_SPECIAL) 4 F.SEQ_NUMFLAGS_OVERFLOW_INF

end Sys2Proof.Machine
end

