-- ==== Sys2Proof/Machine/MarginOps.lean ====
section
/-! DEFINITION. What a margin run holds, and how it ends (R475 to R477). -/

namespace Sys2Proof.Machine

/-- Whether a margin run holds a tile position's slice (R476). -/
def State.marginTile (s : State) (x : Nat) : Bool :=
  match s.margin with
  | some r => r.kind == 0 && r.ix == x
  | none => false

/-- Whether a margin run holds a port (R476). -/
def State.marginPort (s : State) (q : Nat) : Bool :=
  match s.margin with
  | some r => r.kind == 2 && r.ix == q
  | none => false

/-- MRG_STATUS reads DONE with a cause. -/
def State.marginShow (s : State) (cause : Nat) : State := (s.wr F.MRG_STATUS_STATE 0 2).wr F.MRG_STATUS_CAUSE 0 cause

/-- A run ends with a cause, and START clears (R475, R477). -/
def State.marginEnd (s : State) (cause : Nat) : State :=
  (({ s with margin := none } : State).wr F.MRG_CTL_START 0 0).marginShow cause

/-- A run whose target meets a test ends with a cause (R477). -/
def State.marginAbort (s : State) (cause : Nat) (hit : MarginRun → Bool) : State :=
  match s.margin with
  | some r => if hit r then s.marginEnd cause else s
  | none => s

end Sys2Proof.Machine
end

