-- ==== Sys2Proof/Machine/BeatOps.lean ====
section
/-! DEFINITION. The schedule domain: frames, messages, rest frames, holds and freezes (R244, R245, R260 to R265), the running
image, and SCHEDULE_OVERRUN (R254, R266). -/

namespace Sys2Proof.Machine

/-- The frame length F in beats (R244). -/
def State.frameLen (s : State) : Nat := 2 ^ s.rd F.BEAT_CFG_FRAME_LOG2 0
/-- The clock frame of the present beat. -/
def State.frameNow (s : State) : Nat := s.beatNow / s.frameLen
/-- P_beats + 4 (R262). -/
def State.propagation (s : State) : Nat := s.rd F.BEAT_CFG_P_BEATS 0 + 4
/-- This module's index in its domain. -/
def State.selfIndex (s : State) : Nat := s.rd F.BND_DOMAIN_MODULE_INDEX 0

/-- The frame a message issued now targets (R262). -/
def State.targetFrame (s : State) : Nat :=
  let k := s.frameNow
  if s.beatNow + s.propagation ≤ (k + 1) * s.frameLen then k + 1 else k + 2

/-- Whether a RESUME ends a hold by a frame (R263): one of its issuer, for a frame not before the hold's. -/
def BeatState.endsBy (b : BeatState) (h : Nat × Nat) (f : Nat) : Bool :=
  b.resumes.any (fun r => r.1 == h.1 && decide (h.2 ≤ r.2) && decide (r.2 ≤ f))

/-- Whether a hold of some issuer covers a frame (R263). -/
def BeatState.heldAt (b : BeatState) (f : Nat) : Bool :=
  b.holders.any (fun h => decide (h.2 ≤ f) && !b.endsBy h f)

/-- Whether a clock frame has been decided as a rest frame (R260, R263). -/
def BeatState.restAt (b : BeatState) (f : Nat) : Bool := b.rests.contains f || b.heldAt f

/-- The nearest rest frame decided after a frame, if there is one (R277). -/
def BeatState.nextRest (b : BeatState) (f : Nat) : Option Nat :=
  let cand := ((f + 1) :: (b.rests ++ b.holders.map (fun h => h.2))).filter (fun g => decide (f < g) && b.restAt g)
  cand.foldl (fun a g => match a with | none => some g | some h => some (min g h)) none

/-- The beat at which a freeze that began at b_f ends, for an UNCLAMP of beat b_u (R264). -/
def State.resumeOf (s : State) (bf bu : Nat) : Nat :=
  bf + max 1 (ceilDiv (bu + s.propagation - bf) s.frameLen) * s.frameLen

/-- The effect of a domain message on this module (R261, R263, R265): types 0 REST, 1 HOLD, 2 RESUME, 3 CLAMP, 4 UNCLAMP. -/
def State.applyMsg (s : State) (m : Msg) : State :=
  let b := s.beat
  match m.type with
  | 0 => { s with beat := { b with rests := if b.rests.contains m.target then b.rests else m.target :: b.rests } }
  | 1 =>
    let rs := b.resumes.filter (fun r => !(r.1 == m.issuer && decide (m.target ≤ r.2)))
    let held := b.holders.any (fun h => h.1 == m.issuer && !rs.any (fun r => r.1 == h.1 && decide (h.2 ≤ r.2)))
    { s with beat := { b with resumes := rs, holders := if held then b.holders else (m.issuer, m.target) :: b.holders } }
  | 2 => { s with beat := { b with resumes := (m.issuer, m.target) :: b.resumes } }
  | 3 =>
    let c := if b.clampers.contains m.issuer then b.clampers else m.issuer :: b.clampers
    let joins := match b.resumeBeat with
      | none => { b with
          freezeBeat := (match b.freezeBeat with
            | some f => some (min f m.target)
            | none => if b.freezeFrom.isSome then none else some m.target) }
      | some r =>
        if m.target ≤ r then { b with resumeBeat := none }
        else { b with
          freezeBeat := (match b.freezeBeat with
            | some f => if b.freezeFrom.isSome then some (min f m.target) else some f
            | none => some m.target) }
    { s with beat := { joins with clampers := c } }
  | _ =>
    if b.clampers.contains m.issuer then
      let c := b.clampers.filter (fun i => i != m.issuer)
      let bf := if b.freezeFrom.isSome then b.lastFreeze else b.freezeBeat.getD b.lastFreeze
      let r := if c.isEmpty then some (s.resumeOf bf m.target) else b.resumeBeat
      { s with beat := { b with clampers := c, resumeBeat := r } }
    else s.noteFw 1 m.issuer

/-- A message issued by this module: applied here and sent on every trained port of the domain (R261). -/
def State.issue (s : State) (type target : Nat) : State :=
  let m : Msg := ⟨type, s.selfIndex, target⟩
  ({ s with beat := { s.beat with seen := m :: s.beat.seen, send := s.beat.send ++ [m] } } : State).applyMsg m

/-- One REST issued (R262). -/
def State.issueRest (s : State) : State := s.issue 0 s.targetFrame
/-- Whether this module holds and has issued no RESUME for the hold. -/
def State.ownHold (s : State) : Bool :=
  s.beat.holders.any (fun h => h.1 == s.selfIndex && !s.beat.resumes.any (fun r => r.1 == h.1 && decide (h.2 ≤ r.2)))
/-- A domain hold requested by this module (R263). -/
def State.requestHold (s : State) : State := if s.ownHold then s else s.issue 1 s.targetFrame

/-- The running image slot: 0 A, 1 B. -/
def State.activeSlot (s : State) : Nat := s.rd F.BEAT_SLICE_ACTIVE 0
/-- An image slot. -/
def State.img (s : State) (i : Nat) : Image := if i = 0 then s.imgA else s.imgB
/-- An image slot changed. -/
def State.updImg (s : State) (i : Nat) (f : Image → Image) : State :=
  if i = 0 then { s with imgA := f s.imgA } else { s with imgB := f s.imgB }
/-- SLACK of the running image; without an image it bounds nothing (R272). -/
def State.slack (s : State) : Nat :=
  let g := s.img s.activeSlot
  if g.loaded then fieldAt g.header 18 2 else 0xFFFF

/-- SCHEDULE_OVERRUN in one tile (R266). -/
def State.overrun (s : State) (x cause detail : Nat) : State :=
  let info := cause + detail * 16
  (s.trapAll x 7 info).note 0x300 info

/-- SCHEDULE_OVERRUN in every tile, with a domain hold requested (R266). -/
def State.overrunAll (s : State) (cause detail : Nat) : State :=
  let info := cause + detail * 16
  (((List.range 104).foldl (fun a x => if a.role x = 0 then a.trapAll x 7 info else a) s).note 0x300 info).requestHold

/-- Work of a unit lands a number of cycles late (R254): the unit carries that shift, and a shift above SLACK traps the tile
with cause SHIFT. Units: 0 to 3 partitions, 4 MV path, 5 slice slot, 6 store slot, 16 + c channel c. -/
def State.noteShift (s : State) (x u late : Nat) : State :=
  let s1 := s.updEng x (fun e => { e with shift := Tab.put 0 e.shift u late })
  if s.slack < late then s1.overrun x 1 u else s1

end Sys2Proof.Machine
end

