-- ==== Sys2Proof/Machine/Routes.lean ====
section
/-! DEFINITION. Sections in force (R282, R283), the routes they name and the latencies of those routes (R252, R288, R290, R504). -/

namespace Sys2Proof.Machine

/-! ### Sections in force -/

/-- The sections of a type in the section table, whether or not their effect is lost. -/
def State.sectionsOf (s : State) (ty : Nat) : List Section := s.bond.table.filter (fun c => c.type == ty)

/-- A section in the table. -/
def State.section? (s : State) (ty scope : Nat) : Option Section :=
  s.bond.table.find? (fun c => c.type == ty && c.scope == scope)

/-- Whether the effect of a section is lost (R303). -/
def State.sectionLost (s : State) (ty scope : Nat) : Bool := s.bond.lost.contains (ty, scope)

/-- The body of a section in force whose effect is not lost. -/
def State.sectionBody (s : State) (ty scope : Nat) : Option Bytes :=
  if s.sectionLost ty scope then none else (s.section? ty scope).map (fun c => c.body)

/-- The device scope (R281). -/
def devScope : Nat := 0xFFFF

/-- A body cut into records of n bytes. -/
def recordsOf (n : Nat) (b : Bytes) : List Bytes :=
  (List.range (if n = 0 then 0 else b.length / n)).map (fun i => (b.drop (n * i)).take n)

/-- The records of a device-scope section in force. -/
def State.devRecords (s : State) (ty n : Nat) : List Bytes :=
  match s.sectionBody ty devScope with
  | some b => recordsOf n b
  | none => []

/-- The PORTS record of a port (R289). -/
def State.portRec (s : State) (q : Nat) : Option Bytes := (s.devRecords 0x21 16)[q]?
/-- ROLE of a port: 0 ordinary, 1 mirror, 2 beat source, 3 unused. -/
def State.portRole (s : State) (q : Nat) : Nat :=
  match s.portRec q with
  | some r => fieldAt r 1 1
  | none => 0
/-- ALT_SET of a port whose alternative set is engaged (R300). -/
def State.engagedSets (s : State) : List (Nat × Nat) :=
  (List.range 16).filterMap (fun q =>
    if (s.rd F.BND_DOMAIN_DEGRADED 0).testBit q then (s.portRec q).map (fun r => (q, fieldAt r 3 1)) else none)

/-- The MODULES record of a set for a module (R290): its port. -/
def modulePortIn (recs : List Bytes) (set m : Nat) : Option Nat :=
  (recs.find? (fun r => fieldAt r 0 2 == m && fieldAt r 3 1 == set)).map (fun r => fieldAt r 2 1)

/-- The port by which chunks leave for a module (R290, R300). -/
def State.modulePort (s : State) (m : Nat) : Option Nat :=
  let recs := s.devRecords 0x22 8
  match modulePortIn recs 0 m with
  | none => none
  | some q => match s.engagedSets.find? (fun e => e.1 == q) with
    | some e => (match modulePortIn recs e.2 m with | some r => some r | none => some q)
    | none => some q

/-- The ROUTE records in force (R288, R300): primary ones, those of engaged ports replaced by their alternative set. -/
def State.routes (s : State) : List Bytes :=
  let recs := s.devRecords 0x20 16
  (recs.filter (fun r => fieldAt r 2 1 == 0)).map (fun r =>
    match s.engagedSets.find? (fun e => fieldAt r 1 1 == 0x10 + e.1) with
    | some e => ((recs.find? (fun g => fieldAt g 2 1 == e.2 && fieldAt g 0 1 == fieldAt r 0 1 && fieldAt g 1 1 == fieldAt r 1 1)).getD r)
    | none => r)

/-- The hops of a route: bridge index and whether it is timed for the fall-back path. -/
def routeHops (r : Bytes) : List (Nat × Bool) :=
  (List.range (fieldAt r 3 1)).map (fun h => (fieldAt r (4 + h) 1 % 16, (fieldAt r (4 + h) 1).testBit 4))

/-! ### Latencies (R252, R504) -/

/-- The pier of an end of a route. Ends are numbered: 0 to 103 the stops of positions, 104 + p the scratchpad of pier p, 112 + q
the SerDes of port q. -/
def endPier (e : Nat) : Nat := if e < 104 then e / 13 else if e < 112 then e - 104 else (e - 112) / 2

/-- The bridges of the route between two ends in different piers. -/
def State.hopsBetween (s : State) (a b : Nat) : Option (List (Nat × Bool)) :=
  let dest := if b < 112 then endPier b else b - 112 + 16
  (s.routes.find? (fun r => fieldAt r 0 1 == endPier a && fieldAt r 1 1 == dest)).map routeHops

/-- The latency of a route (R252, R504): 8 within a tile or a slice, 40 between stops and 20 to or from a port within a pier, else
24 or 160 for each bridge and 20 for each segment. Where no record names the bridges, the sender says when a chunk arrives (log
entry 129). -/
def State.routeLat (s : State) (a b : Nat) : Nat :=
  if a = b then 8
  else if endPier a = endPier b then (if a < 112 ∧ b < 112 then 40 else 20)
  else match s.hopsBetween a b with
    | some hs => hs.foldl (fun n (h : Nat × Bool) => n + 20 + (if h.2 then 160 else 24)) 20
    | none => 0

end Sys2Proof.Machine
end

