-- ==== Sys2Proof/Machine/Ls.lean ====
section
/-! DEFINITION. LS128 sums (R90 to R95), the FP32 tree of 16-bit products (R97) and the memory-side adds (R98). -/

namespace Sys2Proof.Machine

/-- The side word of a block of 32 LS128 values (R90). -/
structure Side where
  exp : Nat
  inexact : Bool
  nf : Nat
deriving DecidableEq, Repr

/-- The side word 8 bytes hold. -/
def sideOf (n : Nat) : Side := ⟨bitsAt n 0 8, n.testBit 8, bitsAt n 32 32⟩

/-- The 8 bytes of a side word; the reserved bits are 0. -/
def sideVal (s : Side) : Nat := s.exp % 256 + (bit s.inexact <<< 8) + ((s.nf % 2 ^ 32) <<< 32)

/-- One LS128 sum in progress: the sum, whether a term was rounded, whether an infinite or NaN term came, whether a check
found it out of range, and the terms since the last check (R91, R92). -/
structure LsAcc where
  f : Int
  inexact : Bool
  nf : Bool
  ovf : Bool
  since : Nat
deriving DecidableEq, Repr

/-- An empty sum. -/
def LsAcc.zero : LsAcc := ⟨0, false, false, false, 0⟩

/-- Whether an integer lies in the LS128 range (R92). -/
def lsInRange (i : Int) : Bool := decide (-(2 : Int) ^ 127 ≤ i) && decide (i < (2 : Int) ^ 127)

/-- An exact value in units of 2^(EXP − 192), rounded to nearest with ties to even; the second part says whether it was
exact (R91). -/
def lsRoundTerm (exp : Nat) (neg : Bool) (m : Nat) (e : Int) : Int × Bool :=
  let d := dyadic m (e + 192 - exp)
  let n := rneDiv d.1 d.2
  ((if neg then -(n : Int) else n), n * d.2 == d.1)

/-- A check of R92. -/
def LsAcc.check (a : LsAcc) : LsAcc := { a with ovf := a.ovf || !lsInRange a.f, since := 0 }

/-- An exact integer term, with the check after every 256 terms. -/
def LsAcc.addInt (a : LsAcc) (n : Int) : LsAcc :=
  let b := { a with f := a.f + n, since := a.since + 1 }
  if b.since = 256 then b.check else b

/-- One term enters a sum (R91). -/
def LsAcc.addTerm (exp : Nat) (a : LsAcc) (v : Val) : LsAcc :=
  match v with
  | .fin s m e =>
    let r := lsRoundTerm exp s m e
    let b := { a with inexact := a.inexact || !r.2 }
    if 2 ^ 127 ≤ r.1.natAbs then { b with ovf := true } else b.addInt r.1
  | _ => { a with nf := true }

/-- Whether the sum raises LS128_OVERFLOW as it leaves the unit; a value with its NF_MASK bit set is never checked
(R92, R93). -/
def LsAcc.overflows (a : LsAcc) : Bool := !a.nf && a.check.ovf

/-- The value an LS128 element has (R90, R94). -/
def lsVal (exp : Nat) (nf : Bool) (f : Int) : Val :=
  if nf then .nan else intDyadic f ((exp : Int) - 192) false

/-- F of 128 bits. -/
def lsF (n : Nat) : Int := signed 128 n

/-- b.F at the weight of the destination's EXP, and whether a non-zero bit was lost (R93). -/
def lsAlign (bExp aExp : Nat) (f : Int) : Int × Bool :=
  let r := lsRoundTerm aExp (decide (f < 0)) f.natAbs ((bExp : Int) - 192)
  (r.1, !r.2)

/-- The result of adding one LS128 block into another value by value (R93): the new values, the new side word, and the
first value that would overflow. -/
def lsAddBlock (a b : Side) (fa fb : List Int) : List Int × Side × Option Nat :=
  let nf := a.nf ||| b.nf
  let idx := List.range fa.length
  let one (v : Nat) : Int × Bool × Bool :=
    let x := fa.getD v 0
    if nf.testBit v then (x, false, false)
    else
      let al := lsAlign b.exp a.exp (fb.getD v 0)
      let y := x + al.1
      (y, al.2, !lsInRange y || decide (2 ^ 127 ≤ al.1.natAbs))
  let rs := idx.map one
  (rs.map (fun r => r.1),
    { a with inexact := a.inexact || b.inexact || rs.any (fun r => r.2.1), nf := nf },
    idx.find? (fun v => (rs.getD v (0, false, false)).2.2))

/-- One node of the tree of R97: two present children are added and rounded once to FP32, one present child passes up
unchanged. The boolean says that the value was already rounded. -/
def treeNode (a b : Option (Val × Bool)) (fl : Flags) : Option (Val × Bool) × Flags :=
  match a, b with
  | none, y => (y, fl)
  | x, none => (x, fl)
  | some x, some y =>
    let r := addV x.1 y.1
    let p := arithRound ffFp32 r.1
    (some (ffDecode ffFp32 p.1, true), fl ||| r.2 ||| p.2)

/-- One level of a pairwise tree. -/
def treeLevel : List (Option (Val × Bool)) → Flags → List (Option (Val × Bool)) × Flags
  | a :: b :: r, fl =>
    let n := treeNode a b fl
    let t := treeLevel r n.2
    (n.1 :: t.1, t.2)
  | l, fl => (l, fl)

/-- n levels of a pairwise tree. -/
def treeLevels : Nat → List (Option (Val × Bool)) → Flags → List (Option (Val × Bool)) × Flags
  | 0, l, fl => (l, fl)
  | n + 1, l, fl => let t := treeLevel l fl; treeLevels n t.1 t.2

/-- The FP32 total of 128 positions along the fixed tree of R97, as a pattern. -/
def fpTree (levels : Nat) (terms : List (Option Val)) : Nat × Flags :=
  let t := treeLevels levels (terms.map (fun o => o.map (fun v => (v, false)))) 0
  match t.1.head? with
  | some (some (v, _)) => let p := arithRound ffFp32 v; (p.1, t.2 ||| p.2)
  | _ => (0, t.2)

/-- Formats of a memory-side add (R57): 0 FP32, 1 BF16, 2 INT32, 3 LS128. Bytes of one element. -/
def addElemBytes (fmt : Nat) : Nat := if fmt = 1 then 2 else if fmt = 3 then 16 else 4

/-- One element of an FP32, BF16 or INT32 memory-side add (R98). -/
def addElem (fmt a b : Nat) : Nat × Flags :=
  if fmt = 0 then ffAdd ffFp32 a b
  else if fmt = 1 then ffAdd ffBf16 a b
  else ((a + b) % 2 ^ 32, 0)

end Sys2Proof.Machine
end

