-- ==== Sys2Proof/Machine/Cvt.lean ====
section
/-! DEFINITION. Conversions of many elements: MX and PB4 blocks (R81, R83, R89), LS128 in and out (R94), and the whole of
CVT (R88). -/

namespace Sys2Proof.Machine

/-- Elements of a format that one vector register of 16,384 bits holds (R88). -/
def fmtCount (f : Fmt) : Nat := if f = .pb4 then 3616 else 16384 / fmtBits f

/-- Random bits per element of stochastic rounding into a format (R99). -/
def srBits (f : Fmt) : Nat := if fmtBits f = 4 then 3 else 4

/-- ±num / den converted into an unblocked floating-point format, as convFloat. -/
def convFloatRat (f : FloatFmt) (nonsat : Bool) (mode : RMode) (neg : Bool) (num den : Nat) : Nat × Flags :=
  match ffRound f mode neg num den with
  | .ok p => (p, 0)
  | .overflow =>
    if nonsat then (if f.hasInf then (ffInf f neg, flOverflowInf) else if f.hasNan then (ffNan f, flConvSpecial)
      else (ffMaxPat f neg, flSaturated))
    else (ffMaxPat f neg, flSaturated)

/-- One element of a block whose scale is 2^k or m × 2^k: a finite value divided by the scale, or the saturated element of
an infinity (R87, R89). -/
def blockElem (f : Fmt) (nonsat : Bool) (mode : RMode) (sm : Nat) (se : Int) (v : Val) : Nat × Flags :=
  match v with
  | .nan => (0, 0)
  | .inf s =>
    if f = .mxint8 then convInt 8 mode (.inf s)
    else match fmtFloat f with
      | some ff => (ffMaxPat ff s, flSaturated ||| (if ff.hasInf then 0 else flConvSpecial))
      | none => (0, 0)
  | .fin s m e =>
    if sm = 0 then (match fmtFloat f with | some ff => ffSign ff s | none => 0, 0)
    else if f = .mxint8 then convInt 8 mode (.fin s m (e - se + 6))
    else match fmtFloat f with
      | some ff => let d := dyadic m (e - se); convFloatRat ff nonsat mode s d.1 (d.2 * sm)
      | none => (0, 0)

/-- The floor of log2 of the largest finite magnitude of a block, if one is above 0. -/
def blockExp (vs : List Val) : Option Int :=
  vs.foldl (fun a v => match v with
    | .fin _ m e => if m = 0 then a else
        let x : Int := e + Nat.log2 m
        (match a with | none => some x | some y => some (max x y))
    | _ => a) none

/-- emax of an MX element format (R89). -/
def mxEmax : Fmt → Int
  | .mxE4m3 => 8 | .mxE5m2 => 15 | .mxE3m2 => 4 | .mxE2m3 => 2 | .mxE2m1 => 2 | _ => 0

/-- Whether some value is NaN. -/
def anyNan (vs : List Val) : Bool := vs.any Val.isNan
/-- Whether some value is infinite. -/
def anyInf (vs : List Val) : Bool := vs.any (fun v => match v with | .inf _ => true | _ => false)

/-- One MX block (R87, R89): its scale byte, its elements, its flags. `mode j` is the rounding of element j. -/
def mxEncode (f : Fmt) (nonsat : Bool) (mode : Nat → RMode) (vs : List Val) : Nat × List Nat × Flags :=
  let special := (0xFF, vs.map (fun _ => 0), flConvSpecial)
  if anyNan vs then special
  else if anyInf vs && nonsat then special
  else
    let raw : Int := match blockExp vs with | none => 0 | some x => x - mxEmax f + 127
    let isOver := anyInf vs || decide (0xFE < raw)
    if isOver && nonsat then special
    else
      let sc : Nat := if isOver then 0xFE else raw.toNat
      let es := (List.range vs.length).map (fun j =>
        blockElem f nonsat (mode j) 1 ((sc : Int) - 127) (vs.getD j .nan))
      (sc, es.map (fun e => e.1), es.foldl (fun a e => a ||| e.2) 0)

/-- The largest finite magnitude of a list as mantissa and exponent. -/
def maxMag (vs : List Val) : Nat × Int :=
  vs.foldl (fun a v => match v with
    | .fin _ m e => if ltV (.fin false a.1 a.2) (.fin false m e) then (m, e) else a
    | _ => a) (0, 0)

/-- Whether n × am × 2^ae is at most bm × 2^be. -/
def magLe (am : Nat) (ae : Int) (bm : Nat) (be : Int) : Bool := !ltV (.fin false bm be) (.fin false am ae)

/-- The smallest E5M3 code whose value is at least amax / 6, if there is one (R89). -/
def pb4Scale (am : Nat) (ae : Int) : Option Nat :=
  (List.range 0xFF).find? (fun b => magLe am ae (6 * (e5m3 b).1) (e5m3 b).2)

/-- The largest of 0 to 3 for which a sub-block's largest magnitude is at most 6 × scale × 2^−o (R89); 0 with an infinity. -/
def pb4Offset (sm : Nat) (se : Int) (vs : List Val) : Nat :=
  let a := maxMag vs
  let fits (o : Nat) : Bool := !anyInf vs && magLe a.1 a.2 (6 * sm) (se - o)
  if fits 3 then 3 else if fits 2 then 2 else if fits 1 then 1 else 0

/-- One PB4 block of 32 values as 144 bits, and its flags (R82, R87, R89). -/
def pb4Encode (nonsat : Bool) (mode : Nat → RMode) (vs : List Val) : Nat × Flags :=
  let special := (0xFF <<< 128, flConvSpecial)
  if anyNan vs then special
  else if anyInf vs && nonsat then special
  else
    let a := maxMag vs
    let sc := pb4Scale a.1 a.2
    let isOver := anyInf vs || sc.isNone
    if isOver && nonsat then special
    else
      let code := if isOver then 0xFE else sc.getD 0xFE
      let sv := e5m3 code
      let offs := (List.range 4).map (fun j => pb4Offset sv.1 sv.2 ((vs.drop (8 * j)).take 8))
      let es := (List.range 32).map (fun j =>
        blockElem .mxE2m1 nonsat (mode j) sv.1 (sv.2 - (offs.getD (j / 8) 0 : Nat)) (vs.getD j .nan))
      (packStream 4 (es.map (fun e => e.1)) + (code <<< 128) + (packStream 2 offs <<< 136),
        es.foldl (fun x e => x ||| e.2) 0)

/-- What a conversion of many elements gives: the target stream, the scale plane or side words if the target has them, the
flags, and the first value whose LS128 sum is out of range. -/
structure CvtRes where
  data : Nat
  side : Option Nat
  flags : Flags
  ovf : Option Nat
deriving DecidableEq, Repr

/-- The values of elements 0 to n − 1 of a register in a format, and whether an INEXACT LS128 block was read (R88, R94). -/
def srcValues (f : Fmt) (data side n : Nat) : List Val × Flags :=
  match f with
  | .pb4 => ((List.range n).map (fun i => pb4Val (streamElem data 144 (i / 32)) (i % 32)), 0)
  | .ls128 =>
    ((List.range n).map (fun i =>
      let s := sideOf (streamElem side 64 (i / 32))
      lsVal s.exp (s.nf.testBit (i % 32)) (lsF (streamElem data 128 i))),
     if (List.range ((n + 31) / 32)).any (fun b => (sideOf (streamElem side 64 b)).inexact) then flLsInexact else 0)
  | g =>
    if fmtIsMx g then
      ((List.range n).map (fun i => mxVal g (streamElem data (fmtBits g) i) (streamElem side 8 (i / 32))), 0)
    else ((List.range n).map (fun i => elemVal g (streamElem data (fmtBits g) i)), 0)

/-- A list cut into pieces of n. -/
def chunksOf {α : Type} (n : Nat) : Nat → List α → List (List α)
  | 0, _ => []
  | k + 1, l => if l.isEmpty then [] else l.take n :: chunksOf n k (l.drop n)

/-- Values converted into a stream of a format (R85, R87, R89, R94). -/
def dstValues (f : Fmt) (nonsat : Bool) (mode : Nat → RMode) (anchor : Nat) (vs : List Val) : CvtRes :=
  match f with
  | .ls128 =>
    let accs := vs.map (fun v => LsAcc.addTerm anchor LsAcc.zero v)
    let sides := (chunksOf 32 (vs.length + 1) accs).map (fun b =>
      sideVal ⟨anchor, b.any (fun a => a.inexact),
        (List.range b.length).foldl (fun x v => x + (bit ((b.getD v LsAcc.zero).nf) <<< v)) 0⟩)
    ⟨packStream 128 (accs.map (fun a => wrapBits 128 a.f)), some (packStream 64 sides),
      if accs.any (fun a => a.inexact) then flLsInexact else 0,
      (List.range accs.length).find? (fun i => (accs.getD i LsAcc.zero).overflows)⟩
  | .pb4 =>
    let bs := chunksOf 32 (vs.length + 1) vs
    let rs := (List.range bs.length).map (fun b => pb4Encode nonsat (fun j => mode (32 * b + j)) (bs.getD b []))
    ⟨packStream 144 (rs.map (fun r => r.1)), none, rs.foldl (fun x r => x ||| r.2) 0, none⟩
  | g =>
    if fmtIsMx g then
      let bs := chunksOf 32 (vs.length + 1) vs
      let rs := (List.range bs.length).map (fun b => mxEncode g nonsat (fun j => mode (32 * b + j)) (bs.getD b []))
      ⟨packStream (fmtBits g) ((rs.map (fun r => r.2.1)).flatten), some (packStream 8 (rs.map (fun r => r.1))),
        rs.foldl (fun x r => x ||| r.2.2) 0, none⟩
    else
      let rs := (List.range vs.length).map (fun i =>
        match fmtFloat g with
        | some ff => convFloat ff nonsat (mode i) (vs.getD i .nan)
        | none => convInt (fmtBits g) (mode i) (vs.getD i .nan))
      ⟨packStream (fmtBits g) (rs.map (fun r => r.1)), none, rs.foldl (fun x r => x ||| r.2) 0, none⟩

/-- Elements CVT converts (R88). -/
def cvtCount (src dst : Fmt) : Nat :=
  let n := min (fmtCount src) (fmtCount dst)
  if fmtBlocked src || fmtBlocked dst then n / 32 * 32 else n

/-- Whether a format needs the register after its own for scales or side words (R88). -/
def fmtHasSide (f : Fmt) : Bool := fmtIsMx f || f == .ls128

/-- CVT (R88) on registers given as streams. -/
def cvt (src dst : Fmt) (nonsat : Bool) (mode : Nat → RMode) (anchor data side : Nat) : CvtRes :=
  let v := srcValues src data side (cvtCount src dst)
  let r := dstValues dst nonsat mode anchor v.1
  { r with flags := r.flags ||| v.2 }

end Sys2Proof.Machine
end

