-- ==== Sys2Proof/Machine/StoreOps.lean ====
section
/-! DEFINITION. Tile-store accesses (R51 to R56): rows, SECDED errors, suspect rows, remapping and poison. -/

namespace Sys2Proof.Machine

/-- Bytes of a tile store (R51). -/
def tsSize : Nat := 0x1800000
/-- The bank of a tile-store row (R53). -/
def rowBank (row : Nat) : Nat := row % 64

/-- Whether a row reads as poisoned (R55). -/
def State.poisoned (s : State) (x row : Nat) : Bool := Tab.get 0 (s.tile x).eng.poison row == 1

/-- A row remapped to a free spare row, with its repair record and floor-plan change (R31, R54). -/
def State.remapRow (s : State) (x row : Nat) (copy : Bool) : State :=
  let i := x * 64 + rowBank row
  let used := s.rd F.SEQ_TS_BANK_REMAP_USED i + 1
  let s1 := (s.wr F.SEQ_TS_BANK_REMAP_USED i used).wr F.SEQ_TS_BANK_FULL i (if used = 8 then 1 else 0)
  let s2 := s1.updEng x (fun e => { e with
    remap := Tab.put 0 e.remap row used,
    copying := if copy then e.copying ++ [(rowBank row, row)] else e.copying })
  let s3 := s2.updTile x (fun t => { t with
    facts := { t.facts with health := if used = 8 ∧ t.facts.health = 0 then 1 else t.facts.health } })
  s3.fpPush 1 x 6

/-- A correctable error at a row (R54). -/
def State.tsCorr (s : State) (x row : Nat) : State :=
  let b := rowBank row
  let i := x * 64 + b
  let s1 := s.sat F.SEQ_TS_BANK_CORR_COUNT i 1
  let e := (s.tile x).eng
  if Tab.get 0 e.suspect b = row + 1 then
    if s.beatNow ≤ Tab.get 0 e.suspectBeat b + 2 ^ 20 then
      (if s.rd F.SEQ_TS_BANK_FULL i = 1 then s1.noteFw 2 i else (s1.remapRow x row true))
    else s1.updEng x (fun g => { g with suspectBeat := Tab.put 0 g.suspectBeat b s.beatNow })
  else s1.updEng x (fun g => { g with
    suspect := Tab.put 0 g.suspect b (row + 1), suspectBeat := Tab.put 0 g.suspectBeat b s.beatNow })

/-- An uncorrectable error at a row (R55): the row reads as poisoned; it is remapped, or with a full table the tile enters
RETIRE_PENDING with reason TSTORE. -/
def State.tsUncorr (s : State) (x row : Nat) : State :=
  let i := x * 64 + rowBank row
  let s1 := (s.sat F.SEQ_TS_BANK_UNCORR_COUNT i 1).updEng x (fun e => { e with poison := Tab.put 0 e.poison row 1 })
  if s.rd F.SEQ_TS_BANK_FULL i = 1 then s1.retirePending x 3 else s1.remapRow x row false

/-- Whether an error lies in a row of a range. -/
def inRows (a n : Nat) (e : MemErr) : Bool := decide (a / 64 ≤ e.loc / 64) && decide (e.loc / 64 ≤ (a + n - 1) / 64) && n != 0

/-- The errors that a read of a tile-store range meets take their effect (R54, R55). -/
def State.tsErrs (s : State) (x a n : Nat) : List MemErr → State
  | [] => s
  | e :: r =>
    let s1 := if inRows a n e then
      (if e.kind = .uncorr then s.tsUncorr x (e.loc / 64) else s.tsCorr x (e.loc / 64)) else s
    s1.tsErrs x a n r

/-- Errors of the tile store among those given with a command that reads both memories. -/
def storeErrs (errs : List MemErr) : List MemErr :=
  errs.filterMap (fun e => if 2 ^ 34 ≤ e.loc then some { e with loc := e.loc - 2 ^ 34 } else none)
/-- Errors of the slice among them. -/
def sliceErrs (errs : List MemErr) : List MemErr := errs.filter (fun e => decide (e.loc < 2 ^ 34))

/-- The first row of a range that reads as poisoned (R55). -/
def State.firstPoison (s : State) (x a n : Nat) : Option Nat :=
  ((List.range (if n = 0 then 0 else (a + n - 1) / 64 + 1 - a / 64)).map (fun i => a / 64 + i)).find?
    (fun r => s.poisoned x r)

/-- Bytes written to one row: a poisoned row takes only a write of all 64 bytes (R55). -/
def State.tsWriteRow (s : State) (x a : Nat) (bs : Bytes) : State :=
  let row := a / 64
  if s.poisoned x row then
    (if bs.length = 64 then
      ({ s with ts := cellsWrite s.ts (x * 2 ^ 25 + a) bs } : State).updEng x (fun e => { e with poison := Tab.drop e.poison row })
    else s)
  else { s with ts := cellsWrite s.ts (x * 2 ^ 25 + a) bs }

/-- Bytes written row by row. -/
def State.tsWriteFrom (s : State) (x : Nat) : Nat → Nat → Bytes → State
  | 0, _, _ => s
  | n + 1, a, bs =>
    if bs.isEmpty then s
    else
      let k := 64 - a % 64
      (s.tsWriteRow x a (bs.take k)).tsWriteFrom x n (a + k) (bs.drop k)

/-- Bytes written to a tile store. -/
def State.tsWrite (s : State) (x a : Nat) (bs : Bytes) : State := s.tsWriteFrom x (bs.length / 64 + 2) a bs

/-- Rows that are to read as poisoned (R186). -/
def State.poisonRows (s : State) (x row : Nat) : Nat → State
  | 0 => s
  | n + 1 => (s.updEng x (fun e => { e with poison := Tab.put 0 e.poison row 1 })).poisonRows x (row + 1) n

/-- A number read from a tile store, little-endian. -/
def State.tsNat (s : State) (x a n : Nat) : Nat := leVal (s.tsRead x a n)

/-- The first latched slot of a kind that meets a test, and the state without it. -/
def State.takeSlot (s : State) (x : Nat) (p : Slot → Bool) : Option (Slot × State) :=
  match (s.tile x).eng.slots.find? p with
  | none => none
  | some sl => some (sl, s.updEng x (fun e => { e with slots := e.slots.erase sl }))

/-- A vector register's lanes. -/
def State.vreg (s : State) (x r : Nat) : List Nat := Tab.get (List.replicate 512 0) (s.tile x).eng.vregs r

/-- A vector register written. -/
def State.setVreg (s : State) (x r : Nat) (lanes : List Nat) : State :=
  s.updEng x (fun e => { e with vregs := Tab.put (List.replicate 512 0) e.vregs r lanes })

end Sys2Proof.Machine
end

