-- ==== Sys2Proof/Machine/Transc.lean ====
section
/-! DEFINITION. The transcendental functions of the vector unit (R50): the exact value of the function, rounded once to
FP32 to nearest with ties to even. EXP2, LOG2 and TANH of an argument with no exact result are irrational, so a fixed-point
value of 400 bits rounds as the exact one does; exact results and special inputs are taken apart first. -/

namespace Sys2Proof.Machine

/-- The fixed-point scale: 400 fraction bits. -/
def fxBits : Nat := 400
/-- One in fixed point. -/
def fxOne : Nat := 2 ^ fxBits

/-- Sum of z^(2k+1) / (2k+1) from a given odd power on, in fixed point. -/
def atanhSum (z2 : Nat) : Nat → Nat → Nat → Nat
  | 0, _, _ => 0
  | n + 1, pw, d => pw / d + atanhSum z2 n (pw * z2 / fxOne) (d + 2)

/-- 2 atanh z of a fixed-point z of at most 1/3: the natural logarithm of (1 + z) / (1 − z). -/
def fxLn (z : Nat) : Nat := 2 * atanhSum (z * z / fxOne) 130 z 1

/-- The natural logarithm of 2 in fixed point. -/
def fxLn2 : Nat := fxLn (fxOne / 3)

/-- Sum of y^k / k! from a given term on, in fixed point. -/
def expSum (y : Nat) : Nat → Nat → Nat → Nat
  | 0, _, _ => 0
  | n + 1, term, k => term + expSum y n (term * y / fxOne / (k + 1)) (k + 1)

/-- e^y of a fixed-point y of at most 20. -/
def fxExp (y : Nat) : Nat := expSum y 220 fxOne 0

/-- The integer square root, one bit at a time from bit i down. -/
def isqrtFrom (n : Nat) : Nat → Nat → Nat
  | 0, r => r
  | i + 1, r => if (r + 2 ^ i) * (r + 2 ^ i) ≤ n then isqrtFrom n i (r + 2 ^ i) else isqrtFrom n i r

/-- The integer square root. -/
def isqrt (n : Nat) : Nat := isqrtFrom n (Nat.log2 n / 2 + 1) 0

/-- A fixed-point number of fxBits fraction bits times 2^k, rounded to FP32. -/
def fxRound (neg : Bool) (v : Nat) (k : Int) : Nat × Flags :=
  let d := dyadic v (k - fxBits)
  ratRound ffFp32 neg d.1 d.2

/-- EXP2 (R50). -/
def fpExp2 (a : Nat) : Nat × Flags :=
  match ffDecode ffFp32 a with
  | .nan => (ffNan ffFp32, 0)
  | .inf s => (if s then 0 else ffInf ffFp32 false, 0)
  | .fin s m e =>
    if m = 0 then ratRound ffFp32 false 1 1
    else
      let d := dyadic m e
      if 200 * d.2 ≤ d.1 then (if s then (0, 0) else (ffInf ffFp32 false, flOverflowInf))
      else
        let whole : Int := if s then -(((d.1 + d.2 - 1) / d.2 : Nat) : Int) else ((d.1 / d.2 : Nat) : Int)
        let frac : Int := (if s then -(d.1 : Int) else (d.1 : Int)) - whole * d.2
        if frac = 0 then (let p := dyadic 1 whole; ratRound ffFp32 false p.1 p.2)
        else fxRound false (fxExp (frac.toNat * fxLn2 / d.2)) whole

/-- LOG2 (R50, R86). -/
def fpLog2 (a : Nat) : Nat × Flags :=
  match ffDecode ffFp32 a with
  | .nan => (ffNan ffFp32, 0)
  | .inf s => if s then (ffNan ffFp32, flNanMade) else (ffInf ffFp32 false, 0)
  | .fin s m e =>
    if m = 0 then (ffInf ffFp32 true, 0)
    else if s then (ffNan ffFp32, flNanMade)
    else
      let b := Nat.log2 m
      let whole : Int := e + b
      if m = 2 ^ b then ratRound ffFp32 (decide (whole < 0)) whole.natAbs 1
      else
        let z := (m - 2 ^ b) * fxOne / (m + 2 ^ b)
        let total : Int := whole * fxLn2 + fxLn z
        ratRound ffFp32 (decide (total < 0)) total.natAbs fxLn2

/-- RCP (R50, R86). -/
def fpRcp (a : Nat) : Nat × Flags :=
  match ffDecode ffFp32 a with
  | .nan => (ffNan ffFp32, 0)
  | .inf s => (ffSign ffFp32 s, 0)
  | .fin s m e => if m = 0 then (ffInf ffFp32 s, 0) else let d := dyadic m e; ratRound ffFp32 s d.2 d.1

/-- RSQRT (R50, R86). -/
def fpRsqrt (a : Nat) : Nat × Flags :=
  match ffDecode ffFp32 a with
  | .nan => (ffNan ffFp32, 0)
  | .inf s => if s then (ffNan ffFp32, flNanMade) else (0, 0)
  | .fin s m e =>
    if m = 0 then (ffInf ffFp32 s, 0)
    else if s then (ffNan ffFp32, flNanMade)
    else
      let d := dyadic m e
      let q := d.2 * 2 ^ 600 / d.1
      let r := isqrt q
      if r * r * d.1 = d.2 * 2 ^ 600 then ratRound ffFp32 false r (2 ^ 300)
      else ratRound ffFp32 false (2 * r + 1) (2 ^ 301)

/-- TANH (R50). -/
def fpTanh (a : Nat) : Nat × Flags :=
  match ffDecode ffFp32 a with
  | .nan => (ffNan ffFp32, 0)
  | .inf s => ratRound ffFp32 s 1 1
  | .fin s m e =>
    if m = 0 then (a, 0)
    else
      let d := dyadic m e
      if d.1 * 2 ^ 40 ≤ d.2 then (a, 0)
      else if 10 * d.2 ≤ d.1 then ratRound ffFp32 s 1 1
      else
        let x := fxExp (2 * d.1 * fxOne / d.2)
        ratRound ffFp32 s (x - fxOne) (x + fxOne)

end Sys2Proof.Machine
end

