-- ==== Sys2Proof/Machine/Vector.lean ====
section
/-! DEFINITION. The vector unit (R48 to R50, R88) and the arrival of its results (R250). An operation reads its sources and
sets its flags in its issue cycle; its result lands 4 or 8 cycles later. -/

namespace Sys2Proof.Machine


/-- What every meaning answers: the next state. -/
abbrev Result := Host.Outcome State Fault Refusal

/-- The fields of a vector slot (R48). -/
def vOp (w : Nat) : Nat := bitsAt w 0 6
/-- FORM. -/
def vForm (w : Nat) : Nat := bitsAt w 6 2
/-- DST. -/
def vDst (w : Nat) : Nat := bitsAt w 8 6
/-- SRC_A. -/
def vA (w : Nat) : Nat := bitsAt w 14 6
/-- SRC_B. -/
def vB (w : Nat) : Nat := bitsAt w 20 6
/-- SRC_C. -/
def vC (w : Nat) : Nat := bitsAt w 26 6
/-- IMM. -/
def vImm (w : Nat) : Nat := bitsAt w 32 32

/-- The float format of a FORM. -/
def formFloat (form : Nat) : FloatFmt := if form = 0 then ffFp32 else if form = 1 then ffFp16 else ffBf16

/-- One 32-bit lane: a 32-bit form works on the lane, a packed-pair form on each 16-bit half (R48). -/
def laneOp (form : Nat) (fop : FloatFmt → Nat → Nat → Nat → Nat × Flags) (iop : Nat → Nat → Nat → Nat)
    (a b c : Nat) : Nat × Flags :=
  if form = 3 then (iop a b c % 2 ^ 32, 0)
  else if form = 0 then fop ffFp32 a b c
  else
    let lo := fop (formFloat form) (a % 65536) (b % 65536) (c % 65536)
    let hi := fop (formFloat form) (a / 65536) (b / 65536) (c / 65536)
    (lo.1 + 65536 * hi.1, lo.2 ||| hi.2)

/-- All 512 lanes. -/
def vecLanes (form : Nat) (fop : FloatFmt → Nat → Nat → Nat → Nat × Flags) (iop : Nat → Nat → Nat → Nat)
    (a b c : List Nat) : List Nat × Flags :=
  let rs := (List.range 512).map (fun i => laneOp form fop iop (a.getD i 0) (b.getD i 0) (c.getD i 0))
  (rs.map (fun r => r.1), rs.foldl (fun x r => x ||| r.2) 0)

/-- All 512 lanes of a function of one FP32 element. -/
def vecMap (f : Nat → Nat × Flags) (a : List Nat) : List Nat × Flags :=
  let rs := (List.range 512).map (fun i => f (a.getD i 0))
  (rs.map (fun r => r.1), rs.foldl (fun x r => x ||| r.2) 0)

/-- a < b as 32-bit signed integers. -/
def ltI32 (a b : Nat) : Bool := decide (signed 32 a < signed 32 b)

/-- All ones of a format's width. -/
def onesOf (f : FloatFmt) : Nat := 2 ^ (1 + f.expBits + f.man) - 1

/-- The FP32 REDSUM of 512 patterns: nine levels of adjacent pairs, each addition rounded (R49). -/
def redsumF (a : List Nat) : Nat × Flags :=
  fpTree 9 ((List.range 512).map (fun i => some (ffDecode ffFp32 (a.getD i 0))))

/-- The lane results and flags of the elementwise operations (R49, R50). -/
def vecResult (op form : Nat) (a b c : List Nat) (imm : Nat) : List Nat × Flags :=
  match op with
  | 0x01 => vecLanes form (fun f x y _ => ffAdd f x y) (fun x y _ => x + y) a b c
  | 0x02 => vecLanes form (fun f x y _ => ffMul f x y) (fun x y _ => x * y) a b c
  | 0x03 => vecLanes form (fun f x y z => ffFma f x y z) (fun x y z => x * y + z) a b c
  | 0x04 => vecLanes form (fun f x y _ => (maxMin f true x y, 0)) (fun x y _ => if ltI32 x y then y else x) a b c
  | 0x05 => vecLanes form (fun f x y _ => (maxMin f false x y, 0)) (fun x y _ => if ltI32 y x then y else x) a b c
  | 0x06 => vecLanes form (fun f x y _ => (if ltV (ffDecode f x) (ffDecode f y) then onesOf f else 0, 0))
      (fun x y _ => if ltI32 x y then 2 ^ 32 - 1 else 0) a b c
  | 0x07 => vecLanes form (fun _ x y z => (if z = 0 then y else x, 0)) (fun x y z => if z = 0 then y else x) a b c
  | 0x09 => (List.replicate 512 imm, 0)
  | 0x10 => vecMap fpExp2 a
  | 0x11 => vecMap fpLog2 a
  | 0x12 => vecMap fpRcp a
  | 0x13 => vecMap fpRsqrt a
  | 0x14 => vecMap fpTanh a
  | _ =>
    if form = 0 then (let r := redsumF a; (r.1 :: List.replicate 511 0, r.2))
    else ((a.foldl (fun x y => x + y) 0) % 2 ^ 32 :: List.replicate 511 0, 0)

/-- Cycles a vector operation occupies the unit (R49). -/
def vecCycles (op : Nat) : Nat := if op < 0x10 then 1 else 4
/-- Cycles from issue to the result (R250). -/
def vecLatency (op : Nat) : Nat := if op < 0x10 then 4 else 8

/-- A result on its way to a vector register. -/
def State.vecPush (s : State) (x dst due : Nat) (lanes : List Nat) : State :=
  s.updEng x (fun e => { e with vec := e.vec ++ [⟨dst, due, lanes⟩] })

/-- An elementwise operation takes up its slot: it reads its sources, sets its thread's flags, and its result is due. -/
def State.vecRun (s : State) (x op : Nat) : State :=
  match s.takeSlot x (fun sl => sl.kind == 2 && vOp sl.word == op) with
  | none => s
  | some (sl, s1) =>
    let w := sl.word
    let r := vecResult op (vForm w) (s.vreg x (vA w)) (s.vreg x (vB w)) (s.vreg x (vC w)) (vImm w)
    (s1.vecPush x (vDst w) (sl.cyc + vecLatency op) r.1).setFlags x sl.k r.2

/-- VECTOR_ADD (R49). -/
def execVectorAdd (t : Nat) (x : TileIx) (s : State) : Result := .next ((s.tick t).vecRun x 0x01)
/-- VECTOR_MUL (R49). -/
def execVectorMul (t : Nat) (x : TileIx) (s : State) : Result := .next ((s.tick t).vecRun x 0x02)
/-- VECTOR_FMA (R49). -/
def execVectorFma (t : Nat) (x : TileIx) (s : State) : Result := .next ((s.tick t).vecRun x 0x03)
/-- VECTOR_MAX (R49). -/
def execVectorMax (t : Nat) (x : TileIx) (s : State) : Result := .next ((s.tick t).vecRun x 0x04)
/-- VECTOR_MIN (R49). -/
def execVectorMin (t : Nat) (x : TileIx) (s : State) : Result := .next ((s.tick t).vecRun x 0x05)
/-- VECTOR_CMPLT (R49). -/
def execVectorCmplt (t : Nat) (x : TileIx) (s : State) : Result := .next ((s.tick t).vecRun x 0x06)
/-- VECTOR_SEL (R49). -/
def execVectorSel (t : Nat) (x : TileIx) (s : State) : Result := .next ((s.tick t).vecRun x 0x07)
/-- VECTOR_BCAST (R49). -/
def execVectorBcast (t : Nat) (x : TileIx) (s : State) : Result := .next ((s.tick t).vecRun x 0x09)
/-- VECTOR_EXP2 (R50). -/
def execVectorExp2 (t : Nat) (x : TileIx) (s : State) : Result := .next ((s.tick t).vecRun x 0x10)
/-- VECTOR_LOG2 (R50). -/
def execVectorLog2 (t : Nat) (x : TileIx) (s : State) : Result := .next ((s.tick t).vecRun x 0x11)
/-- VECTOR_RCP (R50). -/
def execVectorRcp (t : Nat) (x : TileIx) (s : State) : Result := .next ((s.tick t).vecRun x 0x12)
/-- VECTOR_RSQRT (R50). -/
def execVectorRsqrt (t : Nat) (x : TileIx) (s : State) : Result := .next ((s.tick t).vecRun x 0x13)
/-- VECTOR_TANH (R50). -/
def execVectorTanh (t : Nat) (x : TileIx) (s : State) : Result := .next ((s.tick t).vecRun x 0x14)
/-- VECTOR_REDSUM (R49). -/
def execVectorRedsum (t : Nat) (x : TileIx) (s : State) : Result := .next ((s.tick t).vecRun x 0x18)

/-! ### CVT -/

/-- The source format of a CVT: IMM's, or with SRC_FMT 0 the FORM's (R88). -/
def cvtSrc (form imm : Nat) : Option Fmt :=
  if bitsAt imm 8 8 = 0 then
    some (if form = 0 then .fp32 else if form = 1 then .fp16 else if form = 2 then .bf16 else .int32)
  else fmtOfCode (bitsAt imm 8 8)

/-- A context of the random unit. -/
def State.ctx (s : State) (x n : Nat) : Ctx := Tab.get Ctx.closed (s.tile x).ctxs n
/-- A context changed. -/
def State.updCtx (s : State) (x n : Nat) (f : Ctx → Ctx) : State :=
  s.updTile x (fun t => { t with ctxs := Tab.upd Ctx.closed t.ctxs n f })

/-- Random bits per element of a context. -/
def Ctx.k (c : Ctx) : Nat := if c.k3 then 3 else 4
/-- The state at the group of a context's element index (R233). -/
def State.ctxState (s : State) (c : Ctx) : Plg := plgSkip (plgKeymix s.seed c.key) (c.e / plgPer c.k)

/-- The rounding of each element of a CVT (R85, R237). -/
def State.cvtModes (s : State) (x k round n : Nat) (f : Fmt) : Nat → RMode :=
  if round = 0 then fun _ => .rne
  else if round = 1 then fun _ => .rtz
  else
    let c := s.ctx x k
    let bits := plgBits (srBits f) n c.e (s.ctxState c)
    fun j => .sr (bits.getD j 0) (srBits f)

/-- A register as a stream of 16,384 bits. -/
def regStream (lanes : List Nat) : Nat := packStream 32 lanes
/-- The 512 lanes of a stream. -/
def streamLanes (n : Nat) : List Nat := (List.range 512).map (fun i => streamElem n 32 i)

/-- The lanes of values whose LS128 sums were out of range keep what the register held (R95; log entry 21). -/
def lsKeep (old new : List Nat) (bad : Nat → Bool) : List Nat :=
  (List.range 512).map (fun i => if bad (i / 4) then old.getD i 0 else new.getD i 0)

/-- CVT takes up its slot (R88, R95, R237). -/
def State.cvtRun (s : State) (x : Nat) : State :=
  match s.takeSlot x (fun sl => sl.kind == 2 && vOp sl.word == 0x08) with
  | none => s
  | some (sl, s1) =>
    let w := sl.word
    let imm := vImm w
    match cvtSrc (vForm w) imm, fmtOfCode (bitsAt imm 0 8) with
    | some src, some dst =>
      let round := bitsAt imm 17 2
      let n := cvtCount src dst
      let modes := s.cvtModes x sl.k (if dst = .ls128 then 0 else round) n dst
      let side := if fmtHasSide src then regStream (s.vreg x (vA w + 1)) else 0
      let r := cvt src dst (imm.testBit 16) modes (bitsAt imm 24 8) (regStream (s.vreg x (vA w))) side
      let s2 := if round = 2 then s1.updCtx x sl.k (fun c => { c with e := (c.e + n) % 2 ^ 64 }) else s1
      let lanes := streamLanes r.data
      let vals := (srcValues src (regStream (s.vreg x (vA w))) side n).1
      let bad (v : Nat) : Bool :=
        decide (v < vals.length) && (LsAcc.addTerm (bitsAt imm 24 8) LsAcc.zero (vals.getD v .nan)).overflows
      let out := if r.ovf.isSome then lsKeep (s.vreg x (vDst w)) lanes bad else lanes
      let s3 := (s2.vecPush x (vDst w) (sl.cyc + 4) out).setFlags x sl.k r.flags
      let s4 := match r.side with
        | some sd => s3.vecPush x (vDst w + 1) (sl.cyc + 4) (streamLanes sd)
        | none => s3
      match r.ovf with
      | some v => s4.trapOne x sl.k 5 (2 + v * 16)
      | none => s4
    | _, _ => s1

/-- VECTOR_CVT (R88). -/
def execVectorCvt (t : Nat) (x : TileIx) (s : State) : Result := .next ((s.tick t).cvtRun x)

/-- The first pending vector result that is due lands in its register (R250). -/
def State.vecLand (s : State) (x : Nat) : State :=
  match (s.tile x).eng.vec.find? (fun p => decide (p.due ≤ s.gclk)) with
  | none => s
  | some p => (s.setVreg x p.dst p.lanes).updEng x (fun e => { e with vec := e.vec.erase p })

/-- VECTOR_RESULT (R250). -/
def execVectorResult (t : Nat) (x : TileIx) (s : State) : Result := .next ((s.tick t).vecLand x)

end Sys2Proof.Machine
end

