-- ==== Sys2Proof/Machine/Store.lean ====
section
/-! DEFINITION. Store-slot moves and the tile store's own events (R51 to R56). -/

namespace Sys2Proof.Machine

/-- The lanes a 2 KiB image of a register holds. -/
def lanesOf (bs : Bytes) : List Nat := (List.range 512).map (fun i => fieldAt bs (4 * i) 4)
/-- The 2 KiB image of a register's lanes. -/
def lanesBytes (l : List Nat) : Bytes := (l.map (fun n => leBytes 4 n)).flatten

/-- STORE slot fields (R51): VREG and TS_ADDR. -/
def stVreg (w : Nat) : Nat := bitsAt w 2 6
/-- TS_ADDR. -/
def stAddr (w : Nat) : Nat := bitsAt w 8 24

/-- A store-slot move on its way. -/
def State.storePush (s : State) (x : Nat) (p : StorePend) : State := s.updEng x (fun e => { e with stores := e.stores ++ [p] })

/-- A move into a register reads its 32 rows (R51, R54, R55). -/
def State.storeLoad (s : State) (x : Nat) (errs : List MemErr) : State :=
  match s.takeSlot x (fun sl => sl.kind == 3 && !sl.word.testBit 0) with
  | none => s
  | some (sl, s1) =>
    let a := stAddr sl.word
    let s2 := s1.tsErrs x a 2048 errs
    match s2.firstPoison x a 2048 with
    | some row => s2.trapOne x sl.k 2 (rowBank row)
    | none => s2.storePush x ⟨true, stVreg sl.word, a, sl.k, sl.cyc + 12, lanesOf (s2.tsRead x a 2048)⟩

/-- STORE_TO_REGISTER (R51). -/
def execStoreToRegister (t : Nat) (x : TileIx) (errs : List MemErr) (s : State) : Result :=
  .next ((s.tick t).storeLoad x errs)

/-- A move into the tile store reads its register in the issue cycle (R51). -/
def State.storeSave (s : State) (x : Nat) : State :=
  match s.takeSlot x (fun sl => sl.kind == 3 && sl.word.testBit 0) with
  | none => s
  | some (sl, s1) =>
    s1.storePush x ⟨false, stVreg sl.word, stAddr sl.word, sl.k, sl.cyc + 4, s.vreg x (stVreg sl.word)⟩

/-- REGISTER_TO_STORE (R51). -/
def execRegisterToStore (t : Nat) (x : TileIx) (s : State) : Result := .next ((s.tick t).storeSave x)

/-- The first store-slot move that is due writes its register or its rows; cycles past its time are the store slot's shift
(R254). -/
def State.storeLand (s : State) (x : Nat) : State :=
  match (s.tile x).eng.stores.find? (fun p => decide (p.due ≤ s.gclk)) with
  | none => s
  | some p =>
    let s1 := s.updEng x (fun e => { e with stores := e.stores.erase p })
    let s2 := if p.toReg then s1.setVreg x p.vreg p.lanes else s1.tsWrite x p.addr (lanesBytes p.lanes)
    s2.noteShift x 6 (s.gclk - p.due)

/-- STORE_MOVE_COMPLETE (R51). -/
def execStoreMoveComplete (t : Nat) (x : TileIx) (s : State) : Result := .next ((s.tick t).storeLand x)

/-- TSTORE_REMAP_COPY_DONE (R54): the copy of a bank's remapped row to its spare row is complete; reads come from the spare
row from now on. -/
def execTstoreRemapCopyDone (t : Nat) (x : TileIx) (bank : Fin 64) (s : State) : Result :=
  .next ((s.tick t).updEng x (fun e => { e with
    copying := match e.copying.find? (fun c => c.1 == bank.val) with
      | some c => e.copying.erase c
      | none => e.copying }))

/-- TSTORE_ZEROING_DONE (R56): the whole tile store reads 0, no row is poisoned or suspect, and held accesses may proceed. -/
def execTstoreZeroingDone (t : Nat) (x : TileIx) (s : State) : Result :=
  let s1 := s.tick t
  if (s1.tile x).eng.zeroing then
    .next (({ s1 with
        ts := Tab.dropWhere (fun k => k / 2 ^ 25 == x.val) s1.ts } : State).updEng x (fun e => { e with
      zeroing := false, poison := [], suspect := [], suspectBeat := [], copying := [] }))
  else .next s1

end Sys2Proof.Machine
end

