-- ==== Sys2Proof/Machine/Exchange.lean ====
section
/-! DEFINITION. The exchange engines (R57 to R61, R253): descriptors, chunks, halts. -/

namespace Sys2Proof.Machine

/-- SRC_ADDR of a descriptor (R57). -/
def xdSrc (d : Nat) : Nat := bitsAt d 0 64
/-- DST_ADDR. -/
def xdDst (d : Nat) : Nat := bitsAt d 64 64
/-- LENGTH. -/
def xdLen (d : Nat) : Nat := bitsAt d 128 32
/-- ROWS. -/
def xdRows (d : Nat) : Nat := bitsAt d 160 16
/-- SRC_SPACE: 0 tile store, 1 device physical address, 2 remote module. -/
def xdSrcSpace (d : Nat) : Nat := bitsAt d 176 2
/-- DST_SPACE. -/
def xdDstSpace (d : Nat) : Nat := bitsAt d 178 2
/-- ADD_MODE. -/
def xdAdd (d : Nat) : Nat := bitsAt d 180 2
/-- ADD_FORMAT. -/
def xdFmt (d : Nat) : Nat := bitsAt d 182 3
/-- PRIORITY. -/
def xdPrio (d : Nat) : Bool := d.testBit 185
/-- SRC_STRIDE. -/
def xdSrcStride (d : Nat) : Nat := bitsAt d 192 32
/-- DST_STRIDE. -/
def xdDstStride (d : Nat) : Nat := bitsAt d 224 32

/-- Chunks of a row (R253). -/
def xdPerRow (d : Nat) : Nat := ceilDiv (xdLen d) 512
/-- Chunks of a descriptor. -/
def xdTotal (d : Nat) : Nat := xdPerRow d * xdRows d
/-- Bytes of chunk j at its destination. -/
def xdSize (d j : Nat) : Nat := min 512 (xdLen d - 512 * (j % xdPerRow d))
/-- Whether the chunks of a descriptor are LS128 adds, which carry a side word after each block (R175). -/
def xdLs (d : Nat) : Bool := xdAdd d == 1 && xdFmt d == 3
/-- Bytes of chunk j at its source. -/
def xdSrcSize (d j : Nat) : Nat := if xdLs d then 520 else xdSize d j
/-- Source address of chunk j; the blocks of an LS128 row lie 520 bytes apart (R175; log entry 22). -/
def xdSrcAt (d j : Nat) : Nat :=
  xdSrc d + (j / xdPerRow d) * xdSrcStride d + (j % xdPerRow d) * (if xdLs d then 520 else 512)
/-- Destination address of chunk j. -/
def xdDstAt (d j : Nat) : Nat := xdDst d + (j / xdPerRow d) * xdDstStride d + 512 * (j % xdPerRow d)

/-- Why a field of a descriptor is illegal (R57, R58): a reserved encoding, combination or bit. -/
def xdIllegal (d : Nat) : Bool :=
  let badAddr (space a : Nat) : Bool :=
    match space with
    | 0 => a >>> 24 != 0
    | 1 => a >>> 40 != 0
    | 2 => a >>> 49 != 0
    | _ => true
  badAddr (xdSrcSpace d) (xdSrc d) || badAddr (xdDstSpace d) (xdDst d) || decide (1 < xdAdd d) || decide (3 < xdFmt d) ||
    (xdAdd d == 1 && xdDstSpace d == 0) || bitsAt d 186 6 != 0

/-- Whether an add descriptor breaks the alignment rule of R175. -/
def xdMisaligned (d : Nat) : Bool :=
  xdAdd d == 1 && (xdLen d % 512 != 0 || xdDst d % 512 != 0 || xdDstStride d % 512 != 0 ||
    (!xdLs d && (xdSrc d % 512 != 0 || xdSrcStride d % 512 != 0)))

/-- The violation a range of device physical addresses meets (R161, R189); a chunk that spans two places is cause 1. -/
def State.rangeViol (s : State) (mirror : Bool) (a n : Nat) : Option Nat :=
  match s.decodeDpa mirror a, s.decodeDpa mirror (a + n - 1) with
  | .viol c, _ => some c
  | _, .viol c => some c
  | .slice x _, .slice y _ => if x = y ∧ a / 2 ^ 33 = (a + n - 1) / 2 ^ 33 then none else some 1
  | .scratch p _, .scratch q _ => if p = q then none else some 1
  | _, _ => some 1

/-- The violation an add's destination meets: only slices take adds, and an LS128 side word must lie in the slice below the
mirror region (R166, R506). -/
def State.addViol (s : State) (fmt a : Nat) : Option Nat :=
  match s.decodeDpa false a with
  | .viol c => some c
  | .scratch _ _ => some 1
  | .slice x off =>
    if fmt = 3 then
      let side := s.rd F.SLC_REGIONS_SIDE_LINE x * 64 + 8 * (off / 512)
      if s.mirrorBase x < side + 8 then some 3 else none
    else none

/-- The first aperture violation of a descriptor, as the cause of R189. -/
def State.xdViol (s : State) (d : Nat) : Option Nat :=
  (List.range (xdTotal d)).findSome? (fun j =>
    let src := match xdSrcSpace d with
      | 0 => if tsSize < xdSrcAt d j + xdSrcSize d j then some 5 else none
      | 1 => s.rangeViol false (xdSrcAt d j) (xdSrcSize d j)
      | _ => none
    match src with
    | some c => some c
    | none => match xdDstSpace d with
      | 0 => if tsSize < xdDstAt d j + xdSize d j then some 5 else none
      | 1 => (match s.rangeViol false (xdDstAt d j) (xdSize d j) with
        | some c => some c
        | none => if xdAdd d = 1 then s.addViol (xdFmt d) (xdDstAt d j) else none)
      | _ => none)

/-- A channel of a tile. -/
def State.chan (s : State) (x c : Nat) : Chan := Tab.get Chan.idle (s.tile x).eng.chans c
/-- A channel changed. -/
def State.updChan (s : State) (x c : Nat) (f : Chan → Chan) : State :=
  s.updEng x (fun e => { e with chans := Tab.upd Chan.idle e.chans c f })

/-- Accesses of a channel for chunk j and later ones that are still on their way are dropped. -/
def Slice.dropFrom (o : Origin) (j : Nat) (l : Slice) : Slice :=
  let f (a : Acc) : Bool := a.src != o || decide (a.job < j)
  { l with inbound := l.inbound.filter f, defer := l.defer.filter f, deliver := l.deliver.filter (fun d => f d.acc) }

/-- Every slice without the accesses of a channel from chunk j on. -/
def State.dropAccs (s : State) (x c j : Nat) : State :=
  { s with
    tiles := s.tiles.map (fun e => (e.1, { e.2 with slice := e.2.slice.dropFrom (.tile x c) j })),
    remote := s.remote.filter (fun r => !(r.x == x && r.c == c) || decide (r.job < j)) }

/-- A channel halts at chunk j with a code, and its thread traps; earlier chunks are on their way and arrive (R60, R189). -/
def State.chanFail (s : State) (x c j halt info : Nat) : State :=
  let i := x * 16 + c
  let k := (s.chan x c).k
  let s1 := (s.wr F.SEQ_XCH_STATUS_STATE i 2).wr F.SEQ_XCH_STATUS_HALT_CODE i halt
  let s2 := (s1.dropAccs x c j).updChan x c (fun h => { h with started := false, halt := none })
  s2.trapOne x k halt info

/-- One chunk of a channel has reached its destination; after the last one the channel is IDLE (log entry 23). -/
def State.chanServed (s : State) (x c : Nat) : State :=
  let h := s.chan x c
  let s1 := s.updChan x c (fun g => { g with served := g.served + 1 })
  if h.started ∧ h.served + 1 = xdTotal h.desc then
    (s1.wr F.SEQ_XCH_STATUS_STATE (x * 16 + c) 0).updChan x c (fun g => { g with started := false, halt := none })
  else s1

/-- A module index that a MODULES record in force names (R290). -/
def State.moduleKnown (s : State) (m : Nat) : Bool := s.modules.contains m

/-- An exchange START takes up its slot (R58, R59, R175, R189, R290). -/
def State.xchStart (s : State) (x : Nat) : State :=
  match s.takeSlot x (fun sl => sl.kind == 5) with
  | none => s
  | some (sl, s1) =>
    let c := bitsAt sl.word 0 4
    let j := bitsAt sl.word 8 16
    let d := s.tsNat x (s.rd F.SEQ_XCH_DESC_BASE_BASE x + 32 * j) 32
    let s2 := (s1.wr F.SEQ_XCH_STATUS_DESC_INDEX (x * 16 + c) j).updChan x c
      (fun _ => ⟨d, sl.k, sl.cyc, 0, 0, true, none⟩)
    if xdTotal d = 0 then
      (s2.wr F.SEQ_XCH_STATUS_STATE (x * 16 + c) 0).updChan x c (fun h => { h with started := false })
    else if xdMisaligned d then s2.chanFail x c 0 0x21 c
    else if (xdSrcSpace d = 2 ∧ !s.moduleKnown (bitsAt (xdSrc d) 40 9)) ∨
        (xdDstSpace d = 2 ∧ !s.moduleKnown (bitsAt (xdDst d) 40 9)) then s2.chanFail x c 0 8 (6 + 16 * c)
    else match s.xdViol d with
      | some v => s2.chanFail x c 0 8 v
      | none => (s2.wr F.SEQ_XCH_STATUS_STATE (x * 16 + c) 1).noteShift x (16 + c) (s.gclk - sl.cyc)

/-- EXCHANGE_START (R59). -/
def execExchangeStart (t : Nat) (x : TileIx) (s : State) : Result := .next ((s.tick t).xchStart x)

/-- The cycle in which chunk j of channel c moves (R253). -/
def chunkCycle (origin c j : Nat) : Nat :=
  let u := origin + 8 + 8 * j
  u + (c + 8 - u % 8) % 8

/-- A slice of a tile changed. -/
def State.updSlice (s : State) (x : Nat) (f : Slice → Slice) : State := s.updTile x (fun t => { t with slice := f t.slice })

/-- The end of a route at which an address is served (R252, R504). -/
def State.dpaEnd (s : State) (a : Nat) : Nat :=
  match s.decodeDpa false a with
  | .slice y _ => y
  | .scratch p _ => 104 + p
  | .viol _ => 0

/-- An inbound access sent to the slice that serves an address; a scratchpad's accesses are kept at position 13p (R504; log
entry 24). -/
def State.sendInbound (s : State) (a : Acc) : State :=
  match s.decodeDpa (a.src == .mirror) a.dpa with
  | .slice y _ => s.updSlice y (fun l => { l with inbound := l.inbound ++ [a] })
  | .scratch p _ => s.updSlice (13 * p) (fun l => { l with inbound := l.inbound ++ [a] })
  | .viol _ => s

/-- The shift of a channel (R254). -/
def State.chanShift (s : State) (x c : Nat) : Nat := Tab.get 0 (s.tile x).eng.shift (16 + c)

/-- The cycle in which chunk j of a channel is to move, with the channel's shift (R253, R254). -/
def State.chunkDue (s : State) (x c j : Nat) : Nat := chunkCycle (s.chan x c).origin c j + s.chanShift x c

/-- A chunk that waits for a port's cell slots, from a place: its header at the port at origin + 8 + M, the chunk M from now
(R253, R317, R319). -/
def State.toPort (s : State) (x c j e kind src size : Nat) (addr : Nat) (data : Bytes) : RemoteChunk :=
  let h := s.chan x c
  let m := bitsAt addr 40 9
  let q := (s.modulePort m).getD 0
  ⟨x, c, h.k, kind, if kind = 2 then 0 else xdFmt h.desc, xdPrio h.desc, m, src % 2 ^ 40, size, data, j, decide (j = 0), leBytes 32 h.desc,
    h.origin + s.chanShift x c + 8 + s.routeLat x (112 + q), s.gclk + s.routeLat e (112 + q)⟩

/-- Data of chunk j goes on from an end of a route to its destination, which it reaches at the route's latency (R253). -/
def State.chunkOut (s : State) (x c j e : Nat) (data : Bytes) : State :=
  let d := (s.chan x c).desc
  match xdDstSpace d with
  | 0 => (s.tsWrite x (xdDstAt d j) data).chanServed x c
  | 1 => s.sendInbound ⟨.tile x c, if xdAdd d = 1 then .add (xdFmt d) else .write, xdDstAt d j, xdSize d j, data,
      s.gclk + s.routeLat e (s.dpaEnd (xdDstAt d j)), xdPrio d, false, j⟩
  | _ => { s with remote := s.remote ++ [s.toPort x c j e (if xdAdd d = 1 then 1 else 0) (xdDstAt d j) (xdSize d j) (xdDst d) data] }

/-- A channel moves its next chunk (R60, R61, R253). A channel with a halt pending moves no chunk of a further row. -/
def State.chunkMove (s : State) (x c : Nat) (errs : List MemErr) : State :=
  let h := s.chan x c
  let d := h.desc
  let j := h.next
  if !h.started || decide (xdTotal d ≤ j) || decide (s.gclk < s.chunkDue x c j) || s.frozen ||
      (h.halt.isSome && j % xdPerRow d == 0) then s
  else
    let late := s.gclk - chunkCycle h.origin c j
    let s0 := (s.updChan x c (fun g => { g with next := j + 1 })).noteShift x (16 + c) late
    match xdSrcSpace d with
    | 0 =>
      let a := xdSrcAt d j
      let n := xdSrcSize d j
      let s1 := s0.tsErrs x a n errs
      (match s1.firstPoison x a n with
      | some _ => s1.chanFail x c j 2 c
      | none => s1.chunkOut x c j x (s1.tsRead x a n))
    | 1 => s0.sendInbound ⟨.tile x c, .read, xdSrcAt d j, xdSrcSize d j, [], s.gclk + s0.routeLat x (s0.dpaEnd (xdSrcAt d j)),
        xdPrio d, false, j⟩
    | _ => { s0 with remote := s0.remote ++ [s0.toPort x c j x 2 (xdSrcAt d j) (xdSrcSize d j) (xdSrc d) []] }

/-- The cycle in which a channel's descriptor ends without shift, where R253 publishes it: when its last chunk is served. -/
def State.chanEnd (s : State) (x c : Nat) : Option Nat :=
  let h := s.chan x c
  let d := h.desc
  let j := xdTotal d - 1
  let t := chunkCycle h.origin c j + xdAdd d
  match xdSrcSpace d, xdDstSpace d with
  | 0, 0 => some t
  | 0, 1 => some (t + s.routeLat x (s.dpaEnd (xdDstAt d j)))
  | 1, 0 => some (t + 2 * s.routeLat x (s.dpaEnd (xdSrcAt d j)) + 96)
  | 1, 1 => some (t + s.routeLat x (s.dpaEnd (xdSrcAt d j)) + 96 + s.routeLat (s.dpaEnd (xdSrcAt d j)) (s.dpaEnd (xdDstAt d j)))
  | _, _ => none

/-- Whether a channel is BUSY only because of shift (R254). -/
def State.chanLate (s : State) (x c : Nat) : Bool :=
  let h := s.chan x c
  h.started && h.halt.isNone && s.rd F.SEQ_XCH_STATUS_STATE (x * 16 + c) == 1 &&
    (match s.chanEnd x c with | some t => decide (t ≤ s.gclk) | none => false)

/-- An access of a channel is served later than it arrived: the channel carries that shift (R170, R252, R254). -/
def State.accLate (s : State) (a : Acc) : State :=
  match a.src with
  | .tile y c => if s.gclk ≤ a.due then s else s.noteShift y (16 + c) (s.chanShift y c + (s.gclk - a.due))
  | _ => s

/-- EXCHANGE_CHUNK_MOVE (R253). -/
def execExchangeChunkMove (t : Nat) (x : TileIx) (c : ChanIx) (errs : List MemErr) (s : State) : Result :=
  .next ((s.tick t).chunkMove x c errs)

/-- A channel whose thread trapped halts once its row in progress is complete (R61). -/
def State.chanHalt (s : State) (x c : Nat) : State :=
  let h := s.chan x c
  match h.halt with
  | none => s
  | some code =>
    if h.started ∧ h.next % xdPerRow h.desc = 0 ∧ h.served = h.next then
      ((s.wr F.SEQ_XCH_STATUS_STATE (x * 16 + c) 2).wr F.SEQ_XCH_STATUS_HALT_CODE (x * 16 + c) code).updChan x c
        (fun g => { g with started := false, halt := none })
    else s

/-- EXCHANGE_CHANNEL_HALT (R61). -/
def execExchangeChannelHalt (t : Nat) (x : TileIx) (c : ChanIx) (s : State) : Result := .next ((s.tick t).chanHalt x c)

end Sys2Proof.Machine
end

