-- ==== Sys2Proof/Machine/Threads.lean ====
section
/-! DEFINITION. Starting and stopping play threads, and the recording of traps (R62 to R65, R71, R73, R123). -/

namespace Sys2Proof.Machine

/-- Offset of a tile's register in the control view. -/
def tileReg (x off : Nat) : Nat := 0x800000 + x * 0x1000 + off

/-- A partition of the array. -/
def State.part (s : State) (x k : Nat) : Part := Tab.get Part.idle (s.tile x).parts k
/-- A partition changed. -/
def State.updPart (s : State) (x k : Nat) (f : Part → Part) : State :=
  s.updTile x (fun t => { t with parts := Tab.upd Part.idle t.parts k f })

/-- Whether a trap of a thread was detected in this very cycle, so that a START or STOP write has no effect (R64). -/
def State.trapNow (s : State) (x k : Nat) : Bool :=
  match (s.thread x k).trap with
  | some p => p.cyc == s.now
  | none => false

/-- SEQ_TRAPn and SEQ_TRAP_BEATn of a thread, as a list. -/
def State.trapFields (s : State) (i : Nat) : List Nat :=
  [s.rd F.SEQ_TRAP_CODE i, s.rd F.SEQ_TRAP_MULTI i, s.rd F.SEQ_TRAP_SHARED i, s.rd F.SEQ_TRAP_INFO i,
   s.rd F.SEQ_TRAP_PLAY_INDEX i, s.rd F.SEQ_TRAP_BEAT_BEAT i]

/-- The halted channels of a thread. -/
def State.haltedChans (s : State) (x k : Nat) : List Nat :=
  (List.range 16).filter (fun c => chanOwner (s.threadCount x) c == k && s.rd F.SEQ_XCH_STATUS_STATE (x * 16 + c) == 2)

/-- A START bit set (R65, R60, R123): the trap record and loop stack empty, halted channels return to IDLE, the partition's
weights are invalid, a load in flight is dropped, and the thread awaits its frame boundary. -/
def State.startThread (s : State) (x k : Nat) : State :=
  let i := x * 4 + k
  let halted := s.haltedChans x k
  let sv : StartSave := ⟨s.now, s.trapFields i, (s.thread x k).stack, halted, s.rd F.ARR_STATUS_ACTIVE_VALID i,
    s.rd F.ARR_STATUS_SHADOW_VALID i⟩
  let s1 := ((((s.wr F.SEQ_TRAP_CODE i 0).wr F.SEQ_TRAP_MULTI i 0).wr F.SEQ_TRAP_SHARED i 0).wr F.SEQ_TRAP_INFO i 0).wr
    F.SEQ_TRAP_PLAY_INDEX i 0
  let s2 := (s1.wr F.SEQ_TRAP_BEAT_BEAT i 0).wrBit F.SEQ_THREAD_CTL_TRAPPED x k false
  let s3 := ((s2.wr F.ARR_STATUS_ACTIVE_VALID i 0).wr F.ARR_STATUS_SHADOW_VALID i 0).wr F.ARR_STATUS_LOADING i 0
  let s4 := halted.foldl (fun a c => a.wr F.SEQ_XCH_STATUS_STATE (x * 16 + c) 0) s3
  ((s4.updPart x k (fun p => { p with load := none })).updThread x k
    (fun h => { h with stack := [], trap := none, save := some sv })).wrBit F.SEQ_THREAD_CTL_START x k true

/-- THREAD_START (R65, R70, R71). Bits of threads outside the mode, of threads already started and of threads that trap in
this cycle have no effect; an unconfigured or memory-only tile, or one that a margin run holds (R477), ignores and records the write. -/
def execThreadStart (t : Nat) (x : TileIx) (mask : BitVec 4) (s : State) : Result :=
  let s1 := s.tick t
  if s1.memOnly x || s1.rd F.SEQ_CTL_CONFIGURED x == 0 || s1.marginTile x then .next (s1.noteWrite (tileReg x 8))
  else .next ((List.range (s1.threadCount x)).foldl (fun a k =>
    if mask.toNat.testBit k && !a.started x k && !a.trapNow x k then a.startThread x k else a) s1)

/-- THREAD_STOP (R64, R71): the thread stops at its first turn after the next frame boundary. -/
def execThreadStop (t : Nat) (x : TileIx) (mask : BitVec 4) (s : State) : Result :=
  let s1 := s.tick t
  if s1.memOnly x then .next (s1.noteWrite (tileReg x 8))
  else .next ((List.range (s1.threadCount x)).foldl (fun a k =>
    if mask.toNat.testBit k && (a.running x k || a.started x k) && !a.trapNow x k then
      a.updThread x k (fun h => { h with stopReq := true }) else a) s1)

/-- The bit of ATT_TRAP0 or ATT_TRAP1 of a tile set or cleared (R341). -/
def State.setAttTrap (s : State) (x : Nat) (v : Bool) : State :=
  if x < 64 then s.wrBit F.ATT_TRAP0_TILES 0 x v else s.wrBit F.ATT_TRAP1_TILES 0 (x - 64) v

/-- A detected trap is written to SEQ_TRAPn and SEQ_TRAP_BEATn, and raises TRAP attention (R63, R73, R341). -/
def State.recordTrap (s : State) (x k : Nat) : State :=
  match (s.thread x k).trap with
  | none => s
  | some p =>
    let i := x * 4 + k
    let s1 := ((((s.wr F.SEQ_TRAP_CODE i p.code).wr F.SEQ_TRAP_MULTI i (bit p.multi)).wr F.SEQ_TRAP_SHARED i
      (bit p.shared)).wr F.SEQ_TRAP_INFO i p.info).wr F.SEQ_TRAP_PLAY_INDEX i p.idx
    let s2 := (s1.wr F.SEQ_TRAP_BEAT_BEAT i p.beat).wrBit F.SEQ_THREAD_CTL_TRAPPED x k true
    ((s2.setAttTrap x true).attn F.ATT_PENDING_TRAP).updThread x k (fun h => { h with trap := none })

/-- TRAP_RECORD (R63). -/
def execTrapRecord (t : Nat) (x : TileIx) (k : ThreadIx) (s : State) : Result := .next ((s.tick t).recordTrap x k)

end Sys2Proof.Machine
end

