-- ==== Sys2Proof/Machine/SliceOps.lean ====
section
/-! DEFINITION. Reads and writes of a slice (R174, R179, R184 to R190): error codes, the error log, the flip mask, the slice
cache and the pier cache. -/

namespace Sys2Proof.Machine

/-- The key of a slice line among `badLines` and `latent`. -/
def lineKey (x line : Nat) : Nat := sliceBase x / 64 + line

/-- An uncorrectable read logged (R186, R198): paths 0 slice slot, 1 array load, 2 MV or attention, 3 exchange, 4 reply or
host, 5 add, 6 bank unit, 7 scrub. -/
def State.logUncorr (s : State) (x path line : Nat) : State :=
  let s1 :=
    if s.rd F.SLC_ERR_VALID x = 1 then s.wr F.SLC_ERR_MORE x 1
    else (((s.wr F.SLC_ERR_VALID x 1).wr F.SLC_ERR_PATH x path).wr F.SLC_ERR_COURSE x (line / 2 % 4)).wr F.SLC_ERR_LINE x line
  (s1.note 0x211 path).attn F.ATT_PENDING_UNCORR

/-- A line corrected by a read (R185): counted, queued for write-back, and a repair candidate on a second correction within
2^20 beats. -/
def State.lineCorr (s : State) (x line : Nat) (die : Bool) : State :=
  let s1 := s.sat (if die then F.SLC_COUNT_CORR_DIE else F.SLC_COUNT_CORR_LINE) x 1
  s1.updSlice x (fun l =>
    let prev := Tab.find l.lastCorr line
    let again := match prev with
      | some b => decide (s.beatNow ≤ b + 2 ^ 20)
      | none => false
    { l with
      corrected := if l.corrected.contains line then l.corrected else l.corrected ++ [line],
      lastCorr := Tab.ins (Tab.drop l.lastCorr line) line s.beatNow,
      cands := if again && !l.cands.contains line then l.cands ++ [line] else l.cands })

/-- One error of a line takes effect at a read. -/
def State.lineErr (s : State) (x line : Nat) (k : ErrKind) : State :=
  match k with
  | .die => s.lineCorr x line true
  | .symbol => s.lineCorr x line false
  | .uncorr => { s with badLines := Tab.put 0 s.badLines (lineKey x line) 1 }

/-- The errors of a range that are given with the command or lie latent in it. -/
def State.rangeErrs (s : State) (x off n : Nat) (errs : List MemErr) : List (Nat × ErrKind) :=
  ((errs.filter (inRows off n)).map (fun e => (e.loc / 64, e.kind))) ++
    ((List.range ((off + n - 1) / 64 + 1 - off / 64)).filterMap (fun i =>
      let line := off / 64 + i
      match Tab.get 0 s.latent (lineKey x line) with
      | 0 => none
      | 1 => some (line, .die)
      | 2 => some (line, .symbol)
      | _ => some (line, .uncorr)))

/-- The effect of a read of slice DRAM on the error state (R185, R186); the second part is the first uncorrectable line. -/
def State.dramTouch (s : State) (x off n path : Nat) (errs : List MemErr) : State × Option Nat :=
  let s1 := (s.rangeErrs x off n errs).foldl (fun a e => a.lineErr x e.1 e.2) s
  match ((List.range (if n = 0 then 0 else (off + n - 1) / 64 + 1 - off / 64)).map (fun i => off / 64 + i)).find?
      (fun l => Tab.get 0 s1.badLines (lineKey x l) == 1) with
  | some l => (s1.logUncorr x path l, some l)
  | none => (s1, none)

/-- Bytes of slice DRAM. -/
def State.dram (s : State) (x off n : Nat) : Bytes := s.memRead (sliceBase x + off) n

/-- How the codes see a line written under the flip mask (R190): PATTERN is XORed into one or two of its 32 symbols, before
or after the on-die code. -/
def flipKind (dieAfter : Bool) (a b : Nat) (enB : Bool) (pattern : Nat) : Nat :=
  if pattern = 0 then 0
  else
    let two := enB && a != b
    let single := popCount 16 pattern == 1
    if dieAfter && single then (if two && a / 8 == b / 8 then 3 else 1)
    else if two then 3 else 2

/-- A write of slice DRAM on a path of the flip mask (R185, R186, R190): 0 own or inbound, 1 unscheduled, 2 memory-side add,
3 bank unit. -/
def State.dramWrite (s : State) (x off path : Nat) (bs : Bytes) : State :=
  let lines := (List.range ((off + bs.length - 1) / 64 + 1 - off / 64)).map (fun i => off / 64 + i)
  let s1 := s.memWrite (sliceBase x + off) bs
  let s2 := { s1 with latent := lines.foldl (fun a l => Tab.drop a (lineKey x l)) s1.latent }
  let s3 := s2.updSlice x (fun l => { l with corrected := l.corrected.filter (fun c => !lines.contains c) })
  match lines.find? (fun l => decide (off ≤ l * 64 ∧ l * 64 + 64 ≤ off + bs.length)) with
  | none => s3
  | some l =>
    if s.rd F.SLC_FLIP_MASK_ARM x = 1 ∧ s.rd F.SLC_FLIP_MASK_PATH x = path then
      let kind := flipKind (s.rd F.SLC_FLIP_MASK_DIE x == 1) (s.rd F.SLC_FLIP_MASK_SYM_A x) (s.rd F.SLC_FLIP_MASK_SYM_B x)
        (s.rd F.SLC_FLIP_MASK_EN_B x == 1) (s.rd F.SLC_FLIP_MASK_PATTERN x)
      ({ s3 with latent := Tab.put 0 s3.latent (lineKey x l) kind } : State).wr F.SLC_FLIP_MASK_ARM x 0
    else s3

/-! ### The slice cache (R174) -/

/-- Where the slice cache holds a chunk, as set × 4 + way. -/
def Slice.cacheFind (l : Slice) (chunk : Nat) : Option Nat :=
  ([0, 1, 2, 3].map (fun w => chunk % 128 * 4 + w)).find? (fun i =>
    match Tab.find l.cache i with
    | some c => c.chunk == chunk
    | none => false)

/-- The newest bytes of a chunk in the slice cache or its write-back buffer, if it is held. -/
def Slice.held (l : Slice) (chunk : Nat) : Option CLine :=
  match l.cacheFind chunk with
  | some i => Tab.find l.cache i
  | none => (l.wbuf.reverse).find? (fun c => c.chunk == chunk)

/-- Bytes replaced within a chunk. -/
def patch (old : Bytes) (at0 : Nat) (bs : Bytes) : Bytes := old.take at0 ++ bs ++ old.drop (at0 + bs.length)

/-- Held copies of a chunk brought up to date by a write (R174). -/
def Slice.update (l : Slice) (off : Nat) (bs : Bytes) : Slice :=
  let ch := off / 512
  let fix (c : CLine) : CLine := if c.chunk = ch then { c with data := patch c.data (off % 512) bs } else c
  { l with cache := l.cache.map (fun e => (e.1, fix e.2)), wbuf := l.wbuf.map fix }

/-- Lines of the pier cache brought up to date by a write through a slice controller (R179). -/
def State.pchUpdate (s : State) (a : Nat) (bs : Bytes) : State :=
  { s with pch := s.pch.map (fun p =>
      let lo := p.line * 128
      if a + bs.length ≤ lo ∨ lo + 128 ≤ a then p
      else
        let start := max lo a
        let stop := min (lo + 128) (a + bs.length)
        { p with data := patch p.data (start - lo) ((bs.drop (start - a)).take (stop - start)) }) }

/-- A coherent write through the slice controller: DRAM, held lines and the pier cache (R174, R179). -/
def State.sliceWriteBytes (s : State) (x off path : Nat) (bs : Bytes) : State :=
  ((s.dramWrite x off path bs).updSlice x (fun l => l.update off bs)).pchUpdate (sliceBase x + off) bs

/-- A coherent read: the held copy of a chunk, or DRAM with its errors (R174, R188). -/
def State.sliceReadBytes (s : State) (x off n path : Nat) (errs : List MemErr) : Bytes × State × Option Nat :=
  match (s.tile x).slice.held (off / 512) with
  | some c =>
    if c.bad then ([], s.logUncorr x path (off / 64), some (off / 64))
    else ((c.data.drop (off % 512)).take n, s, none)
  | none =>
    let r := s.dramTouch x off n path errs
    (s.dram x off n, r.1, r.2)

/-- A write-back of a held line to DRAM; an uncorrectable cache line leaves the slice unwritten and its lines uncorrectable
(R188). -/
def State.writeBackLine (s : State) (x : Nat) (c : CLine) : State :=
  if c.bad then
    { s with badLines := (List.range 8).foldl (fun a i => Tab.put 0 a (lineKey x (c.chunk * 8 + i)) 1) s.badLines }
  else s.dramWrite x (c.chunk * 512) 0 c.data

/-- The oldest line of the write-back buffer written to DRAM. -/
def State.drainOne (s : State) (x : Nat) : State :=
  match (s.tile x).slice.wbuf with
  | [] => s
  | c :: r => (s.updSlice x (fun l => { l with wbuf := r })).writeBackLine x c

/-- A line placed in the slice cache; the least recently used line of its set leaves, through the write-back buffer if it is
dirty, and a full buffer drains its oldest line with an intrusion (R174). -/
def State.cacheAlloc (s : State) (x chunk : Nat) (dirty : Bool) (data : Bytes) : State :=
  let l := (s.tile x).slice
  let keys := [0, 1, 2, 3].map (fun w => chunk % 128 * 4 + w)
  let slot := match l.cacheFind chunk with
    | some i => i
    | none => match keys.find? (fun i => (Tab.find l.cache i).isNone) with
      | some i => i
      | none => keys.foldl (fun a i =>
          match Tab.find l.cache a, Tab.find l.cache i with
          | some p, some q => if q.used < p.used then i else a
          | _, _ => a) (chunk % 128 * 4)
  let victim := match Tab.find l.cache slot with
    | some c => if c.chunk != chunk && c.dirty then some c else none
    | none => none
  let was := match Tab.find l.cache slot with
    | some c => c.chunk == chunk && c.dirty
    | none => false
  let s1 := match victim with
    | some c =>
      let s2 := if l.wbuf.length = 4 then (s.drainOne x).sat F.SLC_COUNT_INTRUSIONS x 1 else s
      s2.updSlice x (fun m => { m with wbuf := m.wbuf ++ [c] })
    | none => s
  s1.updSlice x (fun m => { m with
    cache := Tab.ins (Tab.drop m.cache slot) slot ⟨chunk, dirty || was, false, m.cacheClock, data⟩,
    cacheClock := m.cacheClock + 1 })

/-- A chunk's dirty line written back (R172). -/
def State.flushChunk (s : State) (x chunk : Nat) : State :=
  let l := (s.tile x).slice
  match l.cacheFind chunk with
  | none => s
  | some i => match Tab.find l.cache i with
    | some c => if c.dirty then
        (s.writeBackLine x c).updSlice x (fun m => { m with cache := Tab.ins (Tab.drop m.cache i) i { c with dirty := false } })
      else s
    | none => s

/-- A chunk's slice-cache and pier-cache lines invalidated (R172, R179). -/
def State.invalChunk (s : State) (x chunk : Nat) : State :=
  let s1 := match (s.tile x).slice.cacheFind chunk with
    | some i => s.updSlice x (fun m => { m with cache := Tab.drop m.cache i })
    | none => s
  let lo := (sliceBase x + chunk * 512) / 128
  { s1 with pch := s1.pch.filter (fun p => !(decide (lo ≤ p.line) && decide (p.line < lo + 4))) }

/-- Every buffered and dirty line written back, as before a reset (R174). -/
def State.writeBackAll (s : State) (x : Nat) : State :=
  let s1 := [0, 1, 2, 3].foldl (fun a _ => a.drainOne x) s
  ((s.tile x).slice.cache.map (fun e => e.2.chunk)).foldl (fun a c => a.flushChunk x c) s1

/-- Whether a position is under a tile, pier or compute reset in progress (R366). -/
def State.tileInReset (s : State) (x : Nat) : Bool :=
  s.life.resets.any (fun r => match r.kind with
    | .tile y => y.val == x
    | .pier p => p.val == pierOf x
    | .compute => true)

/-- Whether a slice holds unscheduled requests and answers reply-slot reads with BUSY: in a reset (R366), or in a margin run (R476). -/
def State.sliceShut (s : State) (x : Nat) : Bool := s.tileInReset x || s.marginTile x

/-! ### The pier cache (R178, R179) -/

/-- Pier-cache lines filled by a read from outside the owning tile: the oldest line of a full set leaves. -/
def State.pchFill (s : State) (a : Nat) (data : Bytes) : State :=
  let p := a / 2 ^ 37
  let line := a / 128
  let ways := s.rd F.PCH_STATUS_IN_SERVICE p - s.rd F.PCH_CFG_SCR_WAYS p
  if ways = 0 ∨ s.pch.any (fun l => l.line == line) then s
  else
    let same := s.pch.filter (fun l => l.line / 2 ^ 30 == p && l.line % 65536 == line % 65536)
    match (List.range ways).find? (fun w => !same.any (fun l => l.way == w)) with
    | some w => { s with pch := s.pch ++ [⟨line, w, data⟩] }
    | none => match same.head? with
      | some v => { s with pch := (s.pch.erase v) ++ [⟨line, v.way, data⟩] }
      | none => s

/-- The pier cache's copy of a range of one chunk, if every 128-byte line of it is held. -/
def State.pchHit (s : State) (a n : Nat) : Option Bytes :=
  let lines := (List.range ((a + n - 1) / 128 + 1 - a / 128)).map (fun i => a / 128 + i)
  let found := lines.map (fun l => s.pch.find? (fun p => p.line == l))
  if found.all Option.isSome ∧ 0 < n then
    some (((found.map (fun o => match o with | some p => p.data | none => [])).flatten.drop (a % 128)).take n)
  else none

/-! ### Holds (R170, R216) -/

/-- Whether a refresh is being carried out at a slice (R170, R182). -/
def State.refreshing (s : State) (x : Nat) : Bool := decide (s.now < (s.tile x).slice.refreshEnd)

/-- Whether a unit in mid-segment holds a 128-byte share of a range of one chunk (R164, R216). -/
def State.unitHeld (s : State) (x off n : Nat) : Bool :=
  [0, 1, 2, 3].any (fun c =>
    let u := Tab.get Bku.idle (s.tile x).units (16 * c + bitsAt off 9 4)
    decide (off % 512 < 128 * (c + 1)) && decide (128 * c < off % 512 + n) && u.st == .running && u.begun && !u.boundary)

/-- Whether an own access to a range is held (R170, R216). -/
def State.ownHeld (s : State) (x off n : Nat) : Bool := s.refreshing x || s.unitHeld x off n

/-- A hold that ends: an intrusion counted, with the cycles held (R170, R509). -/
def State.intrusion (s : State) (x held : Nat) : State := (s.sat F.SLC_COUNT_INTRUSIONS x 1).note 0x210 held

end Sys2Proof.Machine
end

