-- ==== Sys2Proof/Machine/Array.lean ====
section
/-! DEFINITION. The matrix array (R103 to R123, R505): pass descriptors, loads, passes, outputs and faults. -/

namespace Sys2Proof.Machine

/-! ### Pass descriptors (R106) -/

/-- A field of a 64-byte descriptor at a byte offset. -/
def dsc (d off size : Nat) : Nat := bitsAt d (8 * off) (8 * size)
/-- MODE. -/
def pdMode (d : Nat) : Nat := dsc d 0 1
/-- IN_FMT. -/
def pdIn (d : Nat) : Nat := dsc d 1 1
/-- W_FMT. -/
def pdW (d : Nat) : Nat := dsc d 2 1
/-- OUT_FMT. -/
def pdOut (d : Nat) : Nat := dsc d 3 1
/-- ANCHOR. -/
def pdAnchor (d : Nat) : Nat := dsc d 4 1
/-- ACCUM. -/
def pdAccum (d : Nat) : Bool := d.testBit 40
/-- ARG. -/
def pdArg (d : Nat) : Bool := d.testBit 41
/-- ROUND. -/
def pdRound (d : Nat) : Nat := bitsAt d 42 2
/-- NONSAT. -/
def pdNonsat (d : Nat) : Bool := d.testBit 44
/-- W_SPACE: whether the weights lie in the slice. -/
def pdSlice (d : Nat) : Bool := d.testBit 45
/-- ROWS. -/
def pdRows (d : Nat) : Nat := dsc d 6 2
/-- K_COUNT. -/
def pdK (d : Nat) : Nat := dsc d 8 2
/-- N_COUNT. -/
def pdN (d : Nat) : Nat := dsc d 10 2
/-- W_STRIDE. -/
def pdWStride (d : Nat) : Nat := dsc d 12 4
/-- W_ADDR. -/
def pdWAddr (d : Nat) : Nat := dsc d 16 8
/-- W_SCALE_ADDR. -/
def pdWScale (d : Nat) : Nat := dsc d 52 4
/-- IN_SCALE_ADDR. -/
def pdInScale (d : Nat) : Nat := dsc d 56 4

/-- The format of a code; a reserved code is never reached (R503). -/
def fmtD (code : Nat) : Fmt := (fmtOfCode code).getD .int8

/-- Rate classes (R103): 0 for 4-bit, 1 for 8-bit, 2 for 16-bit. -/
def rateClass (inF wF : Fmt) : Nat :=
  if fmt4bit inF && fmt4bit wF then 0 else if fmt16bit inF || fmt16bit wF then 2 else 1

/-- The rate class of a descriptor. -/
def pdClass (d : Nat) : Nat := rateClass (fmtD (pdIn d)) (fmtD (pdW d))

/-- The cycle after the origin at which input row i has entered (R113). -/
def rowCycle (cls i : Nat) : Nat := if cls = 2 then 2 * i + 1 else i
/-- The streaming span S of a pass. -/
def pdSpan (d : Nat) : Nat := if pdClass d = 2 then 2 * pdRows d else pdRows d

/-- Bytes of a stream of n elements of a format (R77, R82). -/
def streamBytes (f : Fmt) (n : Nat) : Nat := if f = .pb4 then n / 32 * 18 else ceilDiv (n * fmtBits f) 8

/-- Element i of a tensor row given as its stream and its scale stream (R81, R83). -/
def rowVal (f : Fmt) (data scales i : Nat) : Val :=
  if f = .pb4 then pb4Val (streamElem data 144 (i / 32)) (i % 32)
  else if fmtIsMx f then mxVal f (streamElem data (fmtBits f) i) (streamElem scales 8 (i / 32))
  else elemVal f (streamElem data (fmtBits f) i)

/-- The width of a partition (R104). -/
def State.partWidth (s : State) (x : Nat) : Nat := 128 / s.threadCount x

/-- A descriptor of the array and MV table (R106). -/
def State.arrDesc (s : State) (x j : Nat) : Nat := s.tsNat x (s.rd F.ARR_DESC_BASE_BASE x + 64 * j) 64

/-! ### Loads (R114) -/

/-- The weight of position k of column n: as loaded, or a free value where no load has filled the register (log entry 20). -/
def Wts.val (w : Wts) (n k : Nat) : Val :=
  if n < w.nCount ∧ k < w.kCount then rowVal (fmtD w.fmt) (w.cols.getD n 0) (w.scales.getD n 0) k
  else elemVal (match fmtD w.fmt with | .pb4 => .mxE2m1 | f => f) (Config.unloadedWeight w.num n k).toNat

/-- The raw bits of a weight, for XORPOP (R109). -/
def Wts.raw (w : Wts) (n k : Nat) : Nat :=
  let b := fmtBits (fmtD w.fmt)
  if n < w.nCount ∧ k < w.kCount then streamElem (w.cols.getD n 0) b k
  else (Config.unloadedWeight w.num n k).toNat % 2 ^ b

/-- A load begins (R108, R114, R120): it reads its columns and scales; an uncorrectable read leaves it bad and traps. -/
def State.loadStart (s : State) (x k cyc j : Nat) (errs : List MemErr) : State :=
  let d := s.arrDesc x j
  let i := x * 4 + k
  let fmt := fmtD (pdW d)
  if pdK d = 0 ∨ pdN d = 0 then
    (s.wr F.ARR_STATUS_SHADOW_VALID i 1).updPart x k (fun p => { p with
      shadow := { p.shadow with cls := pdClass d, fmt := pdW d } })
  else
    let len := streamBytes fmt (pdK d)
    let sl := if fmtIsMx fmt then pdK d / 32 else 0
    let base : Nat := match s.decodeDpa false (pdWAddr d) with
      | .slice _ off => off
      | _ => 0
    let colAt (n : Nat) : Nat := (if pdSlice d then base else pdWAddr d) + n * pdWStride d
    let scaleAt (n : Nat) : Nat := pdWScale d + n * (pdK d / 32)
    let cols := (List.range (pdN d)).map (fun n =>
      leVal (if pdSlice d then s.dram x (colAt n) len else s.tsRead x (colAt n) len))
    let scales := (List.range (pdN d)).map (fun n => leVal (s.tsRead x (scaleAt n) sl))
    let w : Wts := ⟨(s.tile x).loads + 1, pdClass d, pdW d, pdK d, pdN d, cols, scales⟩
    let s1 := ((s.wr F.ARR_STATUS_LOADING i 1).wr F.ARR_STATUS_SHADOW_VALID i 0).updTile x (fun t => { t with
      loads := t.loads + 1 })
    let tsRanges := (if pdSlice d then [] else (List.range (pdN d)).map (fun n => (colAt n, len))) ++
      (if sl = 0 then [] else (List.range (pdN d)).map (fun n => (scaleAt n, sl)))
    let s2 := if pdSlice d then s1.tsErrs x (scaleAt 0) (pdN d * sl) (storeErrs errs)
      else tsRanges.foldl (fun a r => a.tsErrs x r.1 r.2 errs) s1
    let poison := tsRanges.findSome? (fun r => s2.firstPoison x r.1 r.2)
    let slice : State × Option Nat :=
      if pdSlice d then (List.range (pdN d)).foldl (fun a n =>
        let r := a.1.dramTouch x (colAt n) len 1 errs
        (r.1, match a.2 with | some c => some c | none => if r.2.isSome then some n else none)) (s2, none)
      else (s2, none)
    let bad := poison.isSome || slice.2.isSome
    let s3 := slice.1.updPart x k (fun p => { p with load := some ⟨cyc, w, pdSlice d, bad⟩ })
    let s4 := match poison with
      | some row => s3.trapOne x k 2 (rowBank row)
      | none => s3
    match slice.2 with
    | some n => s4.trapOne x k 0x27 n
    | none => s4

/-- A load completes; a slice load that ends late was held, and its pause is counted (R114, R128). -/
def State.loadDone (s : State) (x k : Nat) : State :=
  match (s.part x k).load with
  | none => s
  | some l =>
    if s.gclk < l.origin + 128 then s
    else
      let i := x * 4 + k
      let s1 := ((s.wr F.ARR_STATUS_LOADING i 0).wr F.ARR_STATUS_SHADOW_VALID i (bit !l.bad)).updPart x k (fun p => { p with
        load := none, shadow := if l.bad then p.shadow else l.w })
      let late := s.gclk - (l.origin + 128)
      let s2 := if l.slice && late != 0 then (s1.intrusion x late).sat F.ARR_CHECK_SLICE_PAUSES x 1 else s1
      s2.noteShift x k late

/-- SHADOW_LOAD_COMPLETE (R114). -/
def execShadowLoadComplete (t : Nat) (x : TileIx) (k : ThreadIx) (s : State) : Result := .next ((s.tick t).loadDone x k)

/-! ### Passes (R113) -/

/-- A pass begins (R105, R108, R113, R114): SWAP first, then its rows start to stream. -/
def State.passStart (s : State) (x k cyc j : Nat) (swap : Bool) : State :=
  let d := s.arrDesc x j
  let i := x * 4 + k
  let s1 :=
    if swap then ((s.wr F.ARR_STATUS_SHADOW_VALID i 0).wr F.ARR_STATUS_ACTIVE_VALID i 1).updPart x k (fun p => { p with
      active := p.shadow })
    else s
  let s2 := (s1.wr F.ARR_STATUS_DESC_INDEX i j).updPart x k (fun p => { p with streamEnd := cyc + pdSpan d })
  if pdRows d = 0 ∨ pdK d = 0 ∨ pdN d = 0 then s2.updPart x k (fun p => { p with streamEnd := cyc })
  else s2.updPart x k (fun p => { p with passes := p.passes ++ [⟨cyc, d, j, p.active, []⟩] })

/-- CMD of an array slot (R105). -/
def asCmd (w : Nat) : Nat := bitsAt w 0 4
/-- SWAP. -/
def asSwap (w : Nat) : Bool := w.testBit 4
/-- DESC_INDEX. -/
def asDesc (w : Nat) : Nat := bitsAt w 8 16
/-- LOAD_INDEX. -/
def asLoad (w : Nat) : Nat := bitsAt w 24 16

/-- An array slot is taken up. -/
def State.arrayRun (s : State) (x cmd : Nat) (errs : List MemErr) : State :=
  match s.takeSlot x (fun sl => sl.kind == 0 && asCmd sl.word == cmd) with
  | none => s
  | some (sl, s1) =>
    let s2 := if cmd = 1 then s1 else s1.passStart x sl.k sl.cyc (asDesc sl.word) (asSwap sl.word)
    if cmd = 2 then s2 else s2.loadStart x sl.k sl.cyc (asLoad sl.word) errs

/-- LOAD (R114). -/
def execArrayLoad (t : Nat) (x : TileIx) (errs : List MemErr) (s : State) : Result := .next ((s.tick t).arrayRun x 1 errs)
/-- PASS (R113). -/
def execArrayPass (t : Nat) (x : TileIx) (s : State) : Result := .next ((s.tick t).arrayRun x 2 [])
/-- PASS_LOAD (R105). -/
def execArrayPassLoad (t : Nat) (x : TileIx) (errs : List MemErr) (s : State) : Result := .next ((s.tick t).arrayRun x 3 errs)

/-! ### Outputs (R109 to R111) -/

/-- The exact term of a mode (R109), with NAN_MADE for an invalid operation. -/
def modeTerm (mode : Nat) (a b : Val) : Val × Flags :=
  match mode with
  | 0 => mulV a b
  | 1 => let d := addV a (negV b); let q := mulV d.1 d.1; (q.1, d.2 ||| q.2)
  | 2 => let d := addV a (negV b); (absV d.1, d.2)
  | _ => addV a b

/-- The best of a list of terms for MINPLUS or MAXPLUS: NaN if any is, and the smallest position among equals (R110). -/
def bestTerm (wantMin : Bool) (ts : List Val) : Val × Nat :=
  if ts.any Val.isNan then (.nan, 0)
  else (List.range ts.length).foldl (fun b k =>
    let v := ts.getD k .nan
    if k = 0 then (v, 0)
    else if (if wantMin then ltV v b.1 else ltV b.1 v) then (v, k) else b) (.nan, 0)

/-- The rounding of a ROUND field (R106). -/
def roundOf (r : Nat) : RMode := if r = 0 then .rne else .rtz

/-- A value converted once out of LS128 or an exact sum, a zero giving +0 (R94). -/
def outConv (f : Fmt) (round : Nat) (nonsat : Bool) (v : Val) : Nat × Flags :=
  let v' := match v with
    | .fin _ 0 e => Val.fin false 0 e
    | w => w
  match fmtFloat f with
  | some ff => convFloat ff nonsat (roundOf round) v'
  | none => convInt (fmtBits f) (roundOf round) v'

/-- What one output is before it is written: its bytes as a number, the sum if it is LS128, the index under ARG, its flags. -/
structure OutVal where
  bits : Nat
  acc : Option LsAcc
  index : Nat
  flags : Flags
deriving DecidableEq, Repr

/-- An LS128 sum of terms at an anchor, with the ACC value as one more exact term under ACCUM (R91, R111). -/
def lsSum (exp : Nat) (terms : List Val) (acc : Option (Int × Bool)) : LsAcc :=
  let a := terms.foldl (fun a v => a.addTerm exp v) LsAcc.zero
  match acc with
  | some (f, nf) => if nf then { a with nf := true } else a.addInt f
  | none => a

/-- An LS128 sum as an output in OUT_FMT. -/
def lsOut (f : Fmt) (round : Nat) (nonsat : Bool) (exp : Nat) (a : LsAcc) : OutVal :=
  let fl := if a.inexact then flLsInexact else 0
  if f = .ls128 then ⟨wrapBits 128 a.f, some a, 0, fl⟩
  else let r := outConv f round nonsat (lsVal exp a.nf a.f); ⟨r.1, some a, 0, r.2 ||| fl⟩

/-- The address of ACC's value of an output. -/
def pdAccAt (d i n eb : Nat) : Nat := dsc d 40 4 + i * dsc d 36 4 + n * eb
/-- Side words per output row. -/
def pdSides (d : Nat) : Nat := ceilDiv (pdN d) 32

/-- The output y[i][n] of a pass (R109 to R111). -/
def State.arrayOut (s : State) (x : Nat) (p : Pass) (i n : Nat) : OutVal :=
  let d := p.desc
  let inF := fmtD (pdIn d)
  let kc := pdK d
  let row := leVal (s.tsRead x (dsc d 24 4 + i * dsc d 28 4) (streamBytes inF kc))
  let scales := if fmtIsMx inF then leVal (s.tsRead x (pdInScale d + i * (kc / 32)) (kc / 32)) else 0
  let outF := fmtD (pdOut d)
  let mode := pdMode d
  if mode = 5 then
    let b := fmtBits inF
    let sum := (List.range kc).foldl (fun a k => a + popCount b (streamElem row b k ^^^ p.w.raw n k)) 0
    let acc := if pdAccum d then s.tsNat x (pdAccAt d i n 4) 4 else 0
    ⟨(sum + acc) % 2 ^ 32, none, 0, 0⟩
  else
    let ts := (List.range kc).map (fun k => modeTerm mode (rowVal inF row scales k) (p.w.val n k))
    let vals := ts.map (fun t => t.1)
    let fl := ts.foldl (fun a t => a ||| t.2) 0
    if mode < 3 then
      if pdClass d = 2 then
        let t := fpTree 7 ((List.range 128).map (fun k => if k < kc then some (vals.getD k .nan) else none))
        let r := if pdAccum d then (let q := ffAdd ffFp32 (s.tsNat x (pdAccAt d i n 4) 4) t.1; (q.1, q.2 ||| t.2)) else t
        let o := if outF = .fp32 then (r.1, 0) else convFloat ffBf16 (pdNonsat d) (roundOf (pdRound d)) (ffDecode ffFp32 r.1)
        ⟨o.1, none, 0, fl ||| r.2 ||| o.2⟩
      else
        let side := sideOf (s.tsNat x (dsc d 48 4 + 8 * (i * pdSides d + n / 32)) 8)
        let exp := if pdAccum d then side.exp else pdAnchor d
        let acc := if pdAccum d then some (lsF (s.tsNat x (pdAccAt d i n 16) 16), side.nf.testBit (n % 32)) else none
        let o := lsOut outF (pdRound d) (pdNonsat d) exp (lsSum exp vals acc)
        { o with flags := o.flags ||| fl }
    else
      let b := bestTerm (mode == 3) vals
      let idx := if b.1.isNan then 0xFFFFFFFF else (dsc d 60 4 + b.2) % 2 ^ 32
      let accIdx := s.tsNat x (dsc d 48 4 + 4 * (i * pdN d + n)) 4
      if outF = .ls128 then
        let side := sideOf (s.tsNat x (dsc d 48 4 + 8 * (i * pdSides d + n / 32)) 8)
        if pdAccum d then
          let r := LsAcc.addTerm side.exp LsAcc.zero b.1
          let f := lsF (s.tsNat x (pdAccAt d i n 16) 16)
          let nf := r.nf || side.nf.testBit (n % 32)
          let g := if (if mode = 3 then decide (r.f < f) else decide (f < r.f)) then r.f else f
          let o := lsOut .ls128 0 false side.exp { r with f := g, nf := nf }
          { o with flags := o.flags ||| fl }
        else
          let o := lsOut .ls128 0 false (pdAnchor d) (LsAcc.addTerm (pdAnchor d) LsAcc.zero b.1)
          { o with flags := o.flags ||| fl }
      else
        let c := outConv .fp32 (pdRound d) (pdNonsat d) b.1
        if pdAccum d then
          let a := s.tsNat x (pdAccAt d i n 4) 4
          let va := ffDecode ffFp32 a
          let vc := ffDecode ffFp32 c.1
          if va.isNan || vc.isNan then ⟨ffNan ffFp32, none, 0xFFFFFFFF, fl ||| c.2⟩
          else if (if mode = 3 then ltV vc va else ltV va vc) then ⟨c.1, none, idx, fl ||| c.2⟩
          else if (if mode = 3 then ltV va vc else ltV vc va) then ⟨a, none, accIdx, fl ||| c.2⟩
          else ⟨a, none, min accIdx idx, fl ||| c.2⟩
        else ⟨c.1, none, idx, fl ||| c.2⟩

/-- Bytes of one output of a format. -/
def outBytes (f : Fmt) : Nat := fmtBits f / 8

/-- The side word of a block of a row: ANCHOR or ACC's EXP, and the INEXACT and NF_MASK bits of ACC and of every column
(R90, R111). -/
def State.arraySide (s : State) (x : Nat) (p : Pass) (i b : Nat) : Side :=
  let d := p.desc
  let old := sideOf (s.tsNat x (dsc d 48 4 + 8 * (i * pdSides d + b)) 8)
  let cols := (List.range 32).filter (fun v => decide (32 * b + v < pdN d))
  let outs := cols.map (fun v => ((s.arrayOut x p i (32 * b + v)).acc.getD LsAcc.zero, v))
  let acc := pdAccum d
  { exp := if acc then old.exp else pdAnchor d,
    inexact := (acc && old.inexact) || outs.any (fun o => o.1.inexact),
    nf := outs.foldl (fun m o => m ||| (bit o.1.nf <<< o.2)) (if acc then old.nf else 0) }

/-- Every pass and load of a partition abandoned, and its weights invalid (R119, R120). -/
def State.abandon (s : State) (x k : Nat) : State :=
  let i := x * 4 + k
  (((s.wr F.ARR_STATUS_ACTIVE_VALID i 0).wr F.ARR_STATUS_SHADOW_VALID i 0).wr F.ARR_STATUS_LOADING i 0).updPart x k
    (fun p => { p with passes := [], load := none })

/-- An output is written at its time (R113, R120). -/
def State.outputRun (s : State) (x k pi i n : Nat) (errs : List MemErr) : State :=
  match (s.part x k).passes[pi]? with
  | none => s
  | some p =>
    let d := p.desc
    let due := p.origin + rowCycle (pdClass d) i + n + 137
    if pdRows d ≤ i ∨ pdN d ≤ n ∨ p.done.contains (i * 128 + n) ∨ s.gclk < due then s
    else
      let inF := fmtD (pdIn d)
      let eb := outBytes (fmtD (pdOut d))
      let ranges := [(dsc d 24 4 + i * dsc d 28 4, streamBytes inF (pdK d))] ++
        (if fmtIsMx inF then [(pdInScale d + i * (pdK d / 32), pdK d / 32)] else []) ++
        (if pdAccum d then [(pdAccAt d i n eb, eb)] else [])
      let s0 := ranges.foldl (fun a r => a.tsErrs x r.1 r.2 errs) s
      match ranges.findSome? (fun r => s0.firstPoison x r.1 r.2) with
      | some row => (s0.abandon x k).trapOne x k 2 (rowBank row)
      | none =>
        let o := s.arrayOut x p i n
        if (match o.acc with | some a => a.overflows | none => false) then (s0.abandon x k).trapOne x k 5 (n * 16)
        else
          let s1 := s0.tsWrite x (dsc d 32 4 + i * dsc d 36 4 + n * eb) (leBytes eb o.bits)
          let s2 := if pdArg d then s1.tsWrite x (dsc d 44 4 + 4 * (i * pdN d + n)) (leBytes 4 o.index) else s1
          let s3 := if fmtD (pdOut d) = .ls128 ∧ (n % 32 = 31 ∨ n + 1 = pdN d) then
              s2.tsWrite x (dsc d 44 4 + 8 * (i * pdSides d + n / 32)) (leBytes 8 (sideVal (s.arraySide x p i (n / 32))))
            else s2
          let q := { p with done := (i * 128 + n) :: p.done }
          let s4 := (s3.setFlags x k o.flags).updPart x k (fun g => { g with
            passes := if q.done.length = pdRows d * pdN d then g.passes.erase p else g.passes.set pi q })
          s4.noteShift x k (s.gclk - due)

/-- ARRAY_OUTPUT (R113). -/
def execArrayOutput (t : Nat) (x : TileIx) (k : ThreadIx) (pass row col : Nat) (errs : List MemErr) (s : State) : Result :=
  .next ((s.tick t).outputRun x k pass row col errs)

/-! ### Faults -/

/-- Whether a pass or a load of a partition is in flight. -/
def State.partBusy (s : State) (x k : Nat) : Bool := !(s.part x k).passes.isEmpty || (s.part x k).load.isSome

/-- ARRAY_PASS_FAULT (R119, R133): cause 0 a residue mismatch, 1 weight parity; column 0xFF where only a load is in flight. -/
def execArrayPassFault (t : Nat) (x : TileIx) (k : ThreadIx) (col : Nat) (parity : Bool) (s : State) : Result :=
  let s1 := s.tick t
  if s1.partBusy x k then
    let c := if (s1.part x k).passes.isEmpty then 0xFF else col % 256
    let s2 := s1.sat (if parity then F.ARR_CHECK_PARITY_FAULTS else F.ARR_CHECK_RESIDUE_FAULTS) x 1
    .next ((s2.abandon x k).trapOne x k 3 (c + 256 * bit parity))
  else .next s1

/-- WEIGHT_PARITY_IDLE (R505). -/
def execWeightParityIdle (t : Nat) (x : TileIx) (k : ThreadIx) (s : State) : Result :=
  let s1 := s.tick t
  if s1.partBusy x k then .next s1
  else
    let i := x.val * 4 + k.val
    .next ((((s1.wr F.ARR_STATUS_ACTIVE_VALID i 0).wr F.ARR_STATUS_SHADOW_VALID i 0).sat F.ARR_CHECK_PARITY_FAULTS x 1).noteFw
      3 i)

/-- SHARED_CONTROL_FAULT (R122). -/
def execSharedControlFault (t : Nat) (x : TileIx) (s : State) : Result :=
  let s1 := s.tick t
  let s2 := (List.range (s1.threadCount x)).foldl (fun a k => a.abandon x k) s1
  .next (s2.trapAll x 3 (0xFF + 256 * 2))

end Sys2Proof.Machine
end

