-- ==== Sys2Proof/Machine/MvPath.lean ====
section
/-! DEFINITION. The MV path (R124 to R129): descriptors, the MV arrangement, chunk reads and group outputs. -/

namespace Sys2Proof.Machine

/-- W_FMT of an MV descriptor (R126). -/
def mdW (d : Nat) : Fmt := fmtD (dsc d 2 1)
/-- X_FMT. -/
def mdX (d : Nat) : Fmt := fmtD (dsc d 1 1)
/-- VECTORS. -/
def mdVectors (d : Nat) : Nat := dsc d 6 1
/-- K. -/
def mdK (d : Nat) : Nat := dsc d 8 4
/-- N. -/
def mdN (d : Nat) : Nat := dsc d 12 4
/-- Outputs of a group (R125): 32 for 4-bit weights, 16 for 8-bit ones. -/
def mvG (f : Fmt) : Nat := if fmt4bit f then 32 else 16
/-- Element chunks one header chunk serves (R125); 0 for plain formats. -/
def mvH (f : Fmt) : Nat := if f = .pb4 then 8 else if f = .mxE2m1 then 16 else if fmtIsMx f then 32 else 0
/-- Chunks of one group of E element chunks. -/
def mvGroupChunks (f : Fmt) (e : Nat) : Nat := e + (if mvH f = 0 then 0 else ceilDiv e (mvH f))
/-- The streaming span C of a descriptor (R127). -/
def mdSpan (d : Nat) : Nat := mdN d / mvG (mdW d) * mvGroupChunks (mdW d) (mdK d / 32)

/-- Where element chunk j of a group lies among the group's chunks. -/
def mvElemChunk (f : Fmt) (j : Nat) : Nat := if mvH f = 0 then j else j / mvH f * (mvH f + 1) + 1 + j % mvH f

/-- The value of position k of output o of a group, from the group's chunks (R125). -/
def mvWeight (f : Fmt) (chunks : List Nat) (o k : Nat) : Val :=
  let j := k / 32
  let c := chunks.getD (mvElemChunk f j) 0
  let pos := o * 32 + k % 32
  let raw := if fmt4bit f then streamElem c 4 pos else streamElem c 8 pos % 2 ^ fmtBits f
  if mvH f = 0 then elemVal f raw
  else
    let head := chunks.getD (j / mvH f * (mvH f + 1)) 0
    let e := j % mvH f * mvG f + o
    if f = .pb4 then
      let hd := streamElem head 16 e
      pb4Val ((raw <<< (4 * (k % 32))) + (hd <<< 128)) (k % 32)
    else mxVal f raw (streamElem head 8 e)

/-- MV_START takes up its slot (R124, R126, R127). -/
def State.mvStart (s : State) (x : Nat) : State :=
  match s.takeSlot x (fun sl => sl.kind == 1 && bitsAt sl.word 0 4 == 1) with
  | none => s
  | some (sl, s1) =>
    let j := bitsAt sl.word 4 16
    let d := s.arrDesc x j
    let s2 := (s1.wr F.ARR_MV_STATUS_DESC_INDEX x j).wr F.ARR_MV_STATUS_THREAD x sl.k
    if mdVectors d = 0 ∨ mdK d = 0 ∨ mdN d = 0 then s2
    else s2.updTile x (fun t => { t with
      mv := t.mv ++ [⟨sl.k, j, d, sl.cyc, none, 0, 0, []⟩], mvEnd := sl.cyc + mdSpan d })

/-- MV_START (R124). -/
def execMvStart (t : Nat) (x : TileIx) (s : State) : Result := .next ((s.tick t).mvStart x)

/-- The slice offset of an own-slice address. -/
def State.ownOff (s : State) (dpa : Nat) : Nat :=
  match s.decodeDpa false dpa with
  | .slice _ off => off
  | _ => 0

/-- An MV descriptor changed or, with none, abandoned or complete. -/
def State.putMv (s : State) (x : Nat) (old : MvRun) (new : Option MvRun) : State :=
  s.updTile x (fun t => { t with mv := match new with
    | some r => t.mv.map (fun m => if m = old then r else m)
    | none => t.mv.erase old })

/-- A held read of the MV path or a load goes on: the pause is counted (R128). -/
def State.slicePause (s : State) (x : Nat) (held : Option Nat) : State :=
  match held with
  | some h => (s.intrusion x (s.gclk - h)).sat F.ARR_CHECK_SLICE_PAUSES x 1
  | none => s

/-- The MV path reads its next chunk, unless a refresh or a bank unit holds it (R127 to R129, R187). -/
def State.mvChunk (s : State) (x : Nat) (errs : List MemErr) : State :=
  match (s.tile x).mv.find? (fun m => decide (m.chunk < mdSpan m.desc)) with
  | none => s
  | some m =>
    let off := s.ownOff (dsc m.desc 16 8) + 512 * m.chunk
    if s.gclk < m.origin + m.chunk then s
    else if s.ownHeld x off 512 then
      s.putMv x m (some { m with held := some (m.held.getD s.gclk) })
    else
      let r := (s.slicePause x m.held).dramTouch x off 512 2 errs
      match r.2 with
      | some _ => (r.1.putMv x m none).trapOne x m.k 0x27 (min m.chunk 0x7FFF)
      | none => (r.1.putMv x m (some { m with
          held := none, chunk := m.chunk + 1, data := m.data ++ [leVal (s.dram x off 512)] })).noteShift
          x 4 (s.gclk - (m.origin + m.chunk))

/-- MV_CHUNK_READ (R127). -/
def execMvChunkRead (t : Nat) (x : TileIx) (errs : List MemErr) (s : State) : Result := .next ((s.tick t).mvChunk x errs)

/-- The sum of output o of the group in hand for vector v, and ACC's side word (R91, R111). -/
def State.mvSum (s : State) (x : Nat) (m : MvRun) (v o : Nat) : LsAcc × Nat × Flags :=
  let d := m.desc
  let f := mdX d
  let w := mdW d
  let kc := mdK d
  let n := m.group * mvG w + o
  let row := leVal (s.tsRead x (dsc d 24 4 + v * dsc d 28 4) (streamBytes f kc))
  let scales := if fmtIsMx f then leVal (s.tsRead x (dsc d 32 4 + v * kc / 32) (kc / 32)) else 0
  let chunks := m.data.take (mvGroupChunks w (kc / 32))
  let side := sideOf (s.tsNat x (dsc d 52 4 + 8 * v * mdN d / 32 + 8 * (n / 32)) 8)
  let exp := if pdAccum d then side.exp else dsc d 4 1
  let acc := if pdAccum d then
      some (lsF (s.tsNat x (dsc d 44 4 + v * dsc d 40 4 + 16 * n) 16), side.nf.testBit (n % 32)) else none
  let ts := (List.range kc).map (fun k => mulV (rowVal f row scales k) (mvWeight w chunks o k))
  (lsSum exp (ts.map (fun t => t.1)) acc, exp, ts.foldl (fun a t => a ||| t.2) 0)

/-- The outputs of the group in hand are written (R127, R129). -/
def State.mvGroup (s : State) (x : Nat) (errs : List MemErr) : State :=
  match (s.tile x).mv with
  | [] => s
  | m :: _ =>
    let d := m.desc
    let w := mdW d
    let gc := mvGroupChunks w (mdK d / 32)
    let due := m.origin + (m.group + 1) * gc - 1 + 124
    if m.chunk < (m.group + 1) * gc ∨ s.gclk < due then s
    else
      let g := mvG w
      let f := fmtD (dsc d 3 1)
      let eb := outBytes f
      let vs := List.range (mdVectors d)
      let n0 := m.group * g
      let ranges := (vs.map (fun v => [(dsc d 24 4 + v * dsc d 28 4, streamBytes (mdX d) (mdK d))] ++
        (if fmtIsMx (mdX d) then [(dsc d 32 4 + v * mdK d / 32, mdK d / 32)] else []) ++
        (if pdAccum d then [(dsc d 44 4 + v * dsc d 40 4 + 16 * n0, 16 * g)] else []))).flatten
      let s0 := ranges.foldl (fun a r => a.tsErrs x r.1 r.2 errs) s
      match ranges.findSome? (fun r => s0.firstPoison x r.1 r.2) with
      | some row => (s0.putMv x m none).trapOne x m.k 2 (rowBank row)
      | none =>
        let sums := vs.map (fun v => (List.range g).map (fun o => s.mvSum x m v o))
        match vs.find? (fun v => (sums.getD v []).any (fun a => a.1.overflows)) with
        | some v => (s0.putMv x m none).trapOne x m.k 5 (1 + 16 * v)
        | none =>
          let s1 := vs.foldl (fun a v =>
            let row := sums.getD v []
            let outs := row.map (fun q => lsOut f (pdRound d) (pdNonsat d) q.2.1 q.1)
            let a1 := a.tsWrite x (dsc d 36 4 + v * dsc d 40 4 + n0 * eb) ((outs.map (fun o => leBytes eb o.bits)).flatten)
            let a2 := a1.setFlags x m.k ((outs.foldl (fun z o => z ||| o.flags) 0) ||| (row.foldl (fun z q => z ||| q.2.2) 0))
            if f = .ls128 then
              let at0 := dsc d 48 4 + 8 * v * mdN d / 32 + 8 * (n0 / 32)
              let accSide := sideOf (s.tsNat x (dsc d 52 4 + 8 * v * mdN d / 32 + 8 * (n0 / 32)) 8)
              let first := if n0 % 32 = 0 then (if pdAccum d then accSide else ⟨0, false, 0⟩) else sideOf (a.tsNat x at0 8)
              let sd : Side := ⟨(row.head?.map (fun q => q.2.1)).getD 0,
                first.inexact || row.any (fun q => q.1.inexact),
                (List.range g).foldl (fun z o => z ||| (bit ((row.getD o (LsAcc.zero, 0, 0)).1.nf) <<< (n0 % 32 + o))) first.nf⟩
              a2.tsWrite x at0 (leBytes 8 (sideVal sd))
            else a2) s0
          let done := decide (mdN d ≤ n0 + g)
          (s1.putMv x m (if done then none else some { m with group := m.group + 1, data := m.data.drop gc })).noteShift x 4
            (s.gclk - due)

/-- MV_GROUP_OUTPUT (R127). -/
def execMvGroupOutput (t : Nat) (x : TileIx) (errs : List MemErr) (s : State) : Result := .next ((s.tick t).mvGroup x errs)

/-- MV_FAULT (R129): a residue mismatch abandons the descriptor in hand and traps its thread with cause 3 and the vector. -/
def execMvFault (t : Nat) (x : TileIx) (vec : Fin 16) (s : State) : Result :=
  let s1 := s.tick t
  match (s1.tile x).mv with
  | [] => .next s1
  | m :: _ => .next (((s1.sat F.ARR_CHECK_RESIDUE_FAULTS x 1).putMv x m none).trapOne x m.k 3 (vec.val + 256 * 3))

end Sys2Proof.Machine
end

