-- ==== Sys2Proof/Machine/Kv.lean ====
section
/-! DEFINITION. The key-value store (R134 to R140, R150, R155 to R158, R219): heads, page tables, length tables, free chains,
eviction and appending. -/

namespace Sys2Proof.Machine

/-- A register copy index of a head. -/
def hIx (x h : Nat) : Nat := x * 4 + h

/-- Head dimension D (R159). -/
def State.kvD (s : State) (x h : Nat) : Nat := 64 * 2 ^ s.rd F.KVS_CFG_DIM (hIx x h)
/-- GROUP. -/
def State.kvGroup (s : State) (x h : Nat) : Nat := s.rd F.KVS_CFG_GROUP (hIx x h)
/-- Chunks of a page's K plane (R136). -/
def kChunks (fmt d : Nat) : Nat :=
  if fmt = 0x08 then d / 8 + 4 else if fmt = 0x18 ∨ fmt = 0x0C then d / 16 + 2 else d / 8
/-- P_c (R136). -/
def State.kvPc (s : State) (x h : Nat) : Nat :=
  kChunks (s.rd F.KVS_CFG_K_FMT (hIx x h)) (s.kvD x h) + s.kvD x h / 8
/-- POOL_PAGES. -/
def State.kvPool (s : State) (x h : Nat) : Nat := s.rd F.KVS_POOL_POOL_PAGES (hIx x h)
/-- No slot. -/
def noSlot : Nat := 0xFFFFF
/-- The slice offset of a page slot (R135). -/
def State.pageOff (s : State) (x h i : Nat) : Nat :=
  s.ownOff (s.rd F.KVS_POOL_POOL_BASE (hIx x h)) + i * (s.kvPc x h * 512)

/-- A page-table entry (R137). -/
structure PtE where
  lpage : Nat
  fill : Nat
  valid : Bool
  nxt : Nat
  anchor : Bool
  pin : Bool
  due : Bool
  entry : Nat
  score : Nat
deriving DecidableEq, Repr

/-- A page-table entry from its 16 bytes. -/
def ptOf (n : Nat) : PtE :=
  ⟨bitsAt n 0 24, bitsAt n 24 7, n.testBit 31, bitsAt n 32 20, n.testBit 56, n.testBit 57, n.testBit 58, bitsAt n 64 16,
    bitsAt n 96 32⟩
/-- The 16 bytes of a page-table entry. -/
def ptVal (e : PtE) : Nat :=
  e.lpage % 2 ^ 24 + ((e.fill % 128) <<< 24) + (bit e.valid <<< 31) + ((e.nxt % 2 ^ 20) <<< 32) + (bit e.anchor <<< 56) +
    (bit e.pin <<< 57) + (bit e.due <<< 58) + ((e.entry % 65536) <<< 64) + ((e.score % 2 ^ 32) <<< 96)

/-- A length-table entry (R139). -/
structure LtE where
  length : Nat
  new : Nat
  ctl : Nat
  pin : Nat
  window : Nat
  first : Nat
  last : Nat
  pages : Nat
  tag : Nat
  status : Nat
  lost : Nat
deriving DecidableEq, Repr

/-- A length-table entry from its 32 bytes. -/
def ltOf (n : Nat) : LtE :=
  ⟨bitsAt n 0 24, bitsAt n 32 16, bitsAt n 48 8, bitsAt n 56 8, bitsAt n 64 24, bitsAt n 96 20, bitsAt n 128 20,
    bitsAt n 160 20, bitsAt n 192 32, bitsAt n 224 16, bitsAt n 240 16⟩
/-- The 32 bytes of a length-table entry. -/
def ltVal (e : LtE) : Nat :=
  e.length % 2 ^ 24 + ((e.new % 65536) <<< 32) + ((e.ctl % 256) <<< 48) + ((e.pin % 256) <<< 56) + ((e.window % 2 ^ 24) <<< 64) +
    ((e.first % 2 ^ 20) <<< 96) + ((e.last % 2 ^ 20) <<< 128) + ((e.pages % 2 ^ 20) <<< 160) + ((e.tag % 2 ^ 32) <<< 192) +
    ((e.status % 65536) <<< 224) + ((e.lost % 65536) <<< 240)

/-- POLICY: 0 EVICT, 1 STALL, 2 FAULT. -/
def LtE.policy (e : LtE) : Nat := bitsAt e.ctl 0 2
/-- POOL_EVICT. -/
def LtE.poolEvict (e : LtE) : Bool := e.ctl.testBit 2
/-- MODE CONTEXT. -/
def LtE.context (e : LtE) : Bool := e.ctl.testBit 3
/-- WINDOWED. -/
def LtE.windowed (e : LtE) : Bool := e.ctl.testBit 4
/-- RELEASE. -/
def LtE.release (e : LtE) : Bool := e.ctl.testBit 5
/-- Whether a raw entry holds a reserved encoding or bit (R139, R142). -/
def ltIllegal (n : Nat) : Bool :=
  let e := ltOf n
  bitsAt n 24 8 != 0 || bitsAt n 54 2 != 0 || e.policy == 3 || bitsAt n 88 8 != 0 || bitsAt n 116 12 != 0 ||
    bitsAt n 148 12 != 0 || bitsAt n 180 12 != 0 || decide (4096 < e.new) || decide (16777215 < e.length + e.new)

/-- Pages an entry needs (R145). -/
def pagesNeeded (e : LtE) : Nat :=
  if e.context ∨ e.new = 0 then 0
  else if e.length = 0 then ceilDiv e.new 64
  else (e.length + e.new - 1) / 64 - (e.length - 1) / 64

/-- Address of a page-table entry. -/
def State.ptAt (s : State) (x h i : Nat) : Nat := s.rd F.KVS_TABLES_PT_BASE (hIx x h) + 16 * i
/-- A page-table entry read. -/
def State.pt (s : State) (x h i : Nat) : PtE := ptOf (s.tsNat x (s.ptAt x h i) 16)

/-- The work of a step in hand: the state, the length table's entries, the slots whose entries changed, the slots appended
to, the slots visited by rows that completed, and, once the step has failed, its trap's code and INFO. -/
structure Work where
  s : State
  es : List LtE
  changed : List Nat
  fresh : List Nat
  visited : List Nat
  fail : Option (Nat × Nat)
deriving DecidableEq, Repr

/-- A page-table entry written. -/
def Work.putPt (w : Work) (x h i : Nat) (e : PtE) : Work :=
  { w with
    s := w.s.tsWrite x (w.s.ptAt x h i) (leBytes 16 (ptVal e)),
    changed := if w.changed.contains i then w.changed else w.changed ++ [i] }

/-- An entry of the length table in hand. -/
def Work.e (w : Work) (i : Nat) : LtE := w.es.getD i ⟨0, 0, 0, 0, 0, noSlot, noSlot, 0, 0, 0, 0⟩
/-- An entry changed. -/
def Work.putE (w : Work) (i : Nat) (e : LtE) : Work := { w with es := w.es.set i e }

/-- Whether marks for the mirror engine are made (R158). -/
def State.kvMirror (s : State) (x h : Nat) : Bool := s.rd F.KVS_CFG_MIRROR (hIx x h) == 1

/-- The slots of a sequence from a slot on; none where a check of R138 fails. -/
def State.chainFrom (s : State) (x h e : Nat) : Nat → Nat → Nat → Option (List Nat)
  | 0, slot, _ => if slot = noSlot then some [] else none
  | n + 1, slot, above =>
    if slot = noSlot then some []
    else if s.kvPool x h ≤ slot then none
    else
      let p := s.pt x h slot
      if p.entry ≠ e ∨ p.lpage < above then none
      else match s.chainFrom x h e n p.nxt (p.lpage + 1) with
        | some r => some (slot :: r)
        | none => none

/-- The resident slots of an entry, in ascending LPAGE. -/
def Work.slots (w : Work) (x h i : Nat) : Option (List Nat) :=
  let e := w.e i
  w.s.chainFrom x h i e.pages e.first 0

/-- A slot returned to the free chain (R137; log entry 25 for the fields of a free entry). -/
def Work.freeSlot (w : Work) (x h i : Nat) : Work :=
  let ix := hIx x h
  let w1 := w.putPt x h i ⟨0, 0, false, w.s.rd F.KVS_STATE_FREE_HEAD ix, false, false, w.s.kvMirror x h, 0, 0⟩
  { w1 with s := (w1.s.wr F.KVS_STATE_FREE_HEAD ix i).wr F.KVS_STATE_FREE_COUNT ix (w1.s.rd F.KVS_STATE_FREE_COUNT ix + 1) }

/-- Where the share accumulator of a pool slot lies in the score stores, as unit × 16,384 + entry (R219). -/
def State.scoreKey (s : State) (x h i : Nat) : Nat :=
  let live := (List.range 64).filter (fun u => !(s.tile x).facts.bkuRetired.testBit u)
  let n := live.length
  if n = 0 then 2 ^ 20 + h * 4096 + i else live.getD (i % n) 0 * 16384 + h * 4096 + i / n

/-- An accumulator set. -/
def State.setScore (s : State) (x key v : Nat) : State := s.updTile x (fun t => { t with score := Tab.put 0 t.score key v })

/-- A page of an entry evicted for entry `by0` (R150). -/
def Work.evict (w : Work) (x h i slot by0 : Nat) : Work :=
  let e := w.e i
  match w.slots x h i with
  | none => w
  | some ch =>
    let p := w.s.pt x h slot
    let prev := (ch.takeWhile (fun q => q != slot)).getLast?
    let w1 := match prev with
      | some q => w.putPt x h q { w.s.pt x h q with nxt := p.nxt }
      | none => w
    let e1 := { e with
      first := if prev.isNone then p.nxt else e.first,
      last := if e.last = slot then prev.getD noSlot else e.last,
      pages := e.pages - 1, lost := satAdd 16 e.lost 1,
      status := e.status ||| (if i = by0 then 4 else 8) }
    let w2 := (w1.putE i e1).freeSlot x h slot
    { w2 with
      s := (w2.s.sat F.KVS_COUNT_EVICTIONS (hIx x h) 1).setScore x (w2.s.scoreKey x h slot) 0,
      visited := w2.visited.filter (fun q => q != slot) }

/-- Whether a page may not be chosen as a victim (R150). -/
def Work.pinned (w : Work) (slot : Nat) (p : PtE) (f : LtE) : Bool :=
  let last : Int := ((f.length : Int) - 1) / 64
  p.anchor || p.pin || decide (last - (bitsAt f.pin 4 4 : Nat) + 1 ≤ (p.lpage : Int)) || decide ((p.lpage : Int) = last) ||
    w.fresh.contains slot

/-- The score of a page as it is compared: NaN as 0 (R150). -/
def scoreVal (n : Nat) : Val := match ffDecode ffFp32 n with | .nan => .fin false 0 0 | v => v

/-- The tie key of a page (R150, R241). -/
def Work.tieKey (w : Work) (x h : Nat) (p : PtE) (tag : Nat) : Nat :=
  plgDraw w.s.seed (plgKey (Tab.get 0 w.s.headKeys (hIx x h)) tag p.lpage 0xFFFFFFFF)
    (w.s.rd F.KVS_COUNT_STEPS (hIx x h)) % 65536

/-- A candidate: its slot, its page, its owner. -/
abbrev Cand := Nat × PtE × Nat

/-- Whether candidate a goes before candidate b: (score, tie key, entry, lpage) in this order (R150). -/
def Work.before (w : Work) (x h : Nat) (a b : Cand) : Bool :=
  let va := scoreVal a.2.1.score
  let vb := scoreVal b.2.1.score
  if ltV va vb then true else if ltV vb va then false
  else
    let ta := w.tieKey x h a.2.1 (w.e a.2.2).tag
    let tb := w.tieKey x h b.2.1 (w.e b.2.2).tag
    if ta ≠ tb then decide (ta < tb)
    else if a.2.2 ≠ b.2.2 then decide (a.2.2 < b.2.2) else decide (a.2.1.lpage < b.2.1.lpage)

/-- The first of a list under an order. -/
def bestCand (lt : Cand → Cand → Bool) : List Cand → Option Cand
  | [] => none
  | c :: r => match bestCand lt r with
    | none => some c
    | some d => if lt d c then some d else some c

/-- The unpinned pages of an entry; none where its chain is malformed. -/
def Work.cands (w : Work) (x h i : Nat) : Option (List Cand) :=
  match w.slots x h i with
  | none => none
  | some ch => some ((ch.map (fun q => (q, w.s.pt x h q, i))).filter (fun c => !w.pinned c.1 c.2.1 (w.e i)))

/-- The victim for an entry: `none` where a chain is malformed, with the entry that holds it; otherwise the page, if there is
one (R150). -/
def Work.victim (w : Work) (x h i : Nat) : Except Nat (Option Cand) :=
  let e := w.e i
  match w.cands x h i with
  | none => .error i
  | some own =>
    let low : Int := (e.length : Int) - (e.window : Int) + 1
    let below := own.filter (fun c => e.windowed && decide ((64 * c.2.1.lpage + 63 : Int) < low))
    match bestCand (fun a b => decide (a.2.1.lpage < b.2.1.lpage)) below with
    | some c => .ok (some c)
    | none =>
      if own.isEmpty && e.poolEvict then
        let others := ((List.range w.es.length).filter (fun j => !(w.e j).release)).map (fun j => (j, w.cands x h j))
        match others.find? (fun o => o.2.isNone) with
        | some o => .error o.1
        | none => .ok (bestCand (w.before x h) ((others.map (fun o => o.2.getD [])).flatten))
      else .ok (bestCand (w.before x h) own)

/-- The page at the head of the free chain taken (R137, R138); none where a check fails. -/
def Work.takeFree (w : Work) (x h : Nat) : Option (Nat × Work) :=
  let ix := hIx x h
  let i := w.s.rd F.KVS_STATE_FREE_HEAD ix
  let p := w.s.pt x h i
  if w.s.kvPool x h ≤ i ∨ p.valid ∨ (p.nxt ≠ noSlot ∧ w.s.kvPool x h ≤ p.nxt) then none
  else some (i, { w with
    s := (w.s.wr F.KVS_STATE_FREE_HEAD ix p.nxt).wr F.KVS_STATE_FREE_COUNT ix (w.s.rd F.KVS_STATE_FREE_COUNT ix - 1) })

/-- A free page given to an entry as its next page (R137). -/
def Work.addPage (w : Work) (x h i : Nat) : Work :=
  match w.takeFree x h with
  | none => { w with fail := some (0x26, 0xFFFF) }
  | some (slot, w1) =>
    let e := w1.e i
    let lp : Nat := if e.last = noSlot then (if e.length = 0 then 0 else (e.length - 1) / 64 + 1)
      else max ((w1.s.pt x h e.last).lpage + 1) (if e.length = 0 then 0 else (e.length - 1) / 64 + 1)
    let w2 := w1.putPt x h slot ⟨lp, 0, true, noSlot, decide (lp < bitsAt e.pin 0 4), false, w1.s.kvMirror x h, i, 0⟩
    let w3 := if e.last = noSlot then w2 else w2.putPt x h e.last { w2.s.pt x h e.last with nxt := slot }
    let w4 := w3.putE i { e with first := if e.first = noSlot then slot else e.first, last := slot, pages := e.pages + 1 }
    { w4 with s := w4.s.setScore x (w4.s.scoreKey x h slot) 0 }

/-- What allocation comes to for an entry (R150). -/
inductive Alloc where
  | ok (w : Work)
  | stalled (w : Work)
  | noPage (w : Work)
  | bad (w : Work) (e : Nat)
deriving DecidableEq, Repr

/-- Pages evicted until n are free (R150). -/
def Work.makeRoom (w : Work) (x h i n : Nat) : Nat → Alloc
  | 0 => .noPage w
  | k + 1 =>
    if n ≤ w.s.rd F.KVS_STATE_FREE_COUNT (hIx x h) then .ok w
    else match w.victim x h i with
      | .error e => .bad w e
      | .ok none => .noPage w
      | .ok (some c) =>
        if (w.e i).policy = 1 then .stalled w
        else if (w.e i).policy = 2 then .noPage w
        else (w.evict x h c.2.2 c.1 i).makeRoom x h i n k

/-- n pages added. -/
def Work.addPages (w : Work) (x h i : Nat) : Nat → Work
  | 0 => w
  | n + 1 => if w.fail.isSome then w else (w.addPage x h i).addPages x h i n

/-- Bytes written by the tile's own attention work to its slice: DRAM, and the pier cache's copies (R179). -/
def State.ownWrite (s : State) (x off : Nat) (bs : Bytes) : State :=
  (s.dramWrite x off 0 bs).pchUpdate (sliceBase x + off) bs

/-- The slot of an entry that holds a page number. -/
def Work.slotOf (w : Work) (x h i lp : Nat) : Option Nat :=
  ((w.slots x h i).getD []).find? (fun q => (w.s.pt x h q).lpage == lp)

/-- The rounding of an appended row (R144, R241). -/
def appendModes (s : State) (x h tag p word n : Nat) (f : Fmt) : Nat → RMode :=
  if s.rd F.KVS_CFG_ROUND (hIx x h) = 1 then
    let k := srBits f
    let bits := plgBits k n 0 (plgKeymix s.seed (plgKey (Tab.get 0 s.headKeys (hIx x h)) tag p word))
    fun j => .sr (bits.getD j 0) k
  else fun _ => .rne

/-- A key row written to its page: 32 elements at a time, and its block headers (R125, R136). -/
def State.putKey (s : State) (x base : Nat) (f : Fmt) (d o : Nat) (r : CvtRes) : State :=
  let g := mvG f
  let gc := mvGroupChunks f (d / 32)
  (List.range (d / 32)).foldl (fun a j =>
    let ch := o / g * gc + mvElemChunk f j
    let w := if fmt4bit f then 4 else 8
    let piece := if f = .pb4 then streamElem r.data 144 j % 2 ^ 128 else bitsAt r.data (32 * w * j) (32 * w)
    let a1 := a.ownWrite x (base + 512 * ch + o % g * 4 * w) (leBytes (4 * w) piece)
    if mvH f = 0 then a1
    else
      let hd := base + 512 * (o / g * gc + j / mvH f * (mvH f + 1))
      let e := j % mvH f * g + o % g
      if f = .pb4 then a1.ownWrite x (hd + 2 * e) (leBytes 2 (streamElem r.data 144 j >>> 128))
      else a1.ownWrite x (hd + e) (leBytes 1 (streamElem (r.side.getD 0) 8 j))) s

/-- A value row written to its page: one byte of each output (R125, R136). -/
def State.putValue (s : State) (x base d k : Nat) (r : CvtRes) : State :=
  (List.range d).foldl (fun a n =>
    a.ownWrite x (base + 512 * (n / 16 * 2 + k / 32) + n % 16 * 32 + k % 32) (leBytes 1 (streamElem r.data 8 n))) s

/-- One new position appended (R144). -/
def Work.append (w : Work) (x h i p kAddr vAddr : Nat) : Work :=
  match w.slotOf x h i (p / 64) with
  | none => w
  | some slot =>
    let s := w.s
    let d := s.kvD x h
    let kf := fmtD (s.rd F.KVS_CFG_K_FMT (hIx x h))
    let vf := fmtD (s.rd F.KVS_CFG_V_FMT (hIx x h))
    let tag := (w.e i).tag
    let row (a : Nat) : List Val := (List.range d).map (fun j => ffDecode ffBf16 (s.tsNat x (a + 2 * j) 2))
    let rk := dstValues kf false (appendModes s x h tag p 0xFFFFFFF0 d kf) 0 (row kAddr)
    let rv := dstValues vf false (appendModes s x h tag p 0xFFFFFFF1 d vf) 0 (row vAddr)
    let base := s.pageOff x h slot
    let kc := kChunks (s.rd F.KVS_CFG_K_FMT (hIx x h)) d
    let s1 := (s.putKey x base kf d (p % 64) rk).putValue x (base + 512 * kc) d (p % 64) rv
    let w1 := { w with s := s1, fresh := if w.fresh.contains slot then w.fresh else slot :: w.fresh }
    let pe := w1.s.pt x h slot
    w1.putPt x h slot { pe with fill := max pe.fill (p % 64 + 1), due := pe.due || w1.s.kvMirror x h }

/-- n new positions appended. -/
def Work.appends (w : Work) (x h i p kAddr vAddr stride : Nat) : Nat → Work
  | 0 => w
  | n + 1 => (w.append x h i p kAddr vAddr).appends x h i (p + 1) (kAddr + stride) (vAddr + stride) stride n

/-- A released entry: all its pages return to the free chain (R143). -/
def Work.release (w : Work) (x h i : Nat) : Work :=
  match w.slots x h i with
  | none => { w with fail := some (0x26, i) }
  | some ch =>
    let w1 := ch.foldl (fun a q => a.freeSlot x h q) w
    w1.putE i { w1.e i with first := noSlot, last := noSlot, pages := 0, length := 0, status := 16 }

end Sys2Proof.Machine
end

