-- ==== Sys2Proof/Machine/Attend.lean ====
section
/-! DEFINITION. The attention step (R141 to R160): its checks and bound, releases, allocation, appends, rows, score updates,
write-back and shadow. -/

namespace Sys2Proof.Machine

/-- A head's tables are lost: LOST, and with it SYS_CFG_LOST.KV, KV_LOST and CONFIG_LOST (R152, R157, R377). -/
def State.headLost (s : State) (ix : Nat) : State :=
  (((s.wr F.KVS_STATE_LOST ix 1).wr F.SYS_CFG_LOST_KV 0 1).attn F.ATT_PENDING_KV_LOST).attn F.ATT_PENDING_CONFIG_LOST
/-- HEAD of an attention descriptor (R141). -/
def adHead (d : Nat) : Nat := bitsAt d 0 2
/-- ENTRIES. -/
def adEntries (d : Nat) : Nat := dsc d 8 2
/-- BUDGET. -/
def adBudget (d : Nat) : Nat := bitsAt d 96 24
/-- NO_SCORE. -/
def adNoScore (d : Nat) : Bool := d.testBit 25

/-- The address of a length-table entry. -/
def State.ltAt (s : State) (x h e : Nat) : Nat := s.rd F.KVS_TABLES_LT_BASE (hIx x h) + 32 * e
/-- A length-table entry as it is stored. -/
def State.ltRaw (s : State) (x h e : Nat) : Nat := s.tsNat x (s.ltAt x h e) 32

/-- What one entry adds to W_max (R145). -/
def entryBound (pool pc group : Nat) (e : LtE) : Nat :=
  if e.release then 8 + e.pages
  else
    let n := pagesNeeded e
    let c := if e.poolEvict then pool else e.pages
    let a := if 0 < n then ceilDiv (e.new * pc) 64 + 16 + n * (c + 16) else 0
    32 + a + ceilDiv (e.new * group) 16 * (128 + (e.pages + n) * (pc + 8))

/-- W_max of a step (R145). -/
def State.attendBound (s : State) (x h n : Nat) : Nat :=
  ((List.range n).map (fun e => entryBound (s.kvPool x h) (s.kvPc x h) (s.kvGroup x h) (ltOf (s.ltRaw x h e)))).foldl
    (· + ·) (16 + 2 * n)

/-- The head's share accumulators cleared (R220). -/
def State.clearScores (s : State) (x h : Nat) : State :=
  s.updTile x (fun t => { t with score := Tab.dropWhere (fun k => k % 16384 / 4096 == h) t.score })

/-- ATTEND takes up its slot (R141, R142, R146, R220). -/
def State.attendStart (s : State) (x : Nat) : State :=
  match s.takeSlot x (fun sl => sl.kind == 1 && bitsAt sl.word 0 4 == 2) with
  | none => s
  | some (sl, s1) =>
    let j := bitsAt sl.word 4 16
    let d := s.arrDesc x j
    let h := adHead d
    let s2 := (s1.wr F.ARR_MV_STATUS_DESC_INDEX x j).wr F.ARR_MV_STATUS_THREAD x sl.k
    if adEntries d = 0 ∨ adBudget d = 0 then s2.updTile x (fun t => { t with mvEnd := sl.cyc + 1 })
    else
      let s3 := (s2.wr F.KVS_STATE_BUSY (hIx x h) 1).updTile x (fun t => { t with
        mvEnd := sl.cyc + adBudget d,
        attends := t.attends ++ [⟨sl.k, j, d, sl.cyc, s.attendBound x h (adEntries d), false, false, [], []⟩] })
      if adNoScore d then s3 else s3.clearScores x h

/-- ATTEND (R141). -/
def execAttend (t : Nat) (x : TileIx) (s : State) : Result := .next ((s.tick t).attendStart x)

/-! ### One row (R147) -/

/-- A row in progress: running maximum, mass and output as FP32 patterns, the pages visited with their sums and maxima, free
values drawn, whether an LS128 sum left its range, and flags. -/
structure RowAcc where
  m : Nat
  l : Nat
  o : List Nat
  parts : List (Nat × Nat × Nat)
  ctr : Nat
  ovf : Bool
  flags : Flags
deriving DecidableEq, Repr

/-- −∞ in FP32: the defined "no mass" value. -/
def noMass : Nat := 0xFF800000

/-- An FP32 operation's result and flags taken into a row. -/
def RowAcc.take (a : RowAcc) (r : Nat × Flags) : Nat × RowAcc := (r.1, { a with flags := a.flags ||| r.2 })

/-- An LS128 dot product converted to FP32. A sum out of range is discarded, and a free value stands for it (R95, R154; log entry
26). -/
def RowAcc.dot (a : RowAcc) (exp : Nat) (ts : List (Val × Flags)) : Nat × RowAcc :=
  let q := lsSum exp (ts.map (fun t => t.1)) none
  let fl := ts.foldl (fun z t => z ||| t.2) a.flags
  if q.overflows then ((Config.freeValue a.ctr).toNat % 2 ^ 32, { a with ctr := a.ctr + 1, ovf := true, flags := fl })
  else let r := lsOut .fp32 0 false exp q; (r.bits, { a with flags := fl ||| r.flags })

/-- FP32 results of a list, one after the other. -/
def RowAcc.mapM {α : Type} (f : RowAcc → α → Nat × RowAcc) : RowAcc → List α → List Nat × RowAcc
  | a, [] => ([], a)
  | a, q :: r =>
    let y := f a q
    let ys := RowAcc.mapM f y.2 r
    (y.1 :: ys.1, ys.2)

/-- A page as a row sees it: its slot, its visible positions, and its keys and values. -/
structure PageView where
  slot : Nat
  vis : List Nat
  key : Nat → Nat → Val
  val : Nat → Nat → Val

/-- One page of a row (R147). -/
def RowAcc.page (scale qAnchor pvAnchor d : Nat) (q : List Val) (a : RowAcc) (p : PageView) : RowAcc :=
  let r1 := RowAcc.mapM (fun b o =>
    let y := b.dot qAnchor ((List.range d).map (fun j => mulV (q.getD j .nan) (p.key o j)))
    y.2.take (ffMul ffFp32 scale y.1)) a p.vis
  let mNew := r1.1.foldl (fun m v => maxMin ffFp32 true m v) a.m
  let gap := r1.2.take (ffAdd ffFp32 a.m (mNew ^^^ 0x80000000))
  let c := if a.m = noMass then (0, r1.2) else gap.2.take (fpExp2 gap.1)
  let l1 := c.2.take (ffMul ffFp32 a.l c.1)
  let o1 := RowAcc.mapM (fun b v => b.take (ffMul ffFp32 v c.1)) l1.2 a.o
  let xs := RowAcc.mapM (fun b v =>
    let z := b.take (ffAdd ffFp32 v (mNew ^^^ 0x80000000))
    z.2.take (fpExp2 z.1)) o1.2 r1.1
  let sum := xs.1.tail.foldl (fun (z : Nat × RowAcc) v => z.2.take (ffAdd ffFp32 z.1 v)) (xs.1.headD 0, xs.2)
  let l2 := sum.2.take (ffAdd ffFp32 l1.1 sum.1)
  let x8 := xs.1.map (fun v => ffDecode ffE4m3 (convFloat ffE4m3 false .rne (ffDecode ffFp32 v)).1)
  let o2 := RowAcc.mapM (fun b n =>
    let y := b.dot pvAnchor ((List.range p.vis.length).map (fun i => mulV (x8.getD i .nan) (p.val (p.vis.getD i 0) n)))
    y.2.take (ffAdd ffFp32 (o1.1.getD n 0) y.1)) l2.2 (List.range d)
  { o2.2 with m := mNew, l := l2.1, o := o2.1, parts := a.parts ++ [(p.slot, sum.1, mNew)] }

/-- The visible range of token t of an entry, as first and last position; none where nothing is visible (R147). `len` is LENGTH
before the step. -/
def visRange (e : LtE) (len t : Nat) : Option (Nat × Nat) :=
  if e.context then
    let lo := if e.windowed then len - e.window else 0
    if lo < len then some (lo, len - 1) else none
  else
    let lo := if e.windowed then len + t + 1 - e.window else 0
    if lo ≤ len + t then some (lo, len + t) else none

/-- A row's results: output bytes, LSE, status, and its terms by slot. -/
structure RowOut where
  o : Bytes
  lse : Nat
  status : Nat
  terms : List (Nat × Nat)
  ctr : Nat
  ovf : Bool
  flags : Flags
deriving DecidableEq, Repr

/-- The term of a page: one product of three, rounded once to FP32 (R149, R220). -/
def shareTerm (xsum mPage mFinal lFinal : Nat) : Nat × Flags :=
  let gap := ffAdd ffFp32 mPage (mFinal ^^^ 0x80000000)
  let e := fpExp2 gap.1
  let r := fpRcp lFinal
  let p := mulV (ffDecode ffFp32 xsum) (ffDecode ffFp32 e.1)
  let q := mulV p.1 (ffDecode ffFp32 r.1)
  let y := arithRound ffFp32 q.1
  (y.1, gap.2 ||| e.2 ||| r.2 ||| p.2 ||| q.2 ||| y.2)

/-- One row computed over its pages (R147 to R149). `holes` says that some visible position was evicted. -/
def attendRow (d : Nat) (dim ctr : Nat) (q : List Val) (pages : List PageView) (holes : Bool) : RowOut :=
  let outF := (fmtFloat (fmtD (dsc d 2 1))).getD ffFp32
  let eb := fmtBits (fmtD (dsc d 2 1)) / 8
  let live := pages.filter (fun p => !p.vis.isEmpty)
  if live.isEmpty then ⟨List.replicate (dim * eb) 0, noMass, 1 + 8 * bit holes, [], ctr, false, 0⟩
  else
    let a := live.foldl (RowAcc.page (dsc d 4 4) (dsc d 10 1) (dsc d 11 1) dim q)
      ⟨noMass, 0, List.replicate dim 0, [], ctr, false, 0⟩
    let r := fpRcp a.l
    let ys := a.o.map (fun v =>
      let y := ffMul ffFp32 v r.1
      let z := convFloat outF (d.testBit 24) .rne (ffDecode ffFp32 y.1)
      (z.1, y.2 ||| z.2))
    let lg := fpLog2 a.l
    let lse := ffAdd ffFp32 a.m lg.1
    let terms := a.parts.map (fun p => (p.1, shareTerm p.2.1 p.2.2 a.m a.l))
    let nan := ys.any (fun y => (ffDecode outF y.1).isNan) || (ffDecode ffFp32 lse.1).isNan ||
      terms.any (fun t => (ffDecode ffFp32 t.2.1).isNan)
    let sat := ys.any (fun y => y.2.testBit 2)
    ⟨(ys.map (fun y => leBytes eb y.1)).flatten, lse.1, 8 * bit holes + 32 * bit nan + 64 * bit sat,
      terms.map (fun t => (t.1, t.2.1)), a.ctr, a.ovf,
      terms.foldl (fun z t => z ||| t.2.2) (ys.foldl (fun z y => z ||| y.2) (a.flags ||| r.2 ||| lg.2 ||| lse.2))⟩

/-! ### The step (R143) -/

/-- The query-row planes of a step that reach past the tile store (R142). -/
def State.attendReach (s : State) (x h : Nat) (d : Nat) (es : List LtE) : Bool :=
  let dim := s.kvD x h
  let rows := s.kvGroup x h * (es.map (fun e => e.new)).sum
  let qb := dim * fmtBits (fmtD (dsc d 1 1)) / 8
  let ob := dim * fmtBits (fmtD (dsc d 2 1)) / 8
  let past (base stride n len : Nat) : Bool := n != 0 && decide (tsSize < base + (n - 1) * stride + len)
  let news := (List.range es.length).foldl (fun a i =>
    let e := es.getD i (ltOf 0)
    if e.release || e.context || e.new == 0 then a else ((es.take (i + 1)).map (fun e => e.new)).sum) 0
  past (dsc d 16 4) (dsc d 20 4) rows qb || past (dsc d 24 4) (dsc d 28 4) rows ob || past (dsc d 32 4) 4 rows 4 ||
    past (dsc d 36 4) 2 rows 2 || past (dsc d 40 4) (dsc d 48 4) news (2 * dim) || past (dsc d 44 4) (dsc d 48 4) news (2 * dim)

/-- What a step has written so far beside its work: the rows' bytes, the flags and the rows' sums that left their range. -/
structure StepAcc where
  w : Work
  writes : List (Nat × Bytes)
  flags : Flags
  ovf : Option Nat

/-- The first row of an entry's tables, queries and new rows that reads as poisoned (R153). -/
def Work.entryPoison (w : Work) (x h d i q0 n0 : Nat) : Option Nat :=
  let s := w.s
  let e := w.e i
  let dim := s.kvD x h
  let qb := dim * fmtBits (fmtD (dsc d 1 1)) / 8
  let slots := ((w.slots x h i).getD []) ++
    (if e.poolEvict && decide (0 < pagesNeeded e) then List.range (s.kvPool x h)
     else if 0 < pagesNeeded e then [s.rd F.KVS_STATE_FREE_HEAD (hIx x h)] else [])
  let ranges := [(s.ltAt x h i, 32)] ++ slots.map (fun q => (s.ptAt x h q, 16)) ++
    (if e.release then [] else
      (List.range (e.new * s.kvGroup x h)).map (fun r => (dsc d 16 4 + (q0 + r) * dsc d 20 4, qb)) ++
      (if e.context then [] else (List.range e.new).map (fun t => (dsc d 40 4 + (n0 + t) * dsc d 48 4, 2 * dim)) ++
        (List.range e.new).map (fun t => (dsc d 44 4 + (n0 + t) * dsc d 48 4, 2 * dim))))
  ranges.findSome? (fun r => s.firstPoison x r.1 r.2)

/-- The writes of one row: O, LSE and status (R140). -/
def rowWrites (d r : Nat) (o : Bytes) (lse status : Nat) : List (Nat × Bytes) :=
  [(dsc d 24 4 + r * dsc d 28 4, o), (dsc d 32 4 + 4 * r, leBytes 4 lse), (dsc d 36 4 + 2 * r, leBytes 2 status)]

/-- A zero row: STALLED or UNCORR. -/
def zeroRow (d dim r status : Nat) : List (Nat × Bytes) :=
  rowWrites d r (List.replicate (dim * (fmtBits (fmtD (dsc d 2 1)) / 8)) 0) noMass status

/-- NOT_RUN set in the status of n rows from r0 on; the rest stays (R148). -/
def notRun (s : State) (x d r0 n : Nat) : List (Nat × Bytes) :=
  (List.range n).map (fun r =>
    let a := dsc d 36 4 + 2 * (r0 + r)
    (a, leBytes 2 (s.tsNat x a 2 ||| 4)))

/-- A page as the MV path reads it (R125, R136). -/
def State.pageView (s : State) (x h slot fill lp : Nat) (range : Option (Nat × Nat)) : PageView :=
  let dim := s.kvD x h
  let kf := fmtD (s.rd F.KVS_CFG_K_FMT (hIx x h))
  let vf := fmtD (s.rd F.KVS_CFG_V_FMT (hIx x h))
  let kc := kChunks (s.rd F.KVS_CFG_K_FMT (hIx x h)) dim
  let base := s.pageOff x h slot
  let chunk (i : Nat) : Nat := leVal (s.dram x (base + 512 * i) 512)
  let gk := mvG kf
  let gck := mvGroupChunks kf (dim / 32)
  let ks := (List.range kc).map chunk
  let vs := (List.range (dim / 8)).map (fun i => chunk (kc + i))
  ⟨slot, match range with
    | none => []
    | some (lo, hi) => (List.range fill).filter (fun o => decide (lo ≤ 64 * lp + o) && decide (64 * lp + o ≤ hi)),
   fun o j => mvWeight kf ((ks.drop (o / gk * gck)).take gck) (o % gk) j,
   fun o n => mvWeight vf ((vs.drop (n / mvG vf * 2)).take 2) (n % mvG vf) o⟩

/-- A row's terms go to their accumulators (R220). -/
def State.addTerms (s : State) (x h : Nat) : List (Nat × Nat) → State
  | [] => s
  | (slot, v) :: r =>
    let key := s.scoreKey x h slot
    (s.setScore x key (ffAdd ffFp32 (Tab.get 0 (s.tile x).score key) v).1).addTerms x h r

/-- The rows of an entry computed (R147 to R149, R153). `len` is LENGTH before the step. -/
def StepAcc.rows (a : StepAcc) (x h d i r0 len : Nat) (errs : List MemErr) : StepAcc :=
  let w := a.w
  let e := w.e i
  let s := w.s
  let g := s.kvGroup x h
  let dim := s.kvD x h
  let n := e.new * g
  let slots := (w.slots x h i).getD []
  let info := slots.map (fun q => let p := s.pt x h q; (q, p.lpage, p.fill))
  let ranges := (List.range e.new).filterMap (fun t => visRange e len t)
  let seen := info.filter (fun p => g != 0 && ranges.any (fun r =>
    decide (r.1 < 64 * p.2.1 + p.2.2) && decide (64 * p.2.1 ≤ r.2)))
  let touch := seen.foldl (fun (z : State × Bool) p =>
    let y := z.1.dramTouch x (s.pageOff x h p.1) (s.kvPc x h * 512) 2 errs
    (y.1, z.2 || y.2.isSome)) (s, false)
  if touch.2 then
    { a with w := { w with s := touch.1 },
             writes := a.writes ++ ((List.range n).map (fun r => zeroRow d dim (r0 + r) 16)).flatten }
  else
    (List.range n).foldl (fun b r =>
      let range := visRange e len (r / g)
      let qf := fmtD (dsc d 1 1)
      let qrow := leVal (s.tsRead x (dsc d 16 4 + (r0 + r) * dsc d 20 4) (dim * fmtBits qf / 8))
      let views := info.map (fun p => s.pageView x h p.1 p.2.2 p.2.1 range)
      let holes := match range with
        | none => false
        | some (lo, hi) => (List.range (hi / 64 + 1 - lo / 64)).any (fun k => !info.any (fun p => p.2.1 == lo / 64 + k))
      let y := attendRow d dim b.w.s.freeCtr ((List.range dim).map (fun j => elemVal qf (streamElem qrow (fmtBits qf) j)))
        views holes
      let s1 := { b.w.s with freeCtr := y.ctr }
      let s2 := if adNoScore d then s1 else s1.addTerms x h y.terms
      let hit := (views.filter (fun p => !p.vis.isEmpty)).map (fun p => p.slot)
      { w := { b.w with s := s2, visited := b.w.visited ++ hit.filter (fun q => !b.w.visited.contains q) },
        writes := b.writes ++ rowWrites d (r0 + r) y.o y.lse y.status,
        flags := b.flags ||| y.flags,
        ovf := if b.ovf.isSome then b.ovf else if y.ovf then some (r % 16) else none }) { a with w := { w with s := touch.1 } }

/-- A step fails at an entry (R151 to R153). -/
def StepAcc.failAt (a : StepAcc) (i code info : Nat) : StepAcc :=
  { a with w := { (a.w.putE i { a.w.e i with status := (a.w.e i).status ||| 2 }) with fail := some (code, info) } }

/-- One entry of step 3 (R143, R144, R150). -/
def StepAcc.entry (a : StepAcc) (x h d i : Nat) (news : List Nat) (errs : List MemErr) : StepAcc :=
  let w := a.w
  let e := w.e i
  let g := w.s.kvGroup x h
  let n0 := (news.take i).sum
  let r0 := g * n0
  let rows := g * e.new
  let skip : StepAcc := { a with writes := a.writes ++ notRun w.s x d r0 rows }
  if e.status.testBit 4 || e.status.testBit 1 then skip
  else if w.fail.isSome then { skip with w := w.putE i { e with status := e.status ||| 32 } }
  else match w.entryPoison x h d i r0 n0 with
    | some row => skip.failAt i 2 (rowBank row)
    | none =>
      if (w.slots x h i).isNone then skip.failAt i 0x26 i
      else
        let n := pagesNeeded e
        match (if n = 0 then Alloc.ok w else w.makeRoom x h i n (w.s.kvPool x h + 1)) with
        | .bad w1 j => ({ skip with w := w1 } : StepAcc).failAt i 0x26 j
        | .noPage w1 => ({ skip with w := w1 } : StepAcc).failAt i 4 i
        | .stalled w1 =>
          { a with w := w1.putE i { w1.e i with status := (w1.e i).status ||| 1 },
                   writes := a.writes ++ ((List.range rows).map (fun r => zeroRow d (w.s.kvD x h) (r0 + r) 2)).flatten }
        | .ok w1 =>
          let w2 := w1.addPages x h i n
          match w2.fail with
          | some f => ({ skip with w := { w2 with fail := none } } : StepAcc).failAt i f.1 f.2
          | none =>
            let w3 := if e.context then w2
              else (w2.appends x h i e.length (dsc d 40 4 + n0 * dsc d 48 4) (dsc d 44 4 + n0 * dsc d 48 4) (dsc d 48 4) e.new)
            let w4 := if e.context then w3 else w3.putE i { w3.e i with length := e.length + e.new }
            ({ a with w := w4 } : StepAcc).rows x h d i r0 e.length errs

/-- Step 2 of R143: releases in table order, until one meets a malformed chain. -/
def Work.releases (w : Work) (x h : Nat) : List Nat → Work
  | [] => w
  | i :: r =>
    if w.fail.isSome then w
    else if (w.e i).release then
      let w1 := w.release x h i
      (if w1.fail.isSome then w1.putE i { w1.e i with status := 2 } else w1).releases x h r
    else w.releases x h r

/-- Step 4 of R143: every page visited takes its score update, in ascending slot order (R149, R221). -/
def Work.scores (w : Work) (x h : Nat) : Work :=
  let decay := s16 (w.s.rd F.KVS_CFG_DECAY (hIx x h))
  ((List.range (w.s.kvPool x h)).filter (fun q => w.visited.contains q)).foldl (fun a q =>
    let p := a.s.pt x h q
    let share := Tab.get 0 (a.s.tile x).score (a.s.scoreKey x h q)
    let v := if (ffDecode ffFp32 share).isNan then 0 else (ffFma ffFp32 decay p.score share).1
    a.putPt x h q { p with score := v }) w
where
  /-- A BF16 pattern as the FP32 pattern of the same value. -/
  s16 (n : Nat) : Nat := n <<< 16

/-- The shadow's records of a step: STEP_BEGIN, changed entries, the length table, the header, STEP_END (R155, R156). The count
written is the step's number (log entry 27). -/
def Work.shadowWrites (w : Work) (x h n step : Nat) : List (Nat × Bytes) :=
  let ix := hIx x h
  let b := w.s.ownOff (w.s.rd F.KVS_SHADOW_SHADOW_BASE ix)
  [(b + 8, leBytes 8 step)] ++
  w.changed.map (fun q => (b + 64 + 16 * q, leBytes 16 (ptVal (w.s.pt x h q)))) ++
  (List.range n).map (fun i => (b + 64 + 16 * w.s.kvPool x h + 32 * i, leBytes 32 (ltVal (w.e i)))) ++
  [(b, leBytes 4 0x10000), (b + 24, leBytes 4 (w.s.rd F.KVS_STATE_FREE_HEAD ix)),
   (b + 28, leBytes 4 (w.s.rd F.KVS_STATE_FREE_COUNT ix)), (b + 16, leBytes 8 step)]

/-- The first attention step of a tile that meets a test, changed or, with none, taken away. -/
def State.putAttend (s : State) (x : Nat) (old : Attend) (new : Option Attend) : State :=
  s.updTile x (fun t => { t with attends := match new with
    | some r => t.attends.map (fun m => if m = old then r else m)
    | none => t.attends.erase old })

/-- The step itself, once its checks have passed (R143). -/
def State.attendWork (s : State) (x : Nat) (a : Attend) (errs : List MemErr) : State :=
  let d := a.desc
  let h := adHead d
  let n := adEntries d
  let orig := (List.range n).map (fun e => ltOf (s.ltRaw x h e))
  let news := orig.map (fun e => e.new)
  let w0 : Work := ⟨s, orig.map (fun e => { e with status := 0, lost := 0 }), [], [], [], none⟩
  let bad := (List.range n).find? (fun i => (s.firstPoison x (s.ltAt x h i) 32).isSome)
  let w1 := w0.releases x h ((List.range n).take (bad.getD n))
  let stopAt := (List.range n).find? (fun i => (w1.e i).status.testBit 1)
  let r := (List.range n).foldl (fun (b : StepAcc) i =>
    let c := b.entry x h d i news errs
    if stopAt = some i then { c with w := { c.w with fail := w1.fail } } else c) ⟨{ w1 with fail := none }, [], 0, none⟩
  let w2 := if adNoScore d then r.w else r.w.scores x h
  let es := (List.range n).map (fun i =>
    let e := w2.e i
    if (e.status.testBit 1 || e.status.testBit 5) && e.lost == 0 then { e with lost := (orig.getD i e).lost } else e)
  let w3 := { w2 with es := es }
  let table := (List.range n).map (fun i => (w3.s.ltAt x h i, leBytes 32 (ltVal (w3.e i))))
  let step := (w3.s.rd F.KVS_COUNT_STEPS (hIx x h) + 1) % 2 ^ 32
  let s1 := (w3.s.putAttend x a (some { a with
    ran := true, ok := true, writes := r.writes ++ table, shadow := w3.shadowWrites x h n step })).setFlags x a.k r.flags
  let s2 := match r.ovf with
    | some v => s1.trapOne x a.k 5 (1 + 16 * v)
    | none => s1
  match w3.fail with
  | none => s2
  | some f =>
    let s3 := s2.trapOne x a.k f.1 f.2
    if f.1 = 0x26 then s3.headLost (hIx x h) else s3

/-- The checks of R142 and R145 made with the budget check. -/
def State.attendCheck (s : State) (x : Nat) (errs : List MemErr) : State :=
  match (s.tile x).attends.find? (fun a => !a.ran) with
  | none => s
  | some a =>
    let d := a.desc
    let h := adHead d
    let n := adEntries d
    let raws := (List.range n).map (fun e => s.ltRaw x h e)
    let es := raws.map ltOf
    let s0 := [(s.ltAt x h 0, 32 * n), (s.ptAt x h 0, 16 * s.kvPool x h)].foldl (fun z r =>
      z.tsErrs x r.1 r.2 (storeErrs errs)) s
    let rows := s.kvGroup x h * (es.map (fun e => e.new)).sum
    let planes := (List.range rows).map (fun r => (dsc d 16 4 + r * dsc d 20 4, s.kvD x h * fmtBits (fmtD (dsc d 1 1)) / 8))
    let reqs : List TrapReq :=
      (match (List.range n).find? (fun i => ltIllegal (raws.getD i 0)) with
        | some i => [⟨0x21, i, false⟩]
        | none => []) ++
      (if 65536 < rows then [⟨0x21, a.idx, false⟩] else []) ++
      (if s.attendReach x h d es then [⟨8, 5, false⟩] else [])
    let fail (r : List TrapReq) : State :=
      (s0.putAttend x a (some { a with ran := true })).raise x a.k r (s.thread x a.k).last
    if !reqs.isEmpty then fail reqs
    else if adBudget d < a.bound then fail [⟨0x25, min (ceilDiv a.bound 256) 0xFFFF, false⟩]
    else
      let s1 := planes.foldl (fun z r => z.tsErrs x r.1 r.2 (storeErrs errs)) s0
      s1.attendWork x a (sliceErrs errs)

/-- ATTEND_BUDGET_CHECK (R145). -/
def execAttendBudgetCheck (t : Nat) (x : TileIx) (errs : List MemErr) (s : State) : Result :=
  .next ((s.tick t).attendCheck x errs)

/-- The results land, BUSY clears, and the shadow write-through falls due (R146, R160). -/
def State.attendLand (s : State) (x : Nat) : State :=
  match (s.tile x).attends.find? (fun a => a.ran) with
  | none => s
  | some a =>
    let h := adHead a.desc
    let ix := hIx x h
    let s1 := (a.writes.foldl (fun z w => z.tsWrite x w.1 w.2) s).putAttend x a none
    let s2 := s1.wr F.KVS_STATE_BUSY ix 0
    if a.ok then
      (s2.wr F.KVS_COUNT_STEPS ix (s2.rd F.KVS_COUNT_STEPS ix + 1)).updTile x (fun t => { t with
        shadows := t.shadows ++ [⟨h, a.shadow⟩] })
    else s2

/-- ATTEND_WRITE_BACK (R146). -/
def execAttendWriteBack (t : Nat) (x : TileIx) (s : State) : Result := .next ((s.tick t).attendLand x)

/-- SHADOW_WRITE_THROUGH (R156): the oldest records of a head that are due go to its shadow. -/
def execShadowWriteThrough (t : Nat) (x : TileIx) (h : HeadIx) (s : State) : Result :=
  let s1 := s.tick t
  match (s1.tile x).shadows.find? (fun d => d.head == h.val) with
  | none => .next s1
  | some d => .next ((d.writes.foldl (fun z w => z.ownWrite x w.1 w.2) s1).updTile x (fun t => { t with
      shadows := t.shadows.erase d }))

/-- A head's tables restored from its shadow (R157). -/
def State.kvRestore (s : State) (x h : Nat) : State :=
  let ix := hIx x h
  let b := s.ownOff (s.rd F.KVS_SHADOW_SHADOW_BASE ix)
  let pool := s.kvPool x h
  let cap := s.rd F.KVS_TABLES_LT_CAP ix
  let len := 64 + 16 * pool + 32 * cap
  let hd := s.dram x b 64
  if s.badRange (sliceBase x + b) len || fieldAt hd 8 8 != fieldAt hd 16 8 then
    s.headLost ix
  else
    let s1 := (s.tsWrite x (s.rd F.KVS_TABLES_PT_BASE ix) (s.dram x (b + 64) (16 * pool))).tsWrite x
      (s.rd F.KVS_TABLES_LT_BASE ix) (s.dram x (b + 64 + 16 * pool) (32 * cap))
    (s1.wr F.KVS_STATE_FREE_HEAD ix (fieldAt hd 24 4)).wr F.KVS_STATE_FREE_COUNT ix (fieldAt hd 28 4)

/-- A head's shadow written whole (R155, R287). -/
def State.shadowWhole (s : State) (x h : Nat) : State :=
  let ix := hIx x h
  let b := s.ownOff (s.rd F.KVS_SHADOW_SHADOW_BASE ix)
  let step := leBytes 8 (s.rd F.KVS_COUNT_STEPS ix)
  let head := leBytes 4 0x10000 ++ leBytes 4 0 ++ step ++ step ++ leBytes 4 (s.rd F.KVS_STATE_FREE_HEAD ix) ++
    leBytes 4 (s.rd F.KVS_STATE_FREE_COUNT ix) ++ List.replicate 32 0
  s.ownWrite x b (head ++ s.tsRead x (s.rd F.KVS_TABLES_PT_BASE ix) (16 * s.kvPool x h) ++
    s.tsRead x (s.rd F.KVS_TABLES_LT_BASE ix) (32 * s.rd F.KVS_TABLES_LT_CAP ix))

/-- KV_SHADOW_RESTORE (R157). -/
def execKvShadowRestore (t : Nat) (x : TileIx) (h : HeadIx) (s : State) : Result :=
  let s1 := s.tick t
  if (s1.tile x).restore.contains h.val && !(s1.tile x).eng.zeroing then
    .next ((s1.kvRestore x h).updTile x (fun t => { t with restore := t.restore.filter (fun k => k != h.val) }))
  else .next s1

end Sys2Proof.Machine
end

