-- ==== Sys2Proof/Machine/Slice.lean ====
section
/-! DEFINITION. The slice controller at work (R161 to R200): slice slot, inbound and unscheduled accesses, open cycles, refresh,
memory-side adds, scrubbing, the flip mask, and the pier cache. -/

namespace Sys2Proof.Machine

/-! ### Outcomes of accesses made for others (R177, R352) -/

/-- The code and chunk of a data-window failure recorded (R352). -/
def State.winFail (s : State) (write : Bool) (code dpa : Nat) : State :=
  let s1 := s.note 0x008 code
  if s1.rd F.FRONT_WIN_LAST_VALID 0 = 1 then s1.wr F.FRONT_WIN_LAST_MORE 0 1
  else (((s1.wr F.FRONT_WIN_LAST_VALID 0 1).wr F.FRONT_WIN_LAST_CODE 0 code).wr F.FRONT_WIN_LAST_WRITE 0 (bit write)).wr
    F.FRONT_WIN_LAST_DPA 0 (dpa / 512 * 512)

/-- Bytes of a completed window read in order. -/
def Win.data (w : Win) : Bytes := (w.parts.map (fun p => p.2)).flatten

/-- A window request taken away. -/
def State.winDrop (s : State) (tag : Nat) : State := { s with wins := s.wins.filter (fun w => w.tag != tag) }

/-- One piece of a window request has its outcome (R352): a failed read returns all ones. -/
def State.winPiece (s : State) (tag off code : Nat) (data : Bytes) : State :=
  match s.wins.find? (fun w => w.tag == tag) with
  | none => s
  | some w =>
    if code ≠ 0 then
      let s1 := s.winFail w.write code (w.dpa + off)
      if w.write then { s1 with wins := s1.wins.map (fun v => if v.tag = tag then { v with left := v.left - 1 } else v) }
      else { (s1.winDrop tag) with out := s1.out ++ [.window tag code (List.replicate w.len 0xFF)] }
    else
      let v := { w with parts := if w.write then w.parts else Tab.ins (Tab.drop w.parts off) off data, left := w.left - 1 }
      if v.left = 0 then
        (if w.write then s.winDrop tag else { (s.winDrop tag) with out := s.out ++ [.window tag 0 v.data] })
      else { s with wins := s.wins.map (fun u => if u.tag = tag then v else u) }

/-- An access made for a window, a port or the mirror engine has its outcome (R177). -/
def State.answer (s : State) (a : Acc) (code : Nat) (data : Bytes) : State :=
  match a.src with
  | .host tag => s.winPiece tag a.job code data
  | .tile _ _ => s
  | .own _ _ _ => s
  | .port q tag => { s with
      answers := s.answers ++ [⟨.port q tag, a.job, if a.late ∧ a.kind = .read then 0x011 else code, data⟩] }
  | o => { s with answers := s.answers ++ [⟨o, a.job, code, data⟩] }

/-! ### Memory-side adds (R166, R175, R176) -/

/-- What an add comes to: an outcome code of R177, or the violation's cause. -/
inductive AddRes where
  | ok (s : State) (fl : Flags)
  | fail (s : State) (code : Nat)
  | viol (cause : Nat)

/-- Elements of a chunk as numbers. -/
def elems (n : Nat) (bs : Bytes) : List Nat := (List.range (512 / n)).map (fun i => fieldAt bs (n * i) n)

/-- A memory-side add into a slice (R93, R98, R175, R176, R186). -/
def State.addChunk (s : State) (x off fmt path : Nat) (src : Bytes) (errs : List MemErr) : AddRes :=
  if 3 < fmt ∨ off % 512 ≠ 0 ∨ (fmt = 3 ∧ s.rd F.SLC_REGIONS_SIDE_EN x = 0) then .fail s 0x15
  else
    let side := s.rd F.SLC_REGIONS_SIDE_LINE x * 64 + 8 * (off / 512)
    if fmt = 3 ∧ s.mirrorBase x < side + 8 then .viol 3
    else
      let r := s.sliceReadBytes x off 512 5 errs
      match r.2.2 with
      | some _ => .fail r.2.1 0x12
      | none =>
        if fmt = 3 then
          let q := r.2.1.sliceReadBytes x side 8 5 errs
          match q.2.2 with
          | some _ => .fail q.2.1 0x12
          | none =>
            let y := lsAddBlock (sideOf (leVal q.1)) (sideOf (fieldAt src 512 8)) ((elems 16 r.1).map lsF)
              ((elems 16 src).map lsF)
            (match y.2.2 with
            | some _ => .fail q.2.1 0x14
            | none =>
              let s1 := q.2.1.sliceWriteBytes x off path ((y.1.map (fun f => leBytes 16 (wrapBits 128 f))).flatten)
              .ok (s1.sliceWriteBytes x side path (leBytes 8 (sideVal y.2.1))) (if y.2.1.inexact then flLsInexact else 0))
        else
          let n := addElemBytes fmt
          let ys := (List.range (512 / n)).map (fun i => addElem fmt (fieldAt r.1 (n * i) n) (fieldAt src (n * i) n))
          .ok (r.2.1.sliceWriteBytes x off path ((ys.map (fun y => leBytes n y.1)).flatten))
            (ys.foldl (fun a y => a ||| y.2) 0)

/-! ### Serving an access -/

/-- A channel's access fails: an uncorrectable error halts it with STORE_UNCORR, an aperture violation with 0x08, an add out of
range with LS128_OVERFLOW (R60, R95, R189; log entry 28 for ADD_FORMAT). -/
def State.chanCode (s : State) (x c j code cause : Nat) : State :=
  if !(s.chan x c).started then s
  else match code with
    | 0x12 => s.chanFail x c j 2 c
    | 0x13 => s.chanFail x c j 8 cause
    | 0x14 => s.chanFail x c j 5 (3 + 16 * c)
    | _ => s.chanFail x c j 0x21 c

/-- An access turned away with a code (R177). -/
def State.refuseAcc (s : State) (a : Acc) (code cause : Nat) : State :=
  match a.src with
  | .tile y c => s.chanCode y c a.job code cause
  | _ => s.answer a code []

/-- The way back of data that a channel reads into its tile store (R253). -/
def State.wayBack (s : State) (a : Acc) : Nat :=
  match a.src with
  | .tile y c => if xdDstSpace (s.chan y c).desc = 0 then s.routeLat (s.dpaEnd a.dpa) y else 0
  | _ => 0

/-- Data that leaves a slice or a scratchpad 96 cycles from now (R168, R504); data for a tile store is there at the end of its way
(log entry 130). -/
def State.deliverFrom (s : State) (x : Nat) (a : Acc) (data : Bytes) (bad : Bool) : State :=
  s.updSlice x (fun l => { l with deliver := l.deliver ++ [⟨s.gclk + 96 + s.wayBack a, a, data, bad⟩] })

/-- The 128-byte lines of a range of one chunk fill the pier cache (R179). -/
def State.pchFills (s : State) (x off n : Nat) (errs : Bool) : State :=
  if errs then s
  else ((List.range ((off + n - 1) / 128 + 1 - off / 128)).map (fun i => off / 128 + i)).foldl (fun a l =>
    a.pchFill (sliceBase x + l * 128) ((a.sliceReadBytes x (l * 128) 128 4 []).1)) s

/-- A pier-cache way is judged faulty (R36, R180): its lines go, and a scratchpad that no longer fits is lost. -/
def State.wayFault (s : State) (p w : Nat) : State :=
  let n := s.rd F.PCH_STATUS_IN_SERVICE p
  let scr := s.rd F.PCH_CFG_SCR_WAYS p
  if n ≤ w then s
  else
    let base := (p <<< 37) + (13 <<< 33) + (w - (n - scr)) * 2 ^ 23
    let s1 := if n - scr ≤ w then
        { s with mem := Tab.dropWhere (fun k => decide (base ≤ k) && decide (k < base + 2 ^ 23)) s.mem }
      else { s with pch := s.pch.filter (fun l => !(l.line / 2 ^ 30 == p && l.way == w)) }
    let s2 := ((s1.wr F.PCH_STATUS_IN_SERVICE p (n - 1)).fpPush 2 p 10)
    if n - 1 < scr then
      (({ s2 with mem := Tab.dropWhere (fun k => k / 2 ^ 33 == p * 16 + 13) s2.mem } : State).wr F.PCH_STATUS_SCR_LOST p 1
        |>.attn F.ATT_PENDING_SCR_LOST).attn F.ATT_PENDING_CONFIG_LOST
    else s2

/-- The way faults given with a command. -/
def wayFaults (errs : List MemErr) : List Nat :=
  errs.filterMap (fun e => if 2 ^ 33 ≤ e.loc ∧ e.loc < 2 ^ 33 + 18 then some (e.loc - 2 ^ 33) else none)

/-- An access served at the slice of tile x, or at its pier's scratchpad: `path` is 0 for an inbound access and 1 for an
unscheduled one (R167 to R169, R177, R179, R186, R190). -/
def State.serveAcc (s0 : State) (x : Nat) (a : Acc) (path : Nat) (errs : List MemErr) : State :=
  let s := (wayFaults errs).foldl (fun z w => z.wayFault (pierOf x) w) s0
  match s.decodeDpa (a.src == .mirror) a.dpa with
  | .viol c => s.refuseAcc a 0x13 c
  | .scratch p off =>
    let at0 := Place.addr (.scratch p off)
    (match a.kind with
    | .read => s.deliverFrom x a (s.memRead at0 a.len) false
    | .write => (match a.src with
      | .tile y c => ({ s with mem := cellsWrite s.mem at0 a.data } : State).chanServed y c
      | _ => ({ s with mem := cellsWrite s.mem at0 a.data } : State).answer a 0 [])
    | .add _ => s.refuseAcc a 0x13 1)
  | .slice y off =>
    (match a.kind with
    | .read =>
      let hit := if path = 1 then s.pchHit (sliceBase y + off) a.len else none
      (match hit with
      | some d => s.deliverFrom x a d false
      | none =>
        let lost := path == 1 && (s0.pchHit (sliceBase y + off) a.len).isSome
        if lost then (s.logUncorr y 4 (off / 64)).deliverFrom x a [] true
        else
          let r := s.sliceReadBytes y off a.len (match a.src with | .tile _ _ => 3 | _ => 4) errs
          let s1 := if path = 1 && a.src != .tile y 0 then r.2.1.pchFills y off a.len r.2.2.isSome else r.2.1
          s1.deliverFrom x a r.1 r.2.2.isSome)
    | .write =>
      let s1 := s.sliceWriteBytes y off path a.data
      (match a.src with
      | .tile z c => s1.chanServed z c
      | _ => s1.answer a 0 [])
    | .add fmt =>
      (match s.addChunk y off fmt 2 a.data errs with
      | .viol c => s.refuseAcc a 0x13 c
      | .fail s1 code => s1.refuseAcc a code 0
      | .ok s1 fl => (match a.src with
        | .tile z c => (s1.setFlags z (s1.chan z c).k fl).chanServed z c
        | _ => s1.answer a 0 [])))

/-! ### Inbound accesses (R167, R170) -/

/-- Whether the present cycle belongs to the tile's own access (R128, R167). -/
def State.ownCycle (s : State) (x : Nat) : Bool :=
  let t := s.tile x
  (match t.slice.slot with
    | some r => decide (r.origin + r.next ≤ s.gclk)
    | none => false) ||
  t.mv.any (fun m => decide (m.chunk < mdSpan m.desc) && decide (m.origin + m.chunk ≤ s.gclk)) ||
  t.parts.any (fun p => match p.2.load with
    | some l => l.slice && decide (l.origin ≤ s.gclk) && decide (s.gclk < l.origin + 128)
    | none => false)

/-- An inbound access that has reached its slice is served in its cycle, or deferred to an open one (R170). At a tile
under reset nothing is served; a read for a reply slot is lost, so that its reply is BUSY (R366). -/
def State.inboundRun (s : State) (x i : Nat) (errs : List MemErr) : State :=
  match (s.tile x).slice.inbound[i]? with
  | none => s
  | some a => if s.gclk < a.due then s else
    let s1 := (s.updSlice x (fun l => { l with inbound := l.inbound.eraseIdx i })).accLate a
    let replyRead : Bool := a.kind == .read && (match a.src with | .port _ _ => true | _ => false)
    if s.sliceShut x && replyRead then s1
    else if s.ownCycle x || s.ownHeld x (a.dpa % 2 ^ 33) a.len || s.sliceShut x then
      s1.updSlice x (fun l => { l with defer := l.defer ++ [{ a with due := s.gclk, late := true }] })
    else s1.serveAcc x a 0 errs

/-- INBOUND_ACCESS (R167). -/
def execInboundAccess (t : Nat) (x : TileIx) (i : Nat) (errs : List MemErr) (s : State) : Result :=
  .next ((s.tick t).inboundRun x i errs)

/-! ### Unscheduled requests (R171) -/

/-- A request joins its class; past 32 it is held at its source, in the same order. -/
def State.enqueue (s : State) (x : Nat) (a : Acc) : State :=
  s.updSlice x (fun l => if a.prio then { l with prio := l.prio ++ [a] } else { l with norm := l.norm ++ [a] })

/-- UNSCHEDULED_REQUEST (R171). -/
def execUnscheduledRequest (t : Nat) (x : TileIx) (req : Acc) (s : State) : Result :=
  let s1 := s.tick t
  .next (s1.enqueue x { req with due := s1.gclk, late := false })

/-- Whether two accesses come from one source (R169). -/
def sameSource : Origin → Origin → Bool
  | .host _, .host _ => true
  | .tile x _, .tile y _ => x == y
  | .port p _, .port q _ => p == q
  | a, b => a == b

/-- Whether a priority request may go before the normal ones: no earlier request of its source to its chunk waits (R169). -/
def mayPass (norm : List Acc) (a : Acc) : Bool :=
  !norm.any (fun b => sameSource a.src b.src && a.dpa / 512 == b.dpa / 512 && decide (b.due ≤ a.due))

/-- The request an open cycle takes (R171): whether it is a priority one. -/
def Slice.pickRequest (free : Acc → Bool) (l : Slice) : Option (Acc × Bool) :=
  let ns := (l.norm.take 32).filter free
  let p := ((l.prio.take 32).filter free).find? (mayPass l.norm)
  match p, ns.head? with
  | some a, none => some (a, true)
  | some a, some b => if l.prioRun < 7 then some (a, true) else some (b, false)
  | none, some b => some (b, false)
  | none, none => none

/-- The deferred inbound access that is served first (R171). -/
def Slice.pickDeferred (free : Acc → Bool) (l : Slice) : Option Acc :=
  match (l.defer.filter free).find? (fun a => a.prio) with
  | some a => some a
  | none => l.defer.find? free

/-! ### Open cycles (R167) -/

/-- A corrected line written back in an open cycle: its stored errors are gone (R185). -/
def State.writeBackCorrected (s : State) (x : Nat) : State :=
  match (s.tile x).slice.corrected with
  | [] => s
  | l :: r =>
    ({ s with latent := Tab.drop s.latent (lineKey x l) } : State).updSlice x (fun c => { c with corrected := r })

/-- One line read by the scrubber (R186, R191, R197). -/
def State.scrubLine (s : State) (x line : Nat) (errs : List MemErr) : State :=
  let keep := (s.tile x).slice.corrected
  let found := s.rangeErrs x (line * 64) 64 errs
  let s1 := (s.dramTouch x (line * 64) 64 7 errs).1
  let s2 := if s.rd F.SLC_SCRUB_CTL_WRITEBACK x = 1 then s1 else s1.updSlice x (fun l => { l with corrected := keep })
  let un := Tab.get 0 s2.badLines (lineKey x line) == 1
  let co := !un && !found.isEmpty
  if !un && !co then s2
  else
    let first := s2.rd F.SLC_SCRUB_SUM_CORR x + s2.rd F.SLC_SCRUB_SUM_UNCORR x == 0
    let s3 := if first then s2.wr F.SLC_SCRUB_ADDR_FIRST x line else s2
    let s4 := (s3.wr F.SLC_SCRUB_ADDR_LAST x line).wr (if un then F.SLC_SCRUB_SUM_UNCORR else F.SLC_SCRUB_SUM_CORR) x
      (s3.rd (if un then F.SLC_SCRUB_SUM_UNCORR else F.SLC_SCRUB_SUM_CORR) x + 1)
    if co && (s4.rd F.FP_PIER_C_CAPS (pierOf x)).testBit 4 && (s4.rd F.FP_PIER_B_CAPS (pierOf x)).testBit 4 then
      let f := match line / 2 % 4 with
        | 0 => F.SLC_SCRUB_EXT_CORR_COURSE0 | 1 => F.SLC_SCRUB_EXT_CORR_COURSE1
        | 2 => F.SLC_SCRUB_EXT_CORR_COURSE2 | _ => F.SLC_SCRUB_EXT_CORR_COURSE3
      s4.sat f x 1
    else s4

/-- A scrub ends (R191). -/
def State.scrubEnd (s : State) (x : Nat) : State :=
  ((((s.updSlice x (fun l => { l with scrub := none })).wr F.SLC_SCRUB_CTL_RUNNING x 0).wr F.SLC_SCRUB_CTL_START x 0).wr
    F.SLC_SCRUB_CTL_DONE x 1)

/-- The scrubber reads the lines of its next chunk (R191). -/
def State.scrubChunk (s : State) (x : Nat) (errs : List MemErr) : State :=
  match (s.tile x).slice.scrub with
  | none => s
  | some b =>
    if b.abort then s.scrubEnd x
    else
      let n := min (8 - b.pos % 8) (b.stop - b.pos)
      if s.unitHeld x (b.pos * 64 / 512 * 512) 512 then s
      else
        let s1 := (List.range n).foldl (fun a i => a.scrubLine x (b.pos + i) errs) s
        if b.pos + n = b.stop then s1.scrubEnd x
        else s1.updSlice x (fun l => { l with scrub := some { b with pos := b.pos + n } })

/-- An open cycle serves, in this order, a deferred inbound access, a queued request, a write-back, a scrub chunk (R167). -/
def State.openServe (s : State) (x : Nat) (errs : List MemErr) : State :=
  if s.refreshing x || s.ownCycle x || s.sliceShut x then s
  else
    let l := (s.tile x).slice
    let free (a : Acc) : Bool := !s.unitHeld x (a.dpa % 2 ^ 33) a.len
    match l.pickDeferred free with
    | some a => (((s.updSlice x (fun m => { m with defer := m.defer.erase a })).intrusion x (s.gclk - a.due)).accLate a).serveAcc x a 0 errs
    | none =>
      match l.pickRequest free with
      | some (a, pr) =>
        (s.updSlice x (fun m => if pr then { m with
            prio := m.prio.erase a, prioRun := if m.norm.isEmpty then 0 else m.prioRun + 1 }
          else { m with norm := m.norm.erase a, prioRun := 0 })).serveAcc x a 1 errs
      | none =>
        if !l.wbuf.isEmpty then s.drainOne x
        else if !l.corrected.isEmpty then s.writeBackCorrected x
        else s.scrubChunk x errs

/-- OPEN_CYCLE_SERVE (R167). -/
def execOpenCycleServe (t : Nat) (x : TileIx) (errs : List MemErr) (s : State) : Result :=
  .next ((s.tick t).openServe x errs)

/-! ### Refresh (R181 to R183) -/

/-- DEFICIT shows the owed refreshes (R193). -/
def State.setOwed (s : State) (x n : Nat) : State :=
  (s.updSlice x (fun l => { l with owed := n })).wr F.SLC_STATUS_DEFICIT x (min n 15)

/-- A band takes effect (R181), with HOT_BAND attention above the declared band (R340). -/
def State.takeBand (s : State) (x : Nat) : State :=
  match (s.tile x).slice.bandDue with
  | none => s
  | some b =>
    let s1 := ((s.updSlice x (fun l => { l with bandDue := none })).wr F.SLC_STATUS_BAND x b).wr F.SLC_STATUS_DERATED x
      (bit (b == 2))
    let s2 := s1.marginAbort 7 (fun r => r.kind == 0 && r.ix == x && r.set == 0)
    if s.rd F.SLC_STATUS_DECL_BAND x < b then s2.attn F.ATT_PENDING_HOT_BAND else s2

/-- A slot time of a slice (R182, R183): a beat of the declared band's pattern begins a slot, in which the slice refreshes if its
band needs it; a beat that only the current band's pattern holds is owed, unless a rest frame serves it. -/
def State.refreshSlot (s : State) (x : Nat) : State :=
  let d := (s.beatNow : Int) - 4 * (s.homeField x : Nat)
  let onBand (k : Nat) : Bool := d % (1024 / 2 ^ k : Nat) == 0
  let declared := onBand (s.rd F.SLC_STATUS_DECL_BAND x)
  let s1 := if declared then s.takeBand x else s
  if !onBand (s1.rd F.SLC_STATUS_BAND x) then s1
  else if declared || s1.beat.rest then s1.updSlice x (fun l => { l with refreshEnd := s1.now + 128 })
  else
    let n := (s1.tile x).slice.owed + 1
    let s2 := s1.setOwed x n
    if n == 8 && !(s1.tile x).slice.restIssued then
      (s2.updSlice x (fun l => { l with restIssued := true })).issueRest
    else s2

/-- REFRESH_SLOT (R182). -/
def execRefreshSlot (t : Nat) (x : TileIx) (s : State) : Result := .next ((s.tick t).refreshSlot x)

/-! ### Data that leaves a slice (R168) -/

/-- The data of the first delivery that is due reaches its taker. -/
def State.sliceDeliver (s : State) (x : Nat) : State :=
  match (s.tile x).slice.deliver.find? (fun d => decide (d.due ≤ s.gclk)) with
  | none => s
  | some d =>
    let s1 := s.updSlice x (fun l => { l with deliver := l.deliver.erase d })
    match d.acc.src with
    | .own _ _ addr => if d.bad then s1.poisonRows x (addr / 64) 8 else s1.tsWrite x addr d.data
    | .tile y c =>
      if d.bad then s1.chanCode y c d.acc.job 0x12 0
      else s1.chunkOut y c d.acc.job (s.dpaEnd d.acc.dpa) d.data
    | _ => if d.bad then s1.answer d.acc 0x12 [] else s1.answer d.acc 0 d.data

/-- SLICE_READ_DELIVER (R168). -/
def execSliceReadDeliver (t : Nat) (x : TileIx) (s : State) : Result := .next ((s.tick t).sliceDeliver x)

/-! ### The slice slot (R172, R173) -/

/-- OP of a slice slot. -/
def slOp (w : Nat) : Nat := bitsAt w 0 4
/-- CACHED. -/
def slCached (w : Nat) : Bool := w.testBit 4
/-- COUNT. -/
def slCount (w : Nat) : Nat := bitsAt w 12 8
/-- The tile-store address of chunk c. -/
def slTs (w c : Nat) : Nat := (bitsAt w 20 16 + c) * 512
/-- The own-slice chunk number of chunk c. -/
def slChunk (w c : Nat) : Nat := bitsAt w 36 24 + c

/-- A slice slot is taken up; COUNT 0 completes at once. -/
def State.sliceStart (s : State) (x op : Nat) : State :=
  match s.takeSlot x (fun sl => sl.kind == 4 && slOp sl.word == op) with
  | none => s
  | some (sl, s1) =>
    if slCount sl.word = 0 then s1
    else (s1.updSlice x (fun l => { l with slot := some ⟨sl.k, sl.word, sl.cyc, 0, false, none⟩ })).updTile x (fun t => { t with
      sliceEnd := sl.cyc + slCount sl.word })

/-- READ (R172). -/
def execSliceRead (t : Nat) (x : TileIx) (s : State) : Result := .next ((s.tick t).sliceStart x 1)
/-- WRITE (R172). -/
def execSliceWrite (t : Nat) (x : TileIx) (s : State) : Result := .next ((s.tick t).sliceStart x 2)
/-- FLUSH (R172). -/
def execSliceFlush (t : Nat) (x : TileIx) (s : State) : Result := .next ((s.tick t).sliceStart x 3)
/-- INVAL (R172). -/
def execSliceInval (t : Nat) (x : TileIx) (s : State) : Result := .next ((s.tick t).sliceStart x 4)
/-- FLUSH_INVAL (R172). -/
def execSliceFlushInval (t : Nat) (x : TileIx) (s : State) : Result := .next ((s.tick t).sliceStart x 5)

/-- Buffered victims of a chunk written back, as part of a flush. -/
def State.flushBuffered (s : State) (x chunk : Nat) : State :=
  ((s.tile x).slice.wbuf.filter (fun c => c.chunk == chunk)).foldl (fun a c =>
    (a.updSlice x (fun l => { l with wbuf := l.wbuf.erase c })).writeBackLine x c) s

/-- A READ of one chunk (R173, R174, R186). -/
def State.slotRead (s : State) (x : Nat) (r : SliceRun) (errs : List MemErr) : State :=
  let ch := slChunk r.word r.next
  let y := s.sliceReadBytes x (ch * 512) 512 0 errs
  let bad := y.2.2.isSome
  let s1 := if slCached r.word && !bad then y.2.1.cacheAlloc x ch false y.1 else y.2.1
  let a : Acc := ⟨.own r.k r.next (slTs r.word r.next), .read, sliceBase x + ch * 512, 512, [], s.gclk, false, false, 0⟩
  let s2 := s1.deliverFrom x a y.1 bad
  if bad && !r.failed then s2.trapOne x r.k 0x27 (min r.next 0x7FFF) else s2

/-- A WRITE of one chunk (R55, R173, R174). A poisoned source row is not written to the slice. -/
def State.slotWrite (s : State) (x : Nat) (r : SliceRun) (errs : List MemErr) : State :=
  let ch := slChunk r.word r.next
  let a := slTs r.word r.next
  let s1 := s.tsErrs x a 512 (storeErrs errs)
  match s1.firstPoison x a 512 with
  | some row => if r.failed then s1 else s1.trapOne x r.k 2 (rowBank row)
  | none =>
    let d := s1.tsRead x a 512
    if slCached r.word then (s1.cacheAlloc x ch true d).pchUpdate (sliceBase x + ch * 512) d
    else s1.sliceWriteBytes x (ch * 512) 0 d

/-- Whether a chunk of the slice slot fails. -/
def State.slotFails (s : State) (x : Nat) (r : SliceRun) (errs : List MemErr) : Bool :=
  match slOp r.word with
  | 1 => (s.sliceReadBytes x (slChunk r.word r.next * 512) 512 0 errs).2.2.isSome
  | 2 => ((s.tsErrs x (slTs r.word r.next) 512 (storeErrs errs)).firstPoison x (slTs r.word r.next) 512).isSome
  | _ => false

/-- The slice slot serves its next chunk, unless a refresh or a bank unit holds it (R170, R173). -/
def State.slotChunk (s : State) (x : Nat) (errs : List MemErr) : State :=
  match (s.tile x).slice.slot with
  | none => s
  | some r =>
    if s.gclk < r.origin + r.next then s
    else if s.ownHeld x (slChunk r.word r.next * 512) 512 then
      s.updSlice x (fun l => { l with slot := some { r with held := some (r.held.getD s.gclk) } })
    else
      let ch := slChunk r.word r.next
      let s0 := match r.held with
        | some h => s.intrusion x (s.gclk - h)
        | none => s
      let s1 := match slOp r.word with
        | 1 => s0.slotRead x r errs
        | 2 => s0.slotWrite x r errs
        | 3 => (s0.flushBuffered x ch).flushChunk x ch
        | 4 => s0.invalChunk x ch
        | _ => ((s0.flushBuffered x ch).flushChunk x ch).invalChunk x ch
      let n := r.next + 1
      let q := if n = slCount r.word then none
        else some { r with next := n, held := none, failed := r.failed || s0.slotFails x r errs }
      (s1.updSlice x (fun l => { l with slot := q })).noteShift x 5 (s.gclk - (r.origin + r.next))

/-- SLICE_SLOT_CHUNK (R173). -/
def execSliceSlotChunk (t : Nat) (x : TileIx) (errs : List MemErr) (s : State) : Result := .next ((s.tick t).slotChunk x errs)

/-! ### Scrubbing, the flip mask and pier-cache invalidation -/

/-- SCRUB_START (R191, R196): the write of SLC_SCRUB_CTL that sets START. -/
def execScrubStart (t : Nat) (x : TileIx) (value : Word32) (s : State) : Result :=
  let v := value.toNat
  let s0 := (s.tick t).wr F.SLC_SCRUB_CTL_WRITEBACK x (bitsAt v 5 1)
  let s1 := if v.testBit 3 then s0.wr F.SLC_SCRUB_CTL_DONE x 0 else s0
  let s2 := if v.testBit 4 then s1.wr F.SLC_SCRUB_CTL_RANGE_ERR x 0 else s1
  if !v.testBit 0 || s2.rd F.SLC_SCRUB_CTL_RUNNING x == 1 then .next s2
  else
    let base := s2.rd F.SLC_SCRUB_RANGE_BASE_LINE x
    let n := s2.rd F.SLC_SCRUB_RANGE_LINES x
    if 2 ^ 27 < base + n then .next (s2.wr F.SLC_SCRUB_CTL_RANGE_ERR x 1)
    else
      let s3 := (((s2.wr F.SLC_SCRUB_SUM_CORR x 0).wr F.SLC_SCRUB_SUM_UNCORR x 0).wr F.SLC_SCRUB_ADDR_FIRST x 0).wr
        F.SLC_SCRUB_ADDR_LAST x 0
      let s4 := (((s3.wr F.SLC_SCRUB_EXT_CORR_COURSE0 x 0).wr F.SLC_SCRUB_EXT_CORR_COURSE1 x 0).wr
        F.SLC_SCRUB_EXT_CORR_COURSE2 x 0).wr F.SLC_SCRUB_EXT_CORR_COURSE3 x 0
      if n = 0 then .next (s4.wr F.SLC_SCRUB_CTL_DONE x 1)
      else
        let s5 := ((s4.wr F.SLC_SCRUB_CTL_START x 1).wr F.SLC_SCRUB_CTL_RUNNING x 1).wr F.SLC_SCRUB_CTL_DONE x 0
        .next (s5.updSlice x (fun l => { l with scrub := some ⟨base, base + n, v.testBit 1⟩ }))

/-- SCRUB_ABORT (R191). -/
def execScrubAbort (t : Nat) (x : TileIx) (s : State) : Result :=
  .next ((s.tick t).updSlice x (fun l => { l with scrub := l.scrub.map (fun b => { b with abort := true }) }))

/-- FLIP_MASK_ARM (R190, R195): the write of SLC_FLIP_MASK that sets ARM. While ARM is 1 a write is ignored and recorded. -/
def execFlipMaskArm (t : Nat) (x : TileIx) (value : Word64) (s : State) : Result :=
  let v := value.toNat
  let s0 := s.tick t
  if s0.rd F.SLC_FLIP_MASK_ARM x = 1 then .next (s0.noteWrite (tileReg x 0x610))
  else
    let s1 := ((((((s0.wr F.SLC_FLIP_MASK_PATH x (bitsAt v 1 2)).wr F.SLC_FLIP_MASK_DIE x (bitsAt v 3 1)).wr
      F.SLC_FLIP_MASK_SYM_A x (bitsAt v 8 5)).wr F.SLC_FLIP_MASK_EN_B x (bitsAt v 13 1)).wr
      F.SLC_FLIP_MASK_SYM_B x (bitsAt v 16 5)).wr F.SLC_FLIP_MASK_PATTERN x (bitsAt v 32 16))
    .next (if v.testBit 0 then s1.wr F.SLC_FLIP_MASK_ARM x 1 else s1)

/-- Whether a line of the pier cache lies in an invalidation's range, through some aperture field that names its position
(R162, R200). -/
def State.inInval (s : State) (p : Nat) (l : PLine) : Bool :=
  l.line / 2 ^ 30 == p &&
  (s.rd F.PCH_INVAL_ALL p == 1 ||
    (List.range 13).any (fun f =>
      let n := f * 2 ^ 26 + l.line % 2 ^ 26
      s.rd F.SLC_APT_PHYS (p * 13 + f) == l.line / 2 ^ 26 % 16 && decide (s.rd F.PCH_INVAL_LINE p ≤ n) &&
        decide (n < s.rd F.PCH_INVAL_LINE p + s.rd F.PCH_INVAL_COUNT p)))

/-- PCH_INVAL (R200): the write of the register; while GO is 1 it is ignored and recorded. -/
def execPchInval (t : Nat) (p : PierIx) (value : Word64) (s : State) : Result :=
  let v := value.toNat
  let s0 := s.tick t
  if s0.rd F.PCH_INVAL_GO p = 1 then .next (s0.noteWrite (0x780000 + p.val * 0x1000 + 0x110))
  else
    let s1 := ((s0.wr F.PCH_INVAL_ALL p (bitsAt v 1 1)).wr F.PCH_INVAL_LINE p (bitsAt v 4 30)).wr F.PCH_INVAL_COUNT p
      (bitsAt v 34 30)
    .next (if v.testBit 0 && (v.testBit 1 || bitsAt v 34 30 != 0) then s1.wr F.PCH_INVAL_GO p 1 else s1)

/-- PCH_INVAL_DONE (R200). -/
def execPchInvalDone (t : Nat) (p : PierIx) (s : State) : Result :=
  let s1 := s.tick t
  if s1.rd F.PCH_INVAL_GO p = 1 then
    .next (({ s1 with pch := s1.pch.filter (fun l => !s1.inInval p l) } : State).wr F.PCH_INVAL_GO p 0)
  else .next s1

/-! ### The one-entry latches (R254) -/

/-- Whether a unit has finished its earlier work: partitions 0 to 3, 4 the MV path, 5 the slice slot, 6 the store slot,
16 + c channel c. -/
def State.unitFree (s : State) (x u : Nat) : Bool :=
  let t := s.tile x
  if u < 4 then
    let p := s.part x u
    p.load.isNone && decide (p.streamEnd + Tab.get 0 t.eng.shift u ≤ s.gclk)
  else if u = 4 then
    t.mv.all (fun m => decide (mdSpan m.desc ≤ m.chunk)) && decide (t.mvEnd + Tab.get 0 t.eng.shift 4 ≤ s.gclk)
  else if u = 5 then t.slice.slot.isNone
  else if 16 ≤ u then s.rd F.SEQ_XCH_STATUS_STATE (x * 16 + (u - 16)) != 1
  else true

/-- LATCHED_WORK_START (R254): the work in a unit's latch begins once the unit is free, late by the unit's shift. -/
def State.latchStart (s : State) (x u : Nat) : State :=
  match Tab.find (s.tile x).eng.latch u with
  | none => s
  | some sl =>
    if s.unitFree x u then
      (s.updEng x (fun e => { e with latch := Tab.drop e.latch u, slots := e.slots ++ [sl] })).noteShift x u (s.gclk - sl.cyc)
    else s

/-- LATCHED_WORK_START (R254). -/
def execLatchedWorkStart (t : Nat) (x : TileIx) (unit : Nat) (s : State) : Result := .next ((s.tick t).latchStart x unit)

end Sys2Proof.Machine
end

