-- ==== Sys2Proof/Machine/BankOps.lean ====
section
/-! DEFINITION. What the words of a bank unit's micro-program share (R201 to R208, R222, R223): fetching and checking a word, faults,
registers, cycles and segments. -/

namespace Sys2Proof.Machine

/-! ### Words (R205, R206) -/

/-- OP. -/
def bwOp (w : Nat) : Nat := bitsAt w 0 8
/-- SEG_END. -/
def bwSegEnd (w : Nat) : Bool := w.testBit 8
/-- DST. -/
def bwDst (w : Nat) : Nat := bitsAt w 9 3
/-- SRC_A. -/
def bwA (w : Nat) : Nat := bitsAt w 12 3
/-- SRC_B. -/
def bwB (w : Nat) : Nat := bitsAt w 15 3
/-- FORM. -/
def bwForm (w : Nat) : Nat := bitsAt w 18 4
/-- SREG. -/
def bwSreg (w : Nat) : Nat := bitsAt w 22 3
/-- IMM. -/
def bwImm (w : Nat) : Nat := bitsAt w 32 32

/-- Operations of R206. -/
def bkuOps : List Nat :=
  [0x01, 0x02, 0x03, 0x04, 0x05, 0x06, 0x07, 0x08, 0x09, 0x0A, 0x0B, 0x10, 0x11, 0x12, 0x18, 0x19, 0x1A, 0x1B, 0x1C]

/-- The source and target of a CVT, if the combination is not reserved (R207). -/
def cvtPlan (w : Nat) : Option (Fmt × Fmt × Nat × Nat) :=
  let imm := bwImm w
  match fmtOfCode (bitsAt imm 8 8), fmtOfCode (bitsAt imm 0 8) with
  | some f, some g =>
    let six := f == .mxE3m2 || f == .mxE2m3
    let packed := imm.testBit 25
    let okSrc := fmtIsMx f || f == .bf16 || f == .fp32 || (!fmtBlocked f && decide (fmtBits f ≤ 8))
    let okDst := g == .fp32 || g == .bf16 || g == .int32
    let width := if six && !packed then 8 else fmtBits f
    let n := 1024 / width
    let regs := ceilDiv (n * fmtBits g) 1024
    if okSrc && okDst && (!packed || six) && decide (bwDst w + regs ≤ 8) &&
        (!fmtIsMx f || decide (bitsAt imm 16 8 + ceilDiv n 32 ≤ 128)) then some (f, g, width, regs)
    else none
  | _, _ => none

/-- Whether a word is legal (R205 to R207): a defined OP, a defined FORM, reserved bits 0, a CVT that is not reserved. -/
def wordLegal (w : Nat) : Bool :=
  bkuOps.contains (bwOp w) && decide (bwForm w ≤ 2) && bitsAt w 25 7 == 0 && (bwOp w != 9 || (cvtPlan w).isSome)

/-- Cycles of a word (R206). -/
def wordCycles (w : Nat) : Nat :=
  match bwOp w with
  | 0x01 => 32 | 0x02 => 32
  | 0x09 => 4 * (match cvtPlan w with | some p => p.2.2.2 | none => 1)
  | 0x0B => 1
  | 0x10 => 8 | 0x11 => 8 | 0x12 => 8
  | 0x18 => 1 | 0x19 => 1 | 0x1A => 1 | 0x1B => 1
  | 0x1C => 1 + bitsAt (bwImm w) 0 10
  | _ => 2

/-! ### Units -/

/-- A bank unit. -/
def State.bku (s : State) (x u : Nat) : Bku := Tab.get Bku.idle (s.tile x).units u
/-- A bank unit changed. -/
def State.updBku (s : State) (x u : Nat) (f : Bku → Bku) : State :=
  s.updTile x (fun t => { t with units := Tab.upd Bku.idle t.units u f })
/-- Whether a unit is retired (R33). -/
def State.bkuRetired (s : State) (x u : Nat) : Bool := (s.tile x).facts.bkuRetired.testBit u
/-- A working register. -/
def Bku.reg (b : Bku) (r : Nat) : Nat := Tab.get 0 b.w r
/-- A working register written. -/
def Bku.setReg (b : Bku) (r v : Nat) : Bku := { b with w := Tab.put 0 b.w r (v % 2 ^ 1024) }
/-- A scalar register. -/
def Bku.sreg (b : Bku) (r : Nat) : Nat := Tab.get 0 b.s r
/-- A scalar register written. -/
def Bku.setSreg (b : Bku) (r v : Nat) : Bku := { b with s := Tab.put 0 b.s r (v % 2 ^ 32) }

/-- Bytes of a command area replaced (R210). -/
def Bku.setArea (b : Bku) (off : Nat) (bs : Bytes) : Bku := { b with area := patch b.area off bs }

/-- The STATE code of R210. -/
def BkuState.code : BkuState → Nat
  | .idle => 0 | .running => 1 | .faulted => 2 | .frozen => 3

/-- STATUS of a command area (R210). -/
def Bku.putStatus (b : Bku) (aborted : Bool) (cause : Nat) : Bku :=
  b.setArea 64 (leBytes 4 (b.st.code + b.k % 4 * 4 + 16 * bit aborted + 256 * cause + b.word * 65536))

/-- The segment limit (R213). -/
def State.segLimit (s : State) (x : Nat) : Nat := if s.rd F.BKU_CTL_SHORT_SEG x = 1 then 512 else 1024

/-- A unit faults at its word (R222, R223). -/
def State.bkuFault (s : State) (x u cause : Nat) : State :=
  let b := s.bku x u
  let s1 := s.updBku x u (fun c => ({ c with st := .faulted, word := c.pc, boundary := false, begun := false } : Bku).putStatus
    false cause)
  let s2 := ((s1.wrBit F.BKU_READY_READY x u true).wrBit F.BKU_FAULTED_FAULTED x u true).sat F.BKU_COUNT_FAULTS x 1
  let s3 := if cause = 9 then s2.updTile x (fun t => { t with facts := { t.facts with
      bkuPend := t.facts.bkuPend ||| 2 ^ u } }) else s2
  s3.trapOne x b.k 6 (u + 256 * cause)

/-- The word at an address of a unit's store: firmware's below 64, the image's above (R204). -/
def Bku.fetch (b : Bku) (a : Nat) : Nat := if a < 64 then (Config.housekeepingWord a).toNat else Tab.get 0 b.store a

/-- What a unit does when a word command reaches it: nothing, a fault, an inserted boundary, or its word. -/
inductive WordRun where
  | idle
  | fault (cause : Nat)
  | boundary
  | run (w : Nat)
deriving DecidableEq, Repr

/-- The next word of a unit against a word command (R204, R206, R213, R223). -/
def State.wordRun (s : State) (x u op : Nat) (e : WordErr) : WordRun :=
  let b := s.bku x u
  if b.st ≠ .running ∨ !b.begun ∨ b.ended ∨ b.boundary ∨ s.now < b.next then .idle
  else
    let w := b.fetch b.pc
    if e = .store then .fault 4
    else if !wordLegal w ∨ s.segLimit x < wordCycles w then .fault 1
    else if bwOp w ≠ op then .idle
    else if s.segLimit x < b.segLen + wordCycles w then .boundary
    else if e = .datapath then .fault 9
    else .run w

/-- A word has run: the unit goes on at `pc` when its cycles end, or stands at a boundary (R206, R213). -/
def Bku.advance (b : Bku) (w pc : Nat) : Bku :=
  { b with
    word := b.pc, pc := pc % 1024, next := b.next + wordCycles w, segLen := b.segLen + wordCycles w,
    boundary := bwSegEnd w || bwOp w == 0x1B, ended := bwOp w == 0x1B }

/-- A word command: `f` is the effect of the word on the state, or the cause of its fault. -/
def State.wordStep (s : State) (x u op : Nat) (e : WordErr) (f : Nat → State → Except (State × Nat) State) : State :=
  match s.wordRun x u op e with
  | .idle => s
  | .fault c => s.bkuFault x u c
  | .boundary => s.updBku x u (fun b => { b with boundary := true })
  | .run w => match f w s with
    | .error r => r.1.bkuFault x u r.2
    | .ok s1 => s1.updBku x u (fun b => b.advance w (b.pc + 1))

/-! ### Arithmetic (R206, R208) -/

/-- Bits of an element of a form. -/
def bkuBits (form : Nat) : Nat := if form = 1 then 16 else 32
/-- The floating-point format of a form. -/
def bkuFloat (form : Nat) : FloatFmt := if form = 1 then ffBf16 else ffFp32

/-- A three-operand operation on each element of A, B and W[DST]. -/
def elementwise (form : Nat) (f : Nat → Nat → Nat → Nat × Flags) (a b d : Nat) : Nat × Flags :=
  let n := bkuBits form
  let rs := (List.range (1024 / n)).map (fun i => f (streamElem a n i) (streamElem b n i) (streamElem d n i))
  (packStream n (rs.map (fun r => r.1)), rs.foldl (fun z r => z ||| r.2) 0)

/-- An elementwise word. -/
def State.elemWord (s : State) (x u op : Nat) (e : WordErr) (f : Nat → Nat → Nat → Nat → Nat → Nat × Flags) : State :=
  s.wordStep x u op e (fun w s =>
    let b := s.bku x u
    let r := elementwise (bwForm w) (f (bwForm w) (bwImm w)) (b.reg (bwA w)) (b.reg (bwB w)) (b.reg (bwDst w))
    .ok ((s.updBku x u (fun c => c.setReg (bwDst w) r.1)).setFlags x b.k r.2))

/-- ADD of one element. -/
def bkuAdd (form a b : Nat) : Nat × Flags := if form = 2 then ((a + b) % 2 ^ 32, 0) else ffAdd (bkuFloat form) a b

/-- The block a LD or ST names, as its slice offset; `none` outside the bounds (R201, R206, R210). -/
def State.bkuBlock (s : State) (x u w : Nat) : Option Nat :=
  let b := s.bku x u
  let n := (b.sreg (bwSreg w) + bitsAt (bwImm w) 0 20) % 2 ^ 20
  let off := (n <<< 13) + ((u % 16) <<< 9) + ((u / 16) <<< 7)
  if n < bitsAt (fieldAt b.area 40 4) 0 20 ∨ bitsAt (fieldAt b.area 44 4) 0 20 < n ∨ s.mirrorBase x < off + 128 then none
  else some off

/-! ### The chain ring (R203) -/

/-- The ring index of a unit. -/
def ringOf (u : Nat) : Nat := if u / 16 % 2 = 0 then u else u / 16 * 16 + (15 - u % 16)
/-- The unit at a ring index; the map is its own inverse. -/
def unitAt (k : Nat) : Nat := ringOf (k % 64)

/-- The next working unit along the ring and the hops to it (R203). -/
def State.successorFrom (s : State) (x : Nat) : Nat → Nat → Nat → Nat × Nat
  | 0, k, h => (unitAt k, h)
  | n + 1, k, h => if s.bkuRetired x (unitAt (k + 1)) then s.successorFrom x n (k + 1) (h + 1) else (unitAt (k + 1), h + 1)

/-- The unit that receives what a unit sends, and the hops to it. -/
def State.successor (s : State) (x u : Nat) : Nat × Nat := s.successorFrom x 63 (ringOf u) 0

/-- A value sent by a unit; none if its successor's chain input is still valid (R206). -/
def State.chainSend (s : State) (x u v : Nat) : Option State :=
  let t := s.successor x u
  if (s.bku x t.1).chain.isSome then none
  else some (s.updTile x (fun z => { z with chain := z.chain ++ [⟨t.1, (s.bku x u).next + 8 * t.2, v⟩] }))

end Sys2Proof.Machine
end

