-- ==== Sys2Proof/Machine/Bank.lean ====
section
/-! DEFINITION. The bank units' words and commands (R201 to R226). -/

namespace Sys2Proof.Machine

/-! ### Words -/

/-- BKU_LD (R206, R210, R223, R224): a block is read from DRAM into W[DST]. -/
def execBkuLd (t : Nat) (x : TileIx) (u : UnitIx) (e : WordErr) (errs : List MemErr) (s : State) : Result :=
  .next ((s.tick t).wordStep x u 0x01 e (fun w s =>
    match s.bkuBlock x u w with
    | none => .error (s, 2)
    | some off =>
      let r := s.dramTouch x off 128 6 errs
      match r.2 with
      | some _ => .error (r.1, 3)
      | none => .ok (r.1.updBku x u (fun b => b.setReg (bwDst w) (leVal (s.dram x off 128))))))

/-- BKU_ST (R206, R210, R218): a block is written to DRAM; no cache sees it. -/
def execBkuSt (t : Nat) (x : TileIx) (u : UnitIx) (e : WordErr) (s : State) : Result :=
  .next ((s.tick t).wordStep x u 0x02 e (fun w s =>
    match s.bkuBlock x u w with
    | none => .error (s, 2)
    | some off => .ok (s.dramWrite x off 3 (leBytes 128 ((s.bku x u).reg (bwA w))))))

/-- BKU_ADD (R206). -/
def execBkuAdd (t : Nat) (x : TileIx) (u : UnitIx) (e : WordErr) (s : State) : Result :=
  .next ((s.tick t).elemWord x u 0x03 e (fun form _ a b _ => bkuAdd form a b))

/-- BKU_MUL (R206). -/
def execBkuMul (t : Nat) (x : TileIx) (u : UnitIx) (e : WordErr) (s : State) : Result :=
  .next ((s.tick t).elemWord x u 0x04 e (fun form _ a b _ =>
    if form = 2 then (a * b % 2 ^ 32, 0) else ffMul (bkuFloat form) a b))

/-- BKU_FMA (R206). -/
def execBkuFma (t : Nat) (x : TileIx) (u : UnitIx) (e : WordErr) (s : State) : Result :=
  .next ((s.tick t).elemWord x u 0x05 e (fun form _ a b d =>
    if form = 2 then ((a * b + d) % 2 ^ 32, 0) else ffFma (bkuFloat form) a b d))

/-- BKU_MAX (R206); INT32 elements compare as signed numbers (R84). -/
def execBkuMax (t : Nat) (x : TileIx) (u : UnitIx) (e : WordErr) (s : State) : Result :=
  .next ((s.tick t).elemWord x u 0x06 e (fun form _ a b _ =>
    if form = 2 then (if signed 32 a < signed 32 b then b else a, 0) else (maxMin (bkuFloat form) true a b, 0)))

/-- BKU_MIN (R206). -/
def execBkuMin (t : Nat) (x : TileIx) (u : UnitIx) (e : WordErr) (s : State) : Result :=
  .next ((s.tick t).elemWord x u 0x07 e (fun form _ a b _ =>
    if form = 2 then (if signed 32 b < signed 32 a then b else a, 0) else (maxMin (bkuFloat form) false a b, 0)))

/-- BKU_SCALE (R206): IMM is FP32 for the floating-point forms, with one rounding into the form. -/
def execBkuScale (t : Nat) (x : TileIx) (u : UnitIx) (e : WordErr) (s : State) : Result :=
  .next ((s.tick t).elemWord x u 0x08 e (fun form imm a _ _ =>
    if form = 2 then (a * imm % 2 ^ 32, 0)
    else
      let r := mulV (ffDecode (bkuFloat form) a) (ffDecode ffFp32 imm)
      let p := arithRound (bkuFloat form) r.1
      (p.1, r.2 ||| p.2)))

/-- The value of element i of a CVT source (R207). -/
def cvtElem (f : Fmt) (width data scales byte0 i : Nat) : Val :=
  let raw := streamElem data width i % 2 ^ fmtBits f
  if fmtIsMx f then mxVal f raw (streamElem scales 8 (byte0 + i / 32)) else elemVal f raw

/-- BKU_CVT (R207). -/
def execBkuCvt (t : Nat) (x : TileIx) (u : UnitIx) (e : WordErr) (s : State) : Result :=
  .next ((s.tick t).wordStep x u 0x09 e (fun w s =>
    match cvtPlan w with
    | none => .error (s, 1)
    | some (f, g, width, regs) =>
      let b := s.bku x u
      let imm := bwImm w
      let rs := (List.range (1024 / width)).map (fun i =>
        let v := cvtElem f width (b.reg (bwA w)) (b.reg (bwB w)) (bitsAt imm 16 8) i
        match fmtFloat g with
        | some ff => convFloat ff (imm.testBit 24) .rne v
        | none => convInt 32 .rne v)
      let data := packStream (fmtBits g) (rs.map (fun r => r.1))
      let s1 := (List.range regs).foldl (fun a i => a.updBku x u (fun c => c.setReg (bwDst w + i) (bitsAt data (1024 * i) 1024))) s
      .ok (s1.setFlags x b.k (rs.foldl (fun z r => z ||| r.2) 0))))

/-- The condition of a CSEL (R206); a comparison with NaN is false (R86). -/
def cselCond (form c a b : Nat) : Bool :=
  let lt (p q : Nat) : Bool :=
    if form = 2 then decide (signed 32 p < signed 32 q) else ltV (ffDecode (bkuFloat form) p) (ffDecode (bkuFloat form) q)
  let eq : Bool :=
    if form = 2 then a == b
    else
      let va := ffDecode (bkuFloat form) a
      let vb := ffDecode (bkuFloat form) b
      !va.isNan && !vb.isNan && !ltV va vb && !ltV vb va
  match c with
  | 0 => lt a b
  | 1 => lt a b || eq
  | 2 => eq
  | _ => lt b a

/-- BKU_CSEL (R206). -/
def execBkuCsel (t : Nat) (x : TileIx) (u : UnitIx) (e : WordErr) (s : State) : Result :=
  .next ((s.tick t).elemWord x u 0x0A e (fun form imm a b d => (if cselCond form (bitsAt imm 0 2) a b then a else d, 0)))

/-- BKU_MOV (R206). -/
def execBkuMov (t : Nat) (x : TileIx) (u : UnitIx) (e : WordErr) (s : State) : Result :=
  .next ((s.tick t).wordStep x u 0x0B e (fun w s =>
    .ok (s.updBku x u (fun b => b.setReg (bwDst w) (b.reg (bwA w))))))

/-- CHOUT (R206). -/
def execChout (t : Nat) (x : TileIx) (u : UnitIx) (e : WordErr) (s : State) : Result :=
  .next ((s.tick t).wordStep x u 0x10 e (fun w s =>
    match s.chainSend x u ((s.bku x u).reg (bwA w)) with
    | none => .error (s, 8)
    | some s1 => .ok s1))

/-- CHIN (R206). -/
def execChin (t : Nat) (x : TileIx) (u : UnitIx) (e : WordErr) (s : State) : Result :=
  .next ((s.tick t).wordStep x u 0x11 e (fun w s =>
    match (s.bku x u).chain with
    | none => .error (s, 8)
    | some v => .ok (s.updBku x u (fun b => { b.setReg (bwDst w) v with chain := none }))))

/-- CHADD (R206). -/
def execChadd (t : Nat) (x : TileIx) (u : UnitIx) (e : WordErr) (s : State) : Result :=
  .next ((s.tick t).wordStep x u 0x12 e (fun w s =>
    let b := s.bku x u
    match b.chain with
    | none => .error (s, 8)
    | some v =>
      let r := elementwise (bwForm w) (fun a c _ => bkuAdd (bwForm w) a c) (b.reg (bwA w)) v 0
      match s.chainSend x u r.1 with
      | none => .error (s, 8)
      | some s1 => .ok ((s1.updBku x u (fun c => { c.setReg (bwDst w) r.1 with chain := none })).setFlags x b.k r.2)))

/-- BKU_SET (R206). -/
def execBkuSet (t : Nat) (x : TileIx) (u : UnitIx) (e : WordErr) (s : State) : Result :=
  .next ((s.tick t).wordStep x u 0x18 e (fun w s => .ok (s.updBku x u (fun b => b.setSreg (bwSreg w) (bwImm w)))))

/-- BKU_SADD (R206). -/
def execBkuSadd (t : Nat) (x : TileIx) (u : UnitIx) (e : WordErr) (s : State) : Result :=
  .next ((s.tick t).wordStep x u 0x19 e (fun w s =>
    .ok (s.updBku x u (fun b => b.setSreg (bwSreg w) (b.sreg (bwSreg w) + bwImm w)))))

/-- BKU_LOOP (R206): the branch is taken by leaving pc one word before its target. -/
def execBkuLoop (t : Nat) (x : TileIx) (u : UnitIx) (e : WordErr) (s : State) : Result :=
  let s1 := s.tick t
  match s1.wordRun x u 0x1A e with
  | .idle => .next s1
  | .fault c => .next (s1.bkuFault x u c)
  | .boundary => .next (s1.updBku x u (fun b => { b with boundary := true }))
  | .run w => .next (s1.updBku x u (fun b =>
      if b.sreg (bwSreg w) = 0 then b.advance w (b.pc + 1)
      else (b.setSreg (bwSreg w) (b.sreg (bwSreg w) - 1)).advance w (bitsAt (bwImm w) 0 10)))

/-- BKU_END (R206). -/
def execBkuEnd (t : Nat) (x : TileIx) (u : UnitIx) (e : WordErr) (s : State) : Result :=
  .next ((s.tick t).wordStep x u 0x1B e (fun _ s => .ok s))

/-- BKU_WAIT (R206). -/
def execBkuWait (t : Nat) (x : TileIx) (u : UnitIx) (e : WordErr) (s : State) : Result :=
  .next ((s.tick t).wordStep x u 0x1C e (fun _ s => .ok s))

/-- CHAIN_ARRIVE (R203): the first value due at a unit becomes its chain input (log entry 30 where one is still valid). -/
def execChainArrive (t : Nat) (x : TileIx) (u : UnitIx) (s : State) : Result :=
  let s1 := s.tick t
  match (s1.tile x).chain.find? (fun h => h.toward == u.val && decide (h.due ≤ s1.now)) with
  | none => .next s1
  | some h => .next ((s1.updTile x (fun z => { z with chain := z.chain.erase h })).updBku x u (fun b => { b with
      chain := match b.chain with | some v => some v | none => some h.value }))

/-! ### Segment boundaries (R213 to R216) -/

/-- Accesses that wait for a unit's banks (R216). -/
def State.heldFor (s : State) (x u : Nat) : Nat :=
  let t := s.tile x
  let hits (off n : Nat) : Bool := decide (bitsAt off 9 4 = u % 16) && decide (off % 512 < 128 * (u / 16 + 1)) &&
    decide (128 * (u / 16) < off % 512 + n)
  let own := match t.slice.slot with
    | some r => bit (r.held.isSome && hits (slChunk r.word r.next * 512) 512)
    | none => 0
  let mv := (t.mv.filter (fun m => m.held.isSome && hits (s.ownOff (dsc m.desc 16 8) + 512 * m.chunk) 512)).length
  own + mv + ((t.slice.defer ++ t.slice.prio ++ t.slice.norm).filter (fun a => hits (a.dpa % 2 ^ 33) a.len)).length

/-- Slot times of the declared band from cycle a to cycle b (R182, R214). -/
def State.slotsBetween (s : State) (x a b : Nat) : Nat :=
  let per := 1024 / 2 ^ s.rd F.SLC_STATUS_DECL_BAND x
  let lo := s.beat.base + ceilDiv a 32
  let hi := s.beat.base + b / 32
  ((List.range (hi + 1 - lo)).filter (fun i => ((lo + i : Nat) - 4 * (s.homeField x : Nat) : Int) % per == 0)).length

/-- SEGMENT_BOUNDARY (R212 to R216): an aborted unit goes IDLE; under the clamp it freezes; otherwise it pauses at least 16 cycles
for held accesses and 128 for each refresh, or goes on at once. -/
def State.segBoundary (s : State) (x u : Nat) : State :=
  let b := s.bku x u
  if b.st ≠ .running ∨ !b.begun ∨ !b.boundary ∨ b.pauseEnd ≠ 0 ∨ b.ended ∨ s.now < b.next then s
  else if b.abort then
    (s.updBku x u (fun c => ({ c with st := .idle, begun := false, boundary := false, abort := false } : Bku).putStatus true 0)).wrBit
      F.BKU_READY_READY x u true
  else
    let held := s.heldFor x u
    let refs := s.slotsBetween x b.segStart b.next
    let s1 := ((s.sat F.BKU_COUNT_HOLDS x held).sat F.BKU_COUNT_REFRESH_PAUSES x refs).sat F.SLC_COUNT_INTRUSIONS x b.owed
    let pause := (if held = 0 then 0 else 16) + 128 * (refs + b.owed)
    let c : Bku := { b with
      refPauses := b.refPauses + refs, holdPauses := b.holdPauses + (if held = 0 then 0 else 1), owed := 0 }
    if s.frozen then
      s1.updBku x u (fun _ => ({ c with st := .frozen, pauseEnd := b.next + pause + 1 } : Bku).putStatus false 0)
    else if pause = 0 then
      s1.updBku x u (fun _ => { c with boundary := false, segStart := b.next, segLen := 0 })
    else s1.updBku x u (fun _ => { c with pauseEnd := b.next + pause })

/-- SEGMENT_BOUNDARY (R213). -/
def execSegmentBoundary (t : Nat) (x : TileIx) (u : UnitIx) (s : State) : Result := .next ((s.tick t).segBoundary x u)

/-- BKU_PAUSE_END (R214 to R216): the pause ends once its time is over and no access waits; a frozen unit resumes after the clamp,
and the cycles of the freeze count nowhere. -/
def State.pauseDone (s : State) (x u : Nat) : State :=
  let b := s.bku x u
  if b.st = .frozen then
    (if s.frozen then s
     else s.updBku x u (fun c => ({ c with
        st := .running, boundary := false, pauseEnd := 0, first := c.first + (s.now - c.next), next := s.now,
        segStart := s.now, segLen := 0 } : Bku).putStatus false 0))
  else if b.st ≠ .running ∨ !b.boundary ∨ b.pauseEnd = 0 ∨ s.now < b.pauseEnd ∨ s.heldFor x u ≠ 0 then s
  else s.updBku x u (fun c => { c with boundary := false, pauseEnd := 0, next := s.now, segStart := s.now, segLen := 0 })

/-- BKU_PAUSE_END (R214). -/
def execBkuPauseEnd (t : Nat) (x : TileIx) (u : UnitIx) (s : State) : Result := .next ((s.tick t).pauseDone x u)

/-- BKU_IDLE (R210, R212). -/
def State.bkuIdle (s : State) (x u : Nat) : State :=
  let b := s.bku x u
  if b.st ≠ .running ∨ !b.ended ∨ s.now < b.next + 4 then s
  else
    (s.updBku x u (fun c =>
      let d : Bku := { c with st := .idle, begun := false, boundary := false, ended := false, abort := false }
      (((((d.setArea 68 (leBytes 4 (fieldAt c.area 4 4))).setArea 72 (leBytes 4 (min (c.next - c.first) 0xFFFFFFFF))).setArea 76
        (leBytes 2 (min c.refPauses 0xFFFF))).setArea 78 (leBytes 2 (min c.holdPauses 0xFFFF))).setArea 80
        (leBytes 4 (c.sreg 0))).putStatus false 0)).wrBit F.BKU_READY_READY x u true

/-- BKU_IDLE (R212). -/
def execBkuIdle (t : Nat) (x : TileIx) (u : UnitIx) (s : State) : Result := .next ((s.tick t).bkuIdle x u)

/-! ### The bank slot (R209 to R212) -/

/-- OP of a bank slot. -/
def bsOp (w : Nat) : Nat := bitsAt w 0 4
/-- FIRST. -/
def bsFirst (w : Nat) : Nat := bitsAt w 4 6
/-- The last unit of the span. -/
def bsLast (w : Nat) : Nat := bitsAt w 4 6 + bitsAt w 10 6
/-- Units of a span. -/
def spanOf (first last : Nat) : List Nat := (List.range (last + 1 - first)).map (fun i => first + i)
/-- The image a GO or PROG names. -/
def State.bankImage (s : State) (x w : Nat) : Bytes := s.tsRead x (s.rd F.BKU_CMD_BASE_BASE x + 128 * bitsAt w 16 16) 128

/-- A GO or PROG is taken up; a GO for a tile that a margin run holds is ignored and recorded (R477). -/
def State.bankTake (s : State) (x op : Nat) : State :=
  match s.takeSlot x (fun sl => sl.kind == 6 && bsOp sl.word == op) with
  | none => s
  | some (sl, s1) => if op = 1 ∧ s1.marginTile x then s1.noteFw 9 x else s1.updTile x (fun t => { t with
      cmds := t.cmds ++ [⟨op == 1, sl.k, sl.cyc, bsFirst sl.word, bsLast sl.word, s.bankImage x sl.word, 0⟩] })

/-- GO (R212). -/
def execBkuGo (t : Nat) (x : TileIx) (s : State) : Result := .next ((s.tick t).bankTake x 1)
/-- PROG (R211). -/
def execBkuProg (t : Nat) (x : TileIx) (s : State) : Result := .next ((s.tick t).bankTake x 2)

/-- SYNC (R212): a unit of the span that is not IDLE traps the thread; INFO names the lowest one. -/
def execBkuSync (t : Nat) (x : TileIx) (s : State) : Result :=
  let s0 := s.tick t
  match s0.takeSlot x (fun sl => sl.kind == 6 && bsOp sl.word == 3) with
  | none => .next s0
  | some (sl, s1) =>
    match (spanOf (bsFirst sl.word) (bsLast sl.word)).find? (fun u => (s1.bku x u).st != .idle) with
    | none => .next s1
    | some u => .next (s1.trapOne x sl.k 6 (u + 256 * 5))

/-- ABORT (R212). -/
def execBkuAbort (t : Nat) (x : TileIx) (s : State) : Result :=
  let s0 := s.tick t
  match s0.takeSlot x (fun sl => sl.kind == 6 && bsOp sl.word == 4) with
  | none => .next s0
  | some (sl, s1) => .next ((spanOf (bsFirst sl.word) (bsLast sl.word)).foldl (fun a u =>
      if (a.bku x u).st = .running then a.updBku x u (fun b => { b with abort := true }) else a) s1)

/-- A unit takes its command area (R210, R212). -/
def Bku.load (b : Bku) (k : Nat) (img : Bytes) : Bku :=
  let sregs := (List.range 8).foldl (fun m i => Tab.put 0 m i (fieldAt img (8 + 4 * i) 4)) ([] : Tab Nat)
  let c : Bku := { b with
    st := .running, s := sregs, chain := if (fieldAt img 2 1).testBit 0 then none else b.chain, k := k,
    pc := bitsAt (fieldAt img 0 2) 0 10, word := bitsAt (fieldAt img 0 2) 0 10, begun := false, boundary := false, pauseEnd := 0,
    abort := false, ended := false, refPauses := 0, holdPauses := 0, owed := 0, segLen := 0 }
  (c.setArea 0 (img.take 64)).putStatus false 0

/-- The first delivered command that meets a test. -/
def State.bankCmd (s : State) (x : Nat) (p : BkuCmd → Bool) : Option BkuCmd := (s.tile x).cmds.find? p

/-- BKU_COMMAND_AREA_WRITE (R212). -/
def execBkuCommandAreaWrite (t : Nat) (x : TileIx) (s : State) : Result :=
  let s0 := s.tick t
  match s0.bankCmd x (fun c => c.go && c.stage == 0 && decide (c.origin + 16 ≤ s0.gclk)) with
  | none => .next s0
  | some c =>
    let s1 := s0.updTile x (fun z => { z with cmds := z.cmds.map (fun d => if d = c then { d with stage := 1 } else d) })
    .next ((spanOf c.first c.last).foldl (fun a u =>
      ((a.updBku x u (fun b => b.load c.k c.image)).wrBit F.BKU_READY_READY x u false).wrBit F.BKU_FAULTED_FAULTED x u false) s1)

/-- BKU_SEQUENCE_BEGIN (R212). -/
def execBkuSequenceBegin (t : Nat) (x : TileIx) (s : State) : Result :=
  let s0 := s.tick t
  match s0.bankCmd x (fun c => c.go && c.stage == 1 && decide (c.origin + 24 ≤ s0.gclk)) with
  | none => .next s0
  | some c =>
    let s1 := s0.updTile x (fun z => { z with cmds := z.cmds.erase c })
    .next ((spanOf c.first c.last).foldl (fun a u => a.updBku x u (fun b =>
      { b with begun := true, next := s0.now, first := s0.now, segStart := s0.now })) s1)

/-- PROG_WORDS_WRITE (R211). -/
def execProgWordsWrite (t : Nat) (x : TileIx) (s : State) : Result :=
  let s0 := s.tick t
  match s0.bankCmd x (fun c => !c.go && decide (c.origin + 24 ≤ s0.gclk)) with
  | none => .next s0
  | some c =>
    let target := bitsAt (fieldAt c.image 0 2) 0 10
    let words := (List.range (fieldAt c.image 2 1)).map (fun i => (target + i, fieldAt c.image (8 + 8 * i) 8))
    let s1 := s0.updTile x (fun z => { z with cmds := z.cmds.erase c })
    .next ((spanOf c.first c.last).foldl (fun a u => a.updBku x u (fun b =>
      { b with store := words.foldl (fun m w => Tab.put 0 m w.1 w.2) b.store })) s1)

end Sys2Proof.Machine
end

