-- ==== Sys2Proof/Machine/Random.lean ====
section
/-! DEFINITION. The random slot (R231 to R239): contexts, seeks and raw draws. -/

namespace Sys2Proof.Machine

/-- OP of a random slot (R235). -/
def rsOp (w : Nat) : Nat := bitsAt w 0 4
/-- CTX. -/
def rsCtx (w : Nat) : Nat := bitsAt w 4 2
/-- VREG. -/
def rsVreg (w : Nat) : Nat := bitsAt w 6 6


/-- OPEN is taken up (R234, R235, R238). -/
def State.rngOpen (s : State) (x : Nat) : State :=
  match s.takeSlot x (fun sl => sl.kind == 7 && rsOp sl.word == 1) with
  | none => s
  | some (sl, s1) =>
    let v := s.vreg x (rsVreg sl.word)
    let seq := sl.word.testBit 12
    let c := if seq then (s.tile x).facts.logical else v.getD 3 0
    s1.updCtx x (rsCtx sl.word) (fun _ =>
      ⟨plgKey (v.getD 0 0) (v.getD 1 0) (v.getD 2 0) c, sl.word.testBit 13, seq, true, 0, true, sl.cyc + 32⟩)

/-- OPEN (R235). -/
def execRandomOpen (t : Nat) (x : TileIx) (s : State) : Result := .next ((s.tick t).rngOpen x)

/-- SEEK is taken up (R235, R238). -/
def State.rngSeek (s : State) (x : Nat) : State :=
  match s.takeSlot x (fun sl => sl.kind == 7 && rsOp sl.word == 2) with
  | none => s
  | some (sl, s1) =>
    let v := s.vreg x (rsVreg sl.word)
    s1.updCtx x (rsCtx sl.word) (fun c => { c with
      e := v.getD 0 0 % 2 ^ 32 + 2 ^ 32 * (v.getD 1 0 % 2 ^ 32), busy := true, due := sl.cyc + 1024 })

/-- SEEK (R238). -/
def execRandomSeek (t : Nat) (x : TileIx) (s : State) : Result := .next ((s.tick t).rngSeek x)

/-- The 512 lanes of 256 draws from group g on (R236). -/
def drawLanes (seed key g : Nat) : List Nat :=
  ((plgDraws 256 (plgSkip (plgKeymix seed key) g)).map (fun d => [d % 2 ^ 32, d / 2 ^ 32])).flatten

/-- DRAW is taken up (R236, R238). -/
def State.rngDraw (s : State) (x : Nat) : State :=
  match s.takeSlot x (fun sl => sl.kind == 7 && rsOp sl.word == 3) with
  | none => s
  | some (sl, s1) =>
    let c := s.ctx x (rsCtx sl.word)
    let per := if c.k3 then 21 else 16
    let g := c.e / per
    (s1.updCtx x (rsCtx sl.word) (fun d => { d with e := (g + 256) * per % 2 ^ 64 })).updTile x (fun t => { t with
      drawFree := sl.cyc + 4, draws := t.draws ++ [⟨rsVreg sl.word, sl.cyc + 8, drawLanes s.seed c.key g⟩] })

/-- DRAW (R236). -/
def execRandomDraw (t : Nat) (x : TileIx) (s : State) : Result := .next ((s.tick t).rngDraw x)

/-- A context whose OPEN or SEEK ends at a number of cycles from its origin is ready. -/
def State.ctxReady (s : State) (x c : Nat) : State :=
  let d := s.ctx x c
  if d.busy ∧ d.due ≤ s.gclk then s.updCtx x c (fun e => { e with busy := false }) else s

/-- OPEN_READY (R238). -/
def execOpenReady (t : Nat) (x : TileIx) (k : ThreadIx) (s : State) : Result := .next ((s.tick t).ctxReady x k)
/-- SEEK_READY (R238). -/
def execSeekReady (t : Nat) (x : TileIx) (k : ThreadIx) (s : State) : Result := .next ((s.tick t).ctxReady x k)

/-- DRAW_WRITE (R238): the first draws that are due are written to their register. -/
def execDrawWrite (t : Nat) (x : TileIx) (s : State) : Result :=
  let s1 := s.tick t
  match (s1.tile x).draws.find? (fun p => decide (p.due ≤ s1.gclk)) with
  | none => .next s1
  | some p => .next ((s1.updTile x (fun z => { z with draws := z.draws.erase p })).setVreg x p.dst p.lanes)

end Sys2Proof.Machine
end

