-- ==== Sys2Proof/Machine/PlayChecks.lean ====
section
/-! DEFINITION. Every check made at a play's issue (R503): reserved encodings and bits, descriptors and images, channel sets, reach,
ARRAY_ORDER, busy units, retired bank units and SYNC, closed contexts. Each failing check is one trap request. -/

namespace Sys2Proof.Machine

/-! ### Fields of a play (R41) -/

/-- The bytes at an offset of a play held as a 512-bit number. -/
def playAt (p off size : Nat) : Nat := bitsAt p (8 * off) (8 * size)
/-- THREAD. -/
def plThread (p : Nat) : Nat := bitsAt p 0 2
/-- LAST. -/
def plLast (p : Nat) : Bool := p.testBit 2
/-- FRAME_SYNC. -/
def plSync (p : Nat) : Bool := p.testBit 3
/-- SLOT_MASK bit of a kind. -/
def plHas (p kind : Nat) : Bool := p.testBit (8 + kind)
/-- WAIT. -/
def plWait (p : Nat) : Nat := playAt p 2 2
/-- LOOP_BACK. -/
def plBack (p : Nat) : Nat := playAt p 4 2
/-- LOOP_COUNT. -/
def plCount (p : Nat) : Nat := playAt p 6 2
/-- The slot of a kind: 0 array, 1 MV, 2 vector, 3 store, 4 slice, 5 exchange, 6 bank unit, 7 random. -/
def plSlot (p kind : Nat) : Nat := if kind < 6 then playAt p (8 + 8 * kind) 8 else if kind = 6 then playAt p 56 4 else playAt p 60 2

/-! ### Trap requests -/

/-- A failing check that traps the issuing thread alone. -/
def own (bad : Bool) (code info : Nat) : List TrapReq := if bad then [⟨code, info, false⟩] else []
/-- A failing check of a shared unit: SHARED_CONFLICT (R47); its INFO is a free value, since the spec gives none. -/
def conflict (bad : Bool) (v : Nat) : List TrapReq := if bad then [⟨0x23, v, true⟩] else []
/-- A tile-store range that reaches past the end (R51, R108, R126, R173): cause 5 of R189. -/
def reach (bad : Bool) : List TrapReq := own bad 8 5

/-- Whether n rows of len bytes, a stride apart, end past the tile store. -/
def rowsPast (base stride n len : Nat) : Bool := n != 0 && len != 0 && decide (tsSize < base + (n - 1) * stride + len)

/-- Whether two planes of n rows of len bytes, with one stride, share a byte. -/
def planesMeet (a b stride n len : Nat) : Bool :=
  n != 0 && len != 0 && (List.range n).any (fun i =>
    let up := decide (a + i * stride < b + len) && decide (b < a + i * stride + len)
    let dn := decide (b + i * stride < a + len) && decide (a < b + i * stride + len)
    up || dn)

/-- The violation that columns of a weight tensor in the tile's own slice meet (R108, R163): no decode into the own slice is
cause 4. -/
def State.ownViol (s : State) (x a n : Nat) : Option Nat :=
  match s.rangeViol false a n with
  | some c => some c
  | none => match s.decodeDpa false a with
    | .slice y _ => if y = x then none else some 4
    | _ => some 4

/-! ### The array slot (R105 to R115) -/

/-- K_COUNT's limit in a class (R103). -/
def classLimit (cls : Nat) : Nat := if cls = 0 then 256 else 128

/-- Whether a code names an array input format. -/
def isArrayIn (code : Nat) : Bool := match fmtOfCode code with | some f => fmtArrayInput f | none => false

/-- Whether IN_FMT, W_FMT, K_COUNT, N_COUNT and W_ADDR are legal: what a LOAD reads (R106, R108). -/
def State.loadLegal (s : State) (x d : Nat) : Bool :=
  isArrayIn (pdIn d) && isArrayIn (pdW d) && decide (pdK d ≤ classLimit (pdClass d)) && decide (pdN d ≤ s.partWidth x) &&
    (!(fmtBlocked (fmtD (pdW d)) || fmtBlocked (fmtD (pdIn d))) || pdK d % 32 == 0) &&
    (if pdSlice d then pdWAddr d >>> 40 == 0 else pdWAddr d >>> 24 == 0)

/-- Whether OUT_FMT and ACCUM are permitted for the mode and class (R109, R111). -/
def outLegal (d : Nat) : Bool :=
  let out := pdOut d
  let mode := pdMode d
  if mode ≤ 2 then
    (if pdClass d = 2 then (out == 1 || (out == 3 && !pdAccum d))
    else (out == 0x20 || (!pdAccum d && (out == 1 || out == 2 || out == 3 || out == 4 || out == 5)))) && !pdArg d
  else if mode ≤ 4 then (out == 1 || (out == 0x20 && !pdArg d))
  else mode == 5 && out == 0x10 && (pdIn d == 0x11 || pdIn d == 0x12) && pdIn d == pdW d && !pdArg d

/-- Bytes of an output value. -/
def pdOutBytes (d : Nat) : Nat := outBytes (fmtD (pdOut d))

/-- Bytes of an output row's side or index plane (R107). -/
def pdSideBytes (d : Nat) : Nat := if pdOut d = 0x20 then 8 * pdSides d else if pdArg d then 4 * pdN d else 0

/-- Whether the output and ACC planes overlap (R108). -/
def accOverlap (d : Nat) : Bool :=
  pdAccum d && (planesMeet (dsc d 32 4) (dsc d 40 4) (dsc d 36 4) (pdRows d) (pdN d * pdOutBytes d) ||
    planesMeet (dsc d 44 4) (dsc d 48 4) (pdSideBytes d) (pdRows d) (pdSideBytes d))

/-- Whether a pass descriptor is legal (R106, R108, R109, R111). -/
def State.passLegal (s : State) (x d : Nat) : Bool :=
  s.loadLegal x d && outLegal d && decide (pdRound d ≤ 1) && bitsAt d 46 2 == 0 && decide (pdRows d ≤ 4096) && !accOverlap d

/-- Whether a tensor of a pass reaches past the tile store (R107, R108). -/
def passPast (d : Nat) : Bool :=
  let inF := fmtD (pdIn d)
  let n := if pdK d = 0 ∨ pdN d = 0 then 0 else pdRows d
  let sl := if fmtIsMx inF then pdK d / 32 else 0
  let out (at0 side : Nat) : Bool :=
    rowsPast at0 (dsc d 36 4) n (pdN d * pdOutBytes d) || rowsPast side (pdSideBytes d) n (pdSideBytes d)
  rowsPast (dsc d 24 4) (dsc d 28 4) n (streamBytes inF (pdK d)) || rowsPast (pdInScale d) sl n sl ||
    out (dsc d 32 4) (dsc d 44 4) || (pdAccum d && out (dsc d 40 4) (dsc d 48 4))

/-- Whether a load in progress is late only by shift (R254). -/
def State.loadLate (s : State) (x k : Nat) : Bool :=
  match (s.part x k).load with
  | some l => decide (l.origin + 128 ≤ s.gclk)
  | none => false

/-- Whether a load in progress has not reached its published end (R114). -/
def State.loadDue (s : State) (x k : Nat) : Bool :=
  match (s.part x k).load with
  | some l => decide (s.gclk < l.origin + 128)
  | none => false

/-- The weights a PASS would use: the shadow, or the pending load that shift alone delays, with SWAP; else the active ones. -/
def State.passWts (s : State) (x k : Nat) (swap : Bool) : Wts :=
  let p := s.part x k
  if swap then (match p.load with | some l => l.w | none => p.shadow) else p.active

/-- The cause of ARRAY_ORDER that a play reports, 0 for none (R115). -/
def State.orderCause (s : State) (x k w : Nat) : Nat :=
  let i := x * 4 + k
  let pass := asCmd w == 2 || asCmd w == 3
  let d := s.arrDesc x (asDesc w)
  let u := s.passWts x k (asSwap w)
  if pass && asSwap w && s.loadDue x k then 2
  else if pass && asSwap w && !s.loadLate x k && s.rd F.ARR_STATUS_SHADOW_VALID i == 0 then 3
  else if pass && decide (s.gclk < (s.part x k).streamEnd) then 4
  else if pass && !asSwap w && s.rd F.ARR_STATUS_ACTIVE_VALID i == 0 then 5
  else if pass && (u.cls != pdClass d || u.fmt != pdW d) then 6
  else if asCmd w != 2 && s.loadDue x k then 1
  else 0

/-- Whether a partition's earlier work is still in progress only because of shift (R254). -/
def State.partLate (s : State) (x k w : Nat) : Bool :=
  (s.loadLate x k && (asCmd w != 2 || asSwap w)) ||
    (asCmd w != 1 && decide (s.gclk < (s.part x k).streamEnd + Tab.get 0 (s.tile x).eng.shift k))

/-- Whether a user of the own slice cycles holds them by its published times (R128): the MV path, the slice slot, a slice load. -/
def State.mvHolds (s : State) (x : Nat) : Bool := decide (s.gclk < (s.tile x).mvEnd)
/-- The slice slot holds the own slice cycles. -/
def State.slotHolds (s : State) (x : Nat) : Bool := decide (s.gclk < (s.tile x).sliceEnd)
/-- A LOAD with W_SPACE 1 holds the own slice cycles. -/
def State.loadHolds (s : State) (x : Nat) : Bool :=
  (List.range 4).any (fun k => match (s.part x k).load with
    | some l => l.slice && decide (s.gclk < l.origin + 128)
    | none => false)

/-- Whether a unit's one-entry latch is full. -/
def State.latched (s : State) (x u : Nat) : Bool := (Tab.find (s.tile x).eng.latch u).isSome

/-- Whether a LOAD descriptor asks for own slice cycles. -/
def loadAsks (d : Nat) : Bool := pdSlice d && pdK d != 0 && pdN d != 0

/-- The failing checks of a load's descriptor. -/
def State.loadChecks (s : State) (x j v : Nat) : List TrapReq :=
  let d := s.arrDesc x j
  if !s.loadLegal x d then own true 0x21 j
  else
    let fmt := fmtD (pdW d)
    let len := streamBytes fmt (pdK d)
    let n := if pdK d = 0 then 0 else pdN d
    let sl := if fmtIsMx fmt then pdK d / 32 else 0
    let viol := if pdSlice d then (List.range n).findSome? (fun c => s.ownViol x (pdWAddr d + c * pdWStride d) len) else none
    reach ((!pdSlice d && rowsPast (pdWAddr d) (pdWStride d) n len) || rowsPast (pdWScale d) sl n sl) ++
      (match viol with | some c => own true 8 c | none => []) ++
      conflict (loadAsks d && (s.mvHolds x || s.slotHolds x || s.loadHolds x)) v

/-- The failing checks of an array slot (R105, R108, R115, R128). -/
def State.arrayChecks (s : State) (x k w v : Nat) : List TrapReq :=
  let cmd := asCmd w
  if cmd = 0 ∨ 3 < cmd ∨ bitsAt w 5 3 ≠ 0 ∨ bitsAt w 40 24 ≠ 0 ∨ (cmd = 1 ∧ asSwap w) then own true 0x21 v
  else
    let d := s.arrDesc x (asDesc w)
    let pass := if cmd = 1 then [] else if s.passLegal x d then reach (passPast d) else own true 0x21 (asDesc w)
    let load := if cmd = 2 then [] else s.loadChecks x (asLoad w) v
    let cause := s.orderCause x k w
    pass ++ load ++ own (cause != 0) 0x24 cause ++ conflict (s.latched x k) v

/-! ### The MV slot (R124 to R128, R141, R142) -/

/-- CMD of an MV slot. -/
def msCmd (w : Nat) : Nat := bitsAt w 0 4
/-- DESC_INDEX of an MV slot. -/
def msDesc (w : Nat) : Nat := bitsAt w 4 16

/-- Whether a code names a format of 8 bits or fewer that the array takes: activations and MV weights. -/
def isMv (code : Nat) : Bool := match fmtOfCode code with | some f => fmtMvWeight f | none => false

/-- Whether an MV descriptor is legal (R108, R126). -/
def mvLegal (d : Nat) : Bool :=
  let out := dsc d 3 1
  let acc := d.testBit 40
  let row := mdN d * outBytes (fmtD out)
  let side := if out = 0x20 then mdN d / 32 * 8 else 0
  dsc d 0 1 == 0 && isMv (dsc d 1 1) && isMv (dsc d 2 1) &&
    (out == 0x20 || (!acc && (out == 1 || out == 2 || out == 3 || out == 4 || out == 5))) &&
    !d.testBit 41 && decide (bitsAt d 42 2 ≤ 1) && bitsAt d 45 3 == 0 && decide (mdVectors d ≤ 16) && dsc d 7 1 == 0 &&
    decide (mdK d ≤ 65536) && mdK d % 32 == 0 && decide (mdN d ≤ 65536) && mdN d % mvG (mdW d) == 0 &&
    bitsAt d 128 9 == 0 && bitsAt d 168 24 == 0 && dsc d 56 8 == 0 && decide (mdSpan d ≤ 65536) &&
    !(acc && (planesMeet (dsc d 36 4) (dsc d 44 4) (dsc d 40 4) (mdVectors d) row ||
      planesMeet (dsc d 48 4) (dsc d 52 4) side (mdVectors d) side))

/-- Whether an MV descriptor moves nothing (R126). -/
def mvEmpty (d : Nat) : Bool := mdVectors d == 0 || mdK d == 0 || mdN d == 0

/-- Whether a tensor of an MV descriptor reaches past the tile store. -/
def mvPast (d : Nat) : Bool :=
  let n := if mvEmpty d then 0 else mdVectors d
  let xf := mdX d
  let sl := if fmtIsMx xf then mdK d / 32 else 0
  let side := if dsc d 3 1 = 0x20 then mdN d / 32 * 8 else 0
  let out (a sd : Nat) : Bool := rowsPast a (dsc d 40 4) n (mdN d * outBytes (fmtD (dsc d 3 1))) || rowsPast sd side n side
  rowsPast (dsc d 24 4) (dsc d 28 4) n (streamBytes xf (mdK d)) || rowsPast (dsc d 32 4) sl n sl ||
    out (dsc d 36 4) (dsc d 48 4) || (d.testBit 40 && out (dsc d 44 4) (dsc d 52 4))

/-- The failing checks of a START. -/
def State.startChecks (s : State) (x j : Nat) : List TrapReq :=
  let d := s.arrDesc x j
  if !mvLegal d then own true 0x21 j
  else reach (mvPast d) ++ (if mvEmpty d then [] else
    match s.ownViol x (dsc d 16 8) (512 * mdSpan d) with | some c => own true 8 c | none => [])

/-- The failing checks of an ATTEND that are made at its issue (R142). -/
def State.attendChecks (s : State) (x j : Nat) : List TrapReq :=
  let d := s.arrDesc x j
  if adEntries d = 0 ∨ adBudget d = 0 then []
  else
    let i := hIx x (adHead d)
    let q := dsc d 1 1
    let o := dsc d 2 1
    own (bitsAt d 2 6 != 0 || bitsAt d 26 6 != 0 || bitsAt d 120 8 != 0 || dsc d 52 12 != 0 ||
      !(q == 4 || q == 5 || q == 0x11) || !(o == 1 || o == 2 || o == 3) || s.rd F.KVS_CFG_ENABLED i == 0 ||
      decide (s.rd F.KVS_TABLES_LT_CAP i < adEntries d) || s.rd F.RNG_SEED_STATUS_SEEDED 0 == 0) 0x21 j

/-- Whether the MV path is in progress only because of shift (R254). -/
def State.mvLate (s : State) (x : Nat) : Bool :=
  !s.mvHolds x && ((s.tile x).mv.any (fun m => decide (m.chunk < mdSpan m.desc)) ||
    decide (s.gclk < (s.tile x).mvEnd + Tab.get 0 (s.tile x).eng.shift 4))

/-- The failing checks of an MV slot. -/
def State.mvChecks (s : State) (x w v : Nat) : List TrapReq :=
  let cmd := msCmd w
  if cmd = 0 ∨ 2 < cmd ∨ bitsAt w 20 44 ≠ 0 then own true 0x21 v
  else
    (if cmd = 1 then s.startChecks x (msDesc w) else s.attendChecks x (msDesc w)) ++
      conflict (s.mvHolds x || s.slotHolds x || s.loadHolds x || s.latched x 4) v

/-! ### The vector slot (R48, R49, R88, R237, R239) -/

/-- Whether an operation exists in a FORM (R49). -/
def vecLegal (op form : Nat) : Bool :=
  match op with
  | 0x01 | 0x02 | 0x04 | 0x05 | 0x06 | 0x07 | 0x08 => true
  | 0x03 => decide (form ≤ 2)
  | 0x09 | 0x18 => form == 0 || form == 3
  | 0x10 | 0x11 | 0x12 | 0x13 | 0x14 => form == 0
  | _ => false

/-- Whether a CVT's IMM and registers are not reserved (R88). -/
def cvtLegal (w : Nat) : Bool :=
  let imm := vImm w
  match cvtSrc (vForm w) imm, fmtOfCode (bitsAt imm 0 8) with
  | some src, some dst =>
    let round := bitsAt imm 17 2
    round != 3 && bitsAt imm 19 5 == 0 && (dst == .ls128 || bitsAt imm 24 8 == 0) &&
      !(round == 2 && (dst == .ls128 || decide (8 < fmtBits dst))) && !(fmtHasSide dst && vDst w == 63) &&
      !(fmtHasSide src && vA w == 63)
  | _, _ => false

/-- Whether a vector slot is a stochastic CVT. -/
def vecStochastic (w : Nat) : Bool := vOp w == 8 && bitsAt (vImm w) 17 2 == 2

/-- The failing checks of a vector slot issued by thread k. -/
def State.vectorChecks (s : State) (x k w v : Nat) : List TrapReq :=
  if !vecLegal (vOp w) (vForm w) || (vOp w == 8 && !cvtLegal w) then own true 0x21 v
  else
    let c := s.ctx x k
    let st := vecStochastic w
    let kk := match fmtOfCode (bitsAt (vImm w) 0 8) with | some f => srBits f | none => 0
    own (st && (!c.opened || c.k != kk)) 0x21 v ++
      conflict (decide (s.gclk < (s.tile x).eng.vecFree)) v ++
      conflict (st && (c.busy || decide (s.gclk < (s.tile x).drawFree))) v

/-! ### The other slots -/

/-- The failing checks of a store slot (R51). -/
def storeChecks (w v : Nat) : List TrapReq :=
  own (w.testBit 1 || bitsAt w 8 6 != 0 || bitsAt w 32 32 != 0) 0x21 v ++ reach (decide (tsSize < stAddr w + 2048))

/-- Whether the slice slot is in progress only because of shift (R254). -/
def State.slotLate (s : State) (x : Nat) : Bool := !s.slotHolds x && (s.tile x).slice.slot.isSome

/-- The failing checks of a slice slot (R128, R172, R173). -/
def State.sliceChecks (s : State) (x w v : Nat) : List TrapReq :=
  let op := slOp w
  if op = 0 ∨ 5 < op ∨ (2 < op ∧ slCached w) ∨ bitsAt w 5 7 ≠ 0 ∨ bitsAt w 60 4 ≠ 0 then own true 0x21 v
  else
    let past := slChunk w (slCount w) * 512
    reach (decide (op ≤ 2) && decide (tsSize < slTs w (slCount w))) ++
      (if sliceSize < past ∧ s.mirrorBase x = sliceSize then own true 8 1 else own (decide (s.mirrorBase x < past)) 8 3) ++
      conflict (slCount w != 0 && (s.mvHolds x || s.slotHolds x || s.loadHolds x || s.latched x 5)) v

/-- The failing checks of an exchange slot (R47, R57 to R59, R254). -/
def State.xchChecks (s : State) (x k w v : Nat) : List TrapReq :=
  let c := bitsAt w 0 4
  if bitsAt w 4 4 ≠ 1 ∨ bitsAt w 24 40 ≠ 0 then own true 0x21 v
  else if chanOwner (s.threadCount x) c ≠ k then own true 0x21 v
  else
    own (xdIllegal (s.tsNat x (s.rd F.SEQ_XCH_DESC_BASE_BASE x + 32 * bitsAt w 8 16) 32)) 0x21 c ++
      own (s.rd F.SEQ_XCH_STATUS_STATE (x * 16 + c) == 1 && !s.chanLate x c) 0x22 v ++ conflict (s.latched x (16 + c)) v

/-- The failing checks of a GO's image (R204, R210). -/
def goChecks (img : Bytes) (first v : Nat) : List TrapReq :=
  own (bitsAt (fieldAt img 0 2) 10 6 != 0 || fieldAt img 2 1 / 2 != 0 || fieldAt img 3 1 != 0 || bitsAt (fieldAt img 40 4) 20 12 != 0 ||
    bitsAt (fieldAt img 44 4) 20 12 != 0 || fieldAt img 48 16 != 0) 0x21 v ++
    own (decide (bitsAt (fieldAt img 0 2) 0 10 < 64)) 6 (first + 256 * 7)

/-- The failing checks of a PROG's image (R204, R211). -/
def progChecks (img : Bytes) (first v : Nat) : List TrapReq :=
  let target := bitsAt (fieldAt img 0 2) 0 10
  let count := fieldAt img 2 1
  own (bitsAt (fieldAt img 0 2) 10 6 != 0 || fieldAt img 3 5 != 0 || decide (15 < count) || decide (1024 < target + count)) 0x21 v ++
    own (decide (target < 64)) 6 (first + 256 * 7)

/-- The failing checks of a bank slot (R209 to R212). -/
def State.bankChecks (s : State) (x w v : Nat) : List TrapReq :=
  let op := bsOp w
  if op = 0 ∨ 4 < op ∨ 63 < bsLast w ∨ (2 < op ∧ bitsAt w 16 16 ≠ 0) then own true 0x21 v
  else
    let span := spanOf (bsFirst w) (bsLast w)
    let load := op == 1 || op == 2
    let img := s.bankImage x w
    (if op = 1 then goChecks img (bsFirst w) v else if op = 2 then progChecks img (bsFirst w) v else []) ++
      (match span.find? (fun u => s.bkuRetired x u) with | some u => own load 6 (u + 256 * 6) | none => []) ++
      (match span.find? (fun u => (s.bku x u).st != .idle) with | some u => own (op == 3) 6 (u + 256 * 5) | none => []) ++
      conflict (decide (s.gclk < (s.tile x).bankFree)) v ++
      conflict (load && span.any (fun u => (s.bku x u).st == .running || (s.bku x u).st == .frozen)) v

/-- The failing checks of a random slot (R231, R234, R235, R239). -/
def State.randomChecks (s : State) (x w v : Nat) : List TrapReq :=
  let op := rsOp w
  if op = 0 ∨ 3 < op ∨ bitsAt w 14 2 ≠ 0 ∨ (op ≠ 1 ∧ bitsAt w 12 2 ≠ 0) then own true 0x21 v
  else
    let c := s.ctx x (rsCtx w)
    own (s.rd F.RNG_SEED_STATUS_SEEDED 0 == 0) 0x21 v ++
      own (op != 1 && !c.opened) 0x21 v ++ own (op == 2 && c.opened && c.seq) 0x21 v ++
      own (op == 1 && !w.testBit 12 && decide (0xFFFFFFF0 ≤ (s.vreg x (rsVreg w)).getD 3 0)) 0x21 v ++
      conflict (c.opened && c.busy) v ++ conflict (op == 3 && decide (s.gclk < (s.tile x).drawFree)) v

/-! ### The whole play -/

/-- Whether the slots of a play ask for own slice cycles more than once (R128). -/
def State.asksTwice (s : State) (x p : Nat) : Bool :=
  let a := plSlot p 0
  let load := plHas p 0 && asCmd a != 2 && loadAsks (s.arrDesc x (asLoad a))
  let m := plSlot p 1
  let d := s.arrDesc x (msDesc m)
  let mv := plHas p 1 && (if msCmd m = 1 then !mvEmpty d else adEntries d != 0 && adBudget d != 0)
  let slice := plHas p 4 && slCount (plSlot p 4) != 0
  (load && mv) || (load && slice) || (mv && slice)

/-- Whether a closing play would open a fifth level (R43). -/
def fifthLevel (h : Thread) (i p : Nat) : Bool :=
  plBack p != 0 && plCount p != 0 && decide (h.stack.length = 4) &&
    !(match h.stack with | l :: _ => l.play == i | [] => false)

/-- Every failing check of a play (R503). -/
def State.playChecks (s : State) (x k i p v : Nat) : List TrapReq :=
  let slot (kind : Nat) (f : Nat → List TrapReq) : List TrapReq := if plHas p kind then f (plSlot p kind) else []
  own (plThread p != k) 0x21 v ++ own (bitsAt p 4 4 != 0 || playAt p 62 2 != 0) 0x21 v ++
    own (fifthLevel (s.thread x k) i p) 0x21 v ++
    slot 0 (fun w => s.arrayChecks x k w v) ++ slot 1 (fun w => s.mvChecks x w v) ++ slot 2 (fun w => s.vectorChecks x k w v) ++
    slot 3 (fun w => storeChecks w v) ++ slot 4 (fun w => s.sliceChecks x w v) ++ slot 5 (fun w => s.xchChecks x k w v) ++
    slot 6 (fun w => s.bankChecks x w v) ++ slot 7 (fun w => s.randomChecks x w v) ++ conflict (s.asksTwice x p) v

end Sys2Proof.Machine
end

