-- ==== Sys2Proof/Machine/Play.lean ====
section
/-! DEFINITION. The issue of plays (R41 to R47, R245, R254, R503): turns, waits, fetches, loop stacks, and the slots handed to
their units. -/

namespace Sys2Proof.Machine

/-- Schedule cycles of a frame. -/
def State.frameCycles (s : State) : Nat := 32 * s.frameLen

/-- The schedule cycle at which a play is due (R45, R46): its thread's next turn, or the first turn of the frame after the one
of its last issue, and WAIT turns later. -/
def State.playDue (s : State) (x k p : Nat) : Nat :=
  let h := s.thread x k
  let n := s.threadCount x
  (if plSync p then h.frame + s.frameCycles + k else h.due) + plWait p * n

/-- The loop stack and index after a play that issues (R43); `true` says that it continues to the next play. -/
def nextPlay (h : Thread) (i p : Nat) : List Level × Nat × Bool :=
  let back := (i + 2 ^ 24 - plBack p % 2 ^ 24) % 2 ^ 24
  if plBack p = 0 ∨ plCount p = 0 then (h.stack, (i + 1) % 2 ^ 24, true)
  else match h.stack with
    | l :: r =>
      if l.play = i then (if 0 < l.left then (⟨i, l.left - 1⟩ :: r, back, false) else (r, (i + 1) % 2 ^ 24, true))
      else (⟨i, plCount p - 1⟩ :: h.stack, back, false)
    | [] => ([⟨i, plCount p - 1⟩], back, false)

/-- The unit latch that work of a slot waits in, if its unit is late only by shift (R254): 0 to 3 partitions, 4 MV, 5 slice,
16 + c channel c. -/
def State.latchOf (s : State) (x k kind w : Nat) : Option Nat :=
  if kind = 0 ∧ s.partLate x k w then some k
  else if kind = 1 ∧ s.mvLate x then some 4
  else if kind = 4 ∧ slCount w ≠ 0 ∧ s.slotLate x then some 5
  else if kind = 5 ∧ s.chanLate x (bitsAt w 0 4) then some (16 + bitsAt w 0 4)
  else none

/-- A slot handed to its unit, or to the unit's latch. -/
def State.giveSlot (s : State) (x k i p kind : Nat) : State :=
  if plHas p kind then
    let sl : Slot := ⟨kind, k, s.gclk, i, plSlot p kind⟩
    match s.latchOf x k kind sl.word with
    | some u => s.updEng x (fun e => { e with latch := Tab.ins (Tab.drop e.latch u) u sl })
    | none => s.updEng x (fun e => { e with slots := e.slots ++ [sl] })
  else s

/-- A play that has passed its checks issues: every named slot acts, the thread moves on (R43, R45, R503). -/
def State.issuePlay (s : State) (x k i p : Nat) : State :=
  let h := s.thread x k
  let nx := nextPlay h i p
  let s1 := [0, 1, 2, 3, 4, 5, 6, 7].foldl (fun a kind => a.giveSlot x k i p kind) s
  let s2 := if plHas p 2 then s1.updEng x (fun e => { e with vecFree := s.gclk + vecCycles (vOp (plSlot p 2)) }) else s1
  let s3 := if plHas p 6 then s2.updTile x (fun t => { t with bankFree := s.gclk + 2 }) else s2
  let s4 := s3.updThread x k (fun g => { g with
    pos := nx.2.1, stack := nx.1, last := i, due := s.sclk + s.threadCount x, frame := s.beat.frameStart,
    issued := g.issued + 1 })
  if nx.2.2 && plLast p then s4.stopThread x k else s4

/-- Whether a thread may issue in the present cycle: it runs, the cycle is its turn, no rest frame, no freeze (R45). -/
def State.isTurn (s : State) (x k : Nat) : Bool :=
  s.running x k && !s.beat.rest && !s.frozen && !s.memOnly x && s.sclk % s.threadCount x == k &&
    decide ((s.thread x k).due ≤ s.sclk)

/-- The fetch of a thread's next play fails: no play issues and the thread traps at its turn (R42). -/
def State.fetchFail (s : State) (x k i code info : Nat) : State := s.raise x k [⟨code, info, false⟩] i

/-- PLAY_ISSUE (R42, R503). -/
def State.playIssue (s : State) (x k : Nat) (fetch : Fetch) : State :=
  if s.isTurn x k then
    let i := (s.thread x k).pos
    let a := s.rd F.SEQ_PLAY_BASE_BASE (x * 4 + k) + 64 * i
    if tsSize < a + 64 then s.fetchFail x k i 8 5
    else
      let f := s.free
      let v := f.1 % 65536
      if fetch = .uncorr then (f.2.tsUncorr x (a / 64)).fetchFail x k i 1 v
      else if s.poisoned x (a / 64) then f.2.fetchFail x k i 1 v
      else
        let p := s.tsNat x a 64
        if s.sclk < s.playDue x k p then s
        else
          let s1 := if fetch = .corr then s.tsCorr x (a / 64) else s
          match s1.playChecks x k i p v with
          | [] => s1.issuePlay x k i p
          | reqs => ({ s1 with freeCtr := f.2.freeCtr } : State).raise x k reqs i
  else s

/-- PLAY_ISSUE. -/
def execPlayIssue (t : Nat) (x : TileIx) (k : ThreadIx) (fetch : Fetch) (s : State) : Result :=
  .next ((s.tick t).playIssue x k fetch)

end Sys2Proof.Machine
end

