-- ==== Sys2Proof/Machine/SysOps.lean ====
section
/-! DEFINITION. What the chapters on links, host interface, resets, power, Bond Stream, twins and Quoin share: routes that fall
short (R259), measurement registers (R442), submission replies (R347), CONFIG_LOST (R372, R373). -/

namespace Sys2Proof.Machine

/-! ### Routes that fall short -/

/-- Widths of a port: its STATE as a rank, X4 above X2 above the rest. -/
def portRank (state : Nat) : Nat := if state = 1 then 2 else if state = 2 then 1 else 0

/-- PORT_REQ of the running image for a port (R272): CLASS and WIDTH. -/
def State.portReq (s : State) (q : Nat) : Option (Nat × Nat) :=
  let g := s.img s.activeSlot
  if g.loaded then some (fieldAt g.header (32 + q) 1 % 16, fieldAt g.header (32 + q) 1 / 16 % 4) else none

/-- Whether a route the running image needs is short (R259): a port below its WIDTH, or a bridge below what a route needs. -/
def State.routeShort (s : State) : Bool :=
  (s.img s.activeSlot).loaded &&
    ((List.range 16).any (fun q => match s.portReq q with
      | some (_, w) => decide (portRank (s.rd F.LNK_STATUS_STATE q) < w)
      | none => false) ||
     s.routes.any (fun r => (routeHops r).any (fun h => decide (s.rd F.BRG_STATUS_WIDTH h.1 < if h.2 then 1 else 2))))

/-- R259: a domain hold and LINK attention while a route of the running image is short. -/
def State.checkRoutes (s : State) : State :=
  if s.routeShort then (s.requestHold).attn F.ATT_PENDING_ROUTE_SHORT else s

/-! ### Measurement registers -/

/-- A digest's 32 bytes. -/
def digestBytes (d : BitVec 256) : Bytes := leBytes 32 d.toNat
/-- A measurement register's eight words shown in QUO_MEAS. -/
def State.showMeas (s : State) (n : Nat) (v : BitVec 256) : State :=
  (List.range 8).foldl (fun a w => a.wr F.QUO_MEAS_VALUE (8 * n + w) (bitsAt v.toNat (32 * w) 32)) s
/-- A measurement register. -/
def State.measReg (s : State) (n : Nat) : BitVec 256 := s.quoin.meas.getD n 0
/-- The extension of a measurement register (R442). -/
def State.extendMeas (s : State) (n : Nat) (d : BitVec 256) : State :=
  let v := Config.sm3 (digestBytes (s.measReg n) ++ digestBytes d)
  ({ s with quoin := { s.quoin with meas := s.quoin.meas.set n v } } : State).showMeas n v

/-! ### Replies (R347) -/

/-- A submission's reply formed: it waits for REPLY_RECORD; with OPEN cleared it is dropped and counted (R343). -/
def State.replyTo (s : State) (op seq tag code detail : Nat) : State :=
  if s.rd F.FRONT_RING_CTL_OPEN 0 = 1 then
    { s with front := { s.front with replies := s.front.replies ++ [⟨op, seq, tag, code, detail⟩] } }
  else s.note 0x007 op

/-- A submission in progress ends with a code. Indices of 2^32 and above are of rings since closed, whose replies are dropped. -/
def State.endSub (s : State) (u : Sub) (code detail : Nat) : State :=
  let s1 := { s with front := { s.front with subs := s.front.subs.filter (fun v => v.idx != u.idx) } }
  if 2 ^ 32 ≤ u.idx then s1.note 0x007 (fieldAt u.body 0 1)
  else s1.replyTo (fieldAt u.body 0 1) u.idx (fieldAt u.body 8 8) code detail

/-- Every submission in progress ends with ABORTED (R354). -/
def State.abortSubs (s : State) : State := s.front.subs.foldl (fun a u => a.endSub u 0x034 0) s

/-! ### Image slots -/

/-- SCHED_FRAME of BEAT_FRAME and of FRONT_JOB show the running slot's schedule frame (R277); 0 where the slot is empty (log entry
132). -/
def State.showSched (s : State) : State :=
  let n := (s.img s.activeSlot).sched % 2 ^ 32
  (s.wr F.BEAT_FRAME_SCHED_FRAME 0 n).wr F.FRONT_JOB_SCHED_FRAME 0 n

/-- An image slot emptied: its threads' work is over and LOADED reads 0. -/
def State.emptySlot (s : State) (i : Nat) : State :=
  let s1 := (s.updImg i (fun _ => Image.empty)).wrBit F.FRONT_JOB_LOADED 0 i false
  if s.activeSlot = i then s1.showSched else s1

/-- Logical tiles an image uses are 0 to TILES − 1 (R272). -/
def Image.tiles (g : Image) : Nat := fieldAt g.header 16 2

/-- The positions that serve an image's logical tiles. -/
def State.imageTiles (s : State) (g : Image) : List Nat := (List.range g.tiles).filterMap (fun n => s.tileOfLogical n)

/-! ### CONFIG_LOST (R373) -/

/-- The group bit of a lost setting marked. -/
def State.markLost (s : State) (g : Grp) : State :=
  match g with
  | .none => s
  | .tile => s
  | .beat => s.wr F.SYS_CFG_LOST_BEAT 0 1
  | .thermal => s.wr F.SYS_CFG_LOST_THERMAL 0 1
  | .other => s.wr F.SYS_CFG_LOST_OTHER 0 1

/-- SYS_CFG_LOST evaluated afresh, and the CONFIG_LOST condition with it (R373, R377). -/
def State.evalLost (s : State) : State :=
  let s1 := s.wr F.SYS_CFG_LOST_BOND 0 (bit (s.rd F.BND_INFORCE_TYPES 0 == 0 || s.rd F.BND_LOST_TYPES 0 != 0))
  let s2 := s1.wr F.SYS_CFG_LOST_TILE 0 (bit (s.rd F.SYS_TILE_UNCONF_TILES 0 != 0 || s.rd F.SYS_TILE_UNCONF_TILES 1 != 0))
  let s3 := s2.wr F.SYS_CFG_LOST_KV 0 (bit ((List.range 416).any (fun i => s.rd F.KVS_STATE_LOST i == 1)))
  if [F.SYS_CFG_LOST_BOND, F.SYS_CFG_LOST_TILE, F.SYS_CFG_LOST_BEAT, F.SYS_CFG_LOST_THERMAL, F.SYS_CFG_LOST_KV,
      F.SYS_CFG_LOST_OTHER].any (fun f => s3.rd f 0 == 1) then s3.attn F.ATT_PENDING_CONFIG_LOST else s3

/-- BND_INFORCE and BND_LOST follow the section table (R303, R306). -/
def typeBit (ty : Nat) : Nat :=
  match ty with
  | 0x01 => 0 | 0x02 => 1 | 0x10 => 2 | 0x11 => 3 | 0x20 => 4 | 0x21 => 5 | 0x22 => 6 | 0x30 => 7 | 0x31 => 8 | 0x32 => 9
  | 0x33 => 10 | _ => 11
/-- BND_INFORCE and BND_LOST follow the section table (R303, R306). -/
def State.showBond (s : State) : State :=
  let f := s.bond.table.foldl (fun a c => a ||| (1 <<< typeBit c.type)) 0
  let l := s.bond.lost.foldl (fun a c => a ||| (1 <<< typeBit c.1)) 0
  (s.wr F.BND_INFORCE_TYPES 0 f).wr F.BND_LOST_TYPES 0 l

end Sys2Proof.Machine
end

