-- ==== Sys2Proof/Machine/LinkOps.lean ====
section
/-! DEFINITION. Cell slots, let slots and release times (R255, R256, R309), the slots a port fills (R315 to R320), and the ends of
remote work (R318, R321). -/

namespace Sys2Proof.Machine

/-- A port. -/
def State.port (s : State) (q : Nat) : PortState := Tab.get PortState.idle s.ports q
/-- A port changed. -/
def State.updPort (s : State) (q : Nat) (f : PortState → PortState) : State :=
  { s with ports := Tab.upd PortState.idle s.ports q f }

/-- The time of cell slots: cycles of the beat count less those of freezes, which last whole frames (R256, R264). -/
def State.lclk (s : State) : Nat := (32 * s.beat.base + s.gclk) % 2 ^ 69

/-- Whether a port is at X4 or X2. -/
def State.portUp (s : State) (q : Nat) : Bool := portRank (s.rd F.LNK_STATUS_STATE q) != 0
/-- Whether a port is at X4. -/
def State.portX4 (s : State) (q : Nat) : Bool := s.rd F.LNK_STATUS_STATE q == 1

/-- L(c) (R255). -/
def cellLat (c : Nat) : Nat := 320 + 128 * c
/-- The class in force of a port (R255): the running image's, never below the measured one. Both directions take the class this
module's image declares (log entry 31). -/
def State.portClass (s : State) (q : Nat) : Nat :=
  let m := s.rd F.LNK_STATUS_LAT_CLASS q
  match s.portReq q with
  | some (c, _) => max c m
  | none => m

/-- Slots of a frame of F beats (R309). -/
def slotsPer (f : Nat) (x4 : Bool) : Nat := if x4 then 3 * f else 3 * f / 2
/-- start(n) within the frame (R309). -/
def slotStartIn (x4 : Bool) (n : Nat) : Nat := if x4 then 32 * (n / 3) + 11 * (n % 3) else 64 * (n / 3) + 22 * (n % 3)
/-- The time at which absolute slot number n begins; slots are counted through the frames. -/
def slotStart (f : Nat) (x4 : Bool) (n : Nat) : Nat :=
  n / slotsPer f x4 * (32 * f) + slotStartIn x4 (n % slotsPer f x4)
/-- The slot that begins at a time, if one does. -/
def slotAt (f : Nat) (x4 : Bool) (t : Nat) : Option Nat :=
  let r := t % (32 * f)
  let step := if x4 then 11 else 22
  let block := if x4 then 32 else 64
  let o := r % block
  if o % step = 0 ∧ o / step < 3 then some (t / (32 * f) * slotsPer f x4 + 3 * (r / block) + o / step) else none

/-- The index of a slot within its frame. -/
def slotIndex (f : Nat) (x4 : Bool) (n : Nat) : Nat := n % slotsPer f x4

/-- The first let slot at or after slot 16j + 15 that begins at or after a time. -/
def letFrom (f : Nat) (x4 : Bool) (t : Nat) : Nat → Nat → Nat
  | 0, j => 16 * j + 15
  | k + 1, j => if t ≤ slotStart f x4 (16 * j + 15) then 16 * j + 15 else letFrom f x4 t k (j + 1)

/-- ℓ(n) (R256). -/
def letSlot (f : Nat) (x4 : Bool) (lf lr n : Nat) : Nat := letFrom f x4 (slotStart f x4 n + lf + lr + 64) 64 (n / 16)

/-- ℓ(n) of a port. -/
def State.letOf (s : State) (q n : Nat) : Nat :=
  let l := cellLat (s.portClass q)
  letSlot s.frameLen (s.portX4 q) l l n
/-- The release time of slot n (R256). -/
def State.releaseAt (s : State) (q n : Nat) : Nat :=
  slotStart s.frameLen (s.portX4 q) (s.letOf q n) + cellLat (s.portClass q)
/-- The reply slot of a request in slot n (R320). -/
def State.replySlot (s : State) (q n : Nat) : Nat := s.letOf q n + 39 + 12 * s.portClass q

/-- A map entry of the running image slot (R315): direction 0 outbound, 1 inbound. -/
def State.mapEntry (s : State) (q dir n : Nat) : Nat :=
  s.rd F.LNK_MAP_ENTRY (q * 192 + s.activeSlot * 96 + dir * 48 + slotIndex s.frameLen (s.portX4 q) n % 48)
/-- USE of a map entry: 0 OPEN, 1 CHANNEL, 2 REQUEST, 3 REPLY. -/
def mapUse (e : Nat) : Nat := e % 4
/-- LTILE of a map entry. -/
def mapTile (e : Nat) : Nat := e / 4 % 128
/-- CHANNEL of a map entry. -/
def mapChan (e : Nat) : Nat := e / 512 % 16

/-- A payload of 256 bytes. -/
def cellPad (b : Bytes) : Bytes := (b ++ List.replicate 256 0).take 256

/-- The channel's remote work fails with a completion code (R318, R321): REMOTE_STATUS, and the channel halts. -/
def State.remoteFail (s : State) (x c code : Nat) : State := s.chanFail x c 0 0x28 (c + 16 * (code % 4096))

/-- The stream header of a descriptor (R317). -/
def State.streamHeader (s : State) (d : Nat) : Bytes :=
  leBytes 8 (xdDst d % 2 ^ 40) ++ leBytes 4 (xdLen d) ++ leBytes 2 (xdRows d) ++ leBytes 2 (bitsAt d 176 16 &&& 0x1F0) ++
    leBytes 4 (xdDstStride d) ++ leBytes 2 s.selfIndex ++ List.replicate 10 0

/-- A request record (R319). -/
def State.requestRecord (s : State) (len addr : Nat) : Bytes :=
  [0x01, 0] ++ leBytes 2 len ++ leBytes 4 0 ++ leBytes 8 addr ++ leBytes 2 s.selfIndex ++ List.replicate 14 0

/-- What a port puts in a slot: KIND, RINDEX, payload, and a reply's status. -/
structure Fill where
  kind : Nat
  rindex : Nat
  payload : Bytes
  status : Option Nat
deriving DecidableEq, Repr

/-- An IDLE cell. -/
def Fill.idle : Fill := ⟨0, 0, cellPad [], none⟩

/-- Whether a chunk, or its stream's header before it, is at its port (R253, R317, R319). -/
def RemoteChunk.atPort (r : RemoteChunk) (cyc : Nat) : Bool :=
  decide ((if r.first && decide (r.kind < 2) then r.headAt else r.due) ≤ cyc)

/-- The next cell of a channel's stream (R317). A chunk whose last cell leaves joins the receipt queue; a full queue takes no
entry and the thread traps (R318). -/
def State.fillChannel (s : State) (q x c : Nat) : Fill × State :=
  match s.remote.find? (fun r => r.x == x && r.c == c && decide (r.kind < 2) && s.modulePort r.module == some q && r.atPort s.gclk) with
  | none => (Fill.idle, s)
  | some r =>
    let put (r2 : Option RemoteChunk) : State :=
      { s with remote := (match r2 with
          | some v => s.remote.map (fun w => if w = r then v else w)
          | none => s.remote.filter (fun w => w != r)) }
    if r.first then (⟨1, 0, cellPad (s.streamHeader (leVal r.header)), none⟩, put (some { r with first := false }))
    else
      let rest := r.data.drop 256
      let f : Fill := ⟨1, 0, cellPad (r.data.take 256), none⟩
      if rest.isEmpty then
        let s1 := put none
        if 256 ≤ (s.port q).queue.length then (f, s1.remoteFail x c 0x021)
        else (f, s1.updPort q (fun p => { p with queue := p.queue ++ [(x, c)] }))
      else (f, put (some { r with data := rest }))

/-- The next request of a channel (R319). -/
def State.fillRequest (s : State) (q x c n : Nat) : Fill × State :=
  match s.remote.find? (fun r => r.x == x && r.c == c && r.kind == 2 && s.modulePort r.module == some q && r.atPort s.gclk) with
  | none => (Fill.idle, s)
  | some r =>
    let k := min 256 r.len
    let rest := r.len - k
    let s1 : State := { s with remote := (if rest = 0 then s.remote.filter (fun w => w != r)
      else s.remote.map (fun w => if w = r then { r with addr := r.addr + k, len := rest } else w)) }
    (⟨1, 0, cellPad (s.requestRecord k r.addr), none⟩,
      s1.updPort q (fun p => { p with asked := p.asked ++ [⟨s.replySlot q n, x, c, r.job, k, decide (rest = 0)⟩] }))

/-- An OPEN slot (R316): mirror traffic on mirror ports, then replies to unscheduled requests. This module's units send no
unscheduled requests of their own over a port (log entry 32). -/
def State.fillOpen (s : State) (q : Nat) : Fill × State :=
  let p := s.port q
  match p.mirror, p.unsched with
  | m :: r, _ => (⟨1, 0, cellPad m, none⟩, s.updPort q (fun g => { g with mirror := r }))
  | [], u :: r => (⟨1, 0, cellPad u, none⟩, s.updPort q (fun g => { g with unsched := r }))
  | [], [] => (Fill.idle, s)

/-- A reply slot (R320). -/
def State.fillReply (s : State) (q n : Nat) : Fill × State :=
  match (s.port q).replies.find? (fun r => r.slot == n) with
  | none => (Fill.idle, s)
  | some r => (⟨1, 0, cellPad r.data, some r.status⟩,
      s.updPort q (fun p => { p with replies := p.replies.filter (fun g => g.slot != n) }))

/-- The receipts of a port brought up to date from the outcomes at hand (R318). -/
def State.settleReceipts (s : State) (q : Nat) : State :=
  let look (tag : Nat) : Option Nat := (s.answers.find? (fun a => a.src == Origin.port q tag)).map (fun a => a.code)
  let owed := (s.port q).owed.map (fun o => match o.2 with
    | some c => (o.1, some c)
    | none => (o.1, look o.1))
  let done := owed.filterMap (fun o => if o.2.isSome then some o.1 else none)
  ({ s with answers := s.answers.filter (fun a => match a.src with
      | .port r tag => !(r == q && done.contains tag)
      | _ => true) } : State).updPort q (fun p => { p with owed := owed })

/-- Replies to unscheduled requests whose outcome has come (R316): a 32-byte reply header, which echoes the request and the
status, then the data. -/
def State.takeReceipt (s : State) (q : Nat) : Option Nat × State :=
  match (s.port q).owed with
  | (_, some c) :: r => (some c, s.updPort q (fun p => { p with owed := r }))
  | _ => (none, s)

/-- The order in which messages take a message field (R313). -/
def msgRank (m : Msg) : Nat :=
  (match m.type with | 3 => 0 | 4 => 1 | 1 => 2 | 2 => 3 | _ => 4) * 512 + m.issuer

/-- The first of a list of messages under R313. -/
def firstMsg : List Msg → Option Msg
  | [] => none
  | m :: r => match firstMsg r with
    | none => some m
    | some g => if msgRank g < msgRank m then some g else some m

/-- Up to two messages for a block's message fields: those not yet sent on the port first, then the others again (R261, R313). -/
def State.blockMsgs (s : State) (q : Nat) : List Msg :=
  let fresh := s.beat.send.filter (fun m => !(s.port q).told.contains m)
  let pick (l : List Msg) : List Msg := match firstMsg l with
    | some m => (match firstMsg (l.filter (fun g => g != m)) with | some k => [m, k] | none => [m])
    | none => []
  (pick fresh ++ pick (s.beat.send.filter (fun m => (s.port q).told.contains m))).take 2

/-- Whether a message's frame or beat has passed (R261); the beat of an UNCLAMP is the first that could follow from it. -/
def State.msgPast (s : State) (m : Msg) : Bool :=
  match m.type with
  | 3 => decide (m.target < s.beatNow)
  | 4 => decide (m.target + s.propagation < s.beatNow)
  | _ => decide (m.target < s.frameNow)

end Sys2Proof.Machine
end

