-- ==== Sys2Proof/Machine/Pair.lean ====
section
/-! DEFINITION. The twin pair as the ports see it: the TWIN section, the mirror ports, pairing records (R410, R411), the loss of the
partner (R424). -/

namespace Sys2Proof.Machine

/-- The TWIN section in force with mirror ports (R292): its record. -/
def State.twinRec (s : State) : Option Bytes :=
  match s.sectionBody 0x31 devScope with
  | some b => if fieldAt b 1 1 = 0xFF then none else some b
  | none => none
/-- The mirror ports. -/
def State.mirrorPorts (s : State) : List Nat :=
  match s.twinRec with
  | some b => [fieldAt b 1 1, fieldAt b 2 1]
  | none => []
/-- A mirror port that carries mirror traffic: trained, joined to the partner the TWIN section names (R410). -/
def State.mirrorUp (s : State) (q : Nat) : Bool :=
  match s.twinRec with
  | some b => s.portUp q && (s.port q).partner == fieldAt b 8 8
  | none => false
/-- The mirror port that records take: the first that is up (log entry 35). -/
def State.mirrorPort (s : State) : Option Nat := s.mirrorPorts.find? s.mirrorUp

/-- TWN_STATUS.STATE. -/
def State.twinState (s : State) : Nat := s.rd F.TWN_STATUS_STATE 0
/-- Whether two modules are paired, in any state from SYNCING on in which mirror traffic runs (R411, R428). -/
def State.paired (s : State) : Bool := [2, 3, 7, 8].contains s.twinState

/-- TWN_STATUS.STATE set, with the DOUBLE_DUTY condition (R433). -/
def State.setTwin (s : State) (v : Nat) : State :=
  let s1 := s.wr F.TWN_STATUS_STATE 0 v
  if [5, 6, 7, 8].contains v then s1.attn F.ATT_PENDING_DOUBLE_DUTY else s1

/-- The mirror engine's state changed. -/
def State.updTwin (s : State) (f : Twin → Twin) : State := { s with twin := f s.twin }

/-- The heads of a pairing record (R411): of each logical tile, every head that is ENABLED. -/
def State.pairHeads (s : State) : List PairHead :=
  (List.range 96).flatMap (fun n => match s.tileOfLogical n with
    | none => []
    | some x => (List.range 4).filterMap (fun h =>
      let i := 4 * x + h
      if s.rd F.KVS_CFG_ENABLED i = 1 then
        some ⟨n, h, s.rd F.KVS_CFG_MIRROR i == 1,
          [s.rd F.KVS_CFG_DIM i, s.rd F.KVS_CFG_K_FMT i, s.rd F.KVS_CFG_V_FMT i, s.rd F.KVS_CFG_GROUP i, s.rd F.KVS_CFG_DECAY i,
            s.rd F.KVS_CFG_ROUND i, Tab.get 0 s.headKeys i, s.rd F.KVS_POOL_POOL_PAGES i, s.rd F.KVS_TABLES_LT_CAP i]⟩
      else none))

/-- The pairing record of this module (R411). -/
def State.pairRec (s : State) : PairRec :=
  ⟨(s.twinRec.map (fun b => fieldAt b 0 1)).getD 0, (List.range 96).filter (fun n => (s.tileOfLogical n).isSome), s.pairHeads,
    s.rd F.BEAT_CFG_FRAME_LOG2 0, s.rd F.BEAT_CFG_DOMAIN_MODULES 0, s.selfIndex, BitVec.ofNat 64 (s.rd F.QUO_IDENT_IDENT 0)⟩

/-- Pairing is tried (R411): after a Bond Stream load and a retrain of a mirror port, over every mirror port that is up. -/
def State.tryPair (s : State) : State :=
  if s.twinRec.isNone then ({ s with twin := Twin.idle } : State).setTwin 0
  else
    let s1 := if s.twinState = 0 then s.setTwin 1 else s
    { s1 with out := s1.out ++ (s1.mirrorPorts.filter s1.mirrorUp).map (fun q => Out.pairing q s1.pairRec) }

/-- The partner is lost at this beat (R424, R426, R430): takeover begins, or back-fill is abandoned. -/
def State.declareLoss (s : State) : State :=
  let st := s.twinState
  if st = 7 ∨ st = 8 then ((s.setTwin 6).wr F.TWN_CTL_BACKFILL 0 0).updTwin (fun w => { w with sent := [] })
  else if st = 2 ∨ st = 3 then
    let s1 := (((s.setTwin 4).attn F.ATT_PENDING_PARTNER_LOST).wr F.TWN_CTL_TAKEOVER 0 0).wr F.TWN_TAKEOVER_LOST_BEAT 0 (s.beatNow % 2 ^ 32)
    ((s1.updTwin (fun w => { w with lostAt := some s.beatNow, late := [], rxBad := true })).sat F.TWN_COUNT_TAKEOVERS 0 1).requestHold
  else s

/-- Partner loss: every mirror port is down and three heartbeats in a row are missed (R424). With ports up, the silence shows. -/
def State.checkLoss (s : State) : State :=
  if s.twin.hbMissed < 3 ∨ !s.paired then s
  else if s.mirrorPorts.any s.mirrorUp then (s.wr F.TWN_STATUS_SILENT 0 1).attn F.ATT_PENDING_MIRROR_LAG
  else s.declareLoss

/-- A mirror port goes down: what it carried may be lost (R421), and the partner with it. -/
def State.mirrorDown (s : State) (q : Nat) : State :=
  if s.mirrorPorts.contains q ∧ s.paired then (s.updTwin (fun w => { w with resync := true })).checkLoss else s

end Sys2Proof.Machine
end

