-- ==== Sys2Proof/Machine/Links.lean ====
section
/-! DEFINITION. Cells sent, received and released (R256, R257, R310 to R320), NAKs and receipts (R314, R318), and the training and
loss of ports (R322, R323). -/

namespace Sys2Proof.Machine

/-! ### Sending -/

/-- A cell leaves in a slot: it is kept for its let slot, with the receipt or status it carries (R310, R318). -/
def State.sendCell (s : State) (q n : Nat) (f : Fill) (reply : Bool) : State :=
  let s0 := s.settleReceipts q
  let rc := if reply then (none, s0) else s0.takeReceipt q
  let status := match f.status with
    | some v => v
    | none => s.statusField (rc.1.getD 0)
  let c : SentCell := ⟨n, rc.1.isSome, status, f.payload⟩
  let s1 := rc.2.updPort q (fun p => { p with sent := p.sent ++ [c] })
  { s1 with out := s1.out ++ [.cell q n f.kind f.rindex c.rcpt status f.payload] }

/-- A let slot (R256, R314): the marked cell of lowest slot number whose let slot this is, or IDLE. -/
def State.sendLet (s : State) (q n : Nat) : State :=
  let p := s.port q
  let due := (p.naks.filter (fun m => s.letOf q m == n && !p.resent.contains m))
  match due.foldl (fun a m => match a with | none => some m | some k => some (min k m)) (none : Option Nat) with
  | none => { s with out := s.out ++ [.cell q n 0 0 false (s.statusField 0) (cellPad [])] }
  | some m => match p.sent.find? (fun c => c.slot == m) with
    | none => s
    | some c =>
      let s1 := (s.sat F.LNK_CELLS_RESENDS q 1).updPort q (fun g => { g with resent := m :: g.resent })
      { s1 with out := s1.out ++ [.cell q n 2 (slotIndex s.frameLen (s.portX4 q) m % 16) c.rcpt c.status c.payload] }

/-- The block that begins with cell 0 carries the domain's messages (R308, R313). -/
def State.sendMsgs (s : State) (q : Nat) : State :=
  let ms := s.blockMsgs q
  let s1 := s.updPort q (fun p => { p with told := p.told ++ ms.filter (fun m => !p.told.contains m) })
  { s1 with out := s1.out ++ ms.map (fun m => .message q m),
            beat := { s1.beat with send := s1.beat.send.filter (fun m => !s.msgPast m) } }

/-- Cells whose let slot has passed are forgotten. -/
def State.pruneSent (s : State) (q n : Nat) : State :=
  s.updPort q (fun p => { p with
    sent := p.sent.filter (fun c => decide (n ≤ s.letOf q c.slot)), naks := p.naks.filter (fun m => decide (n ≤ s.letOf q m)),
    resent := p.resent.filter (fun m => decide (n ≤ s.letOf q m)), next := n + 1 })

/-- The position of the logical tile a map entry names. -/
def State.entryTile (s : State) (e : Nat) : Option Nat := s.tileOfLogical (mapTile e)

/-- A port fills the slot that begins now (R315, R316). -/
def State.cellSlotSend (s : State) (q : Nat) : State :=
  if !s.portUp q || s.frozen then s
  else match slotAt s.frameLen (s.portX4 q) s.lclk with
  | none => s
  | some n =>
    if n < (s.port q).next then s
    else
      let s0 := s.pruneSent q n
      let s1 := if slotIndex s.frameLen (s.portX4 q) n % 3 = 0 then s0.sendMsgs q else s0
      if slotIndex s.frameLen (s.portX4 q) n % 16 = 15 then s1.sendLet q n
      else
        let e := s.mapEntry q 0 n
        let idle : Fill × State := (Fill.idle, s1)
        let r := if s.marginPort q then idle else match mapUse e with
          | 0 => s1.fillOpen q
          | 1 => (match s.entryTile e with | some x => s1.fillChannel q x (mapChan e) | none => idle)
          | 2 => (match s.entryTile e with | some x => s1.fillRequest q x (mapChan e) n | none => idle)
          | _ => s1.fillReply q n
        r.2.sendCell q n r.1 (mapUse e == 3)

/-- CELL_SLOT_SEND (R316). -/
def execCellSlotSend (t : Nat) (q : PortIx) (s : State) : Result := .next ((s.tick t).cellSlotSend q)

/-! ### Receiving -/

/-- A reserved encoding in a request record (R319). -/
def requestBad (opens : Bool) (p : Bytes) : Bool :=
  fieldAt p 0 1 != 1 || decide (1 < fieldAt p 1 1) || (!opens && fieldAt p 1 1 != 0) || decide (256 < fieldAt p 2 2) ||
    fieldAt p 4 4 != 0 || fieldAt p 8 8 >>> 40 != 0 || decide (511 < fieldAt p 16 2) || (p.drop 18).any (fun b => b != 0)

/-- A read for a reply slot goes to its slice from the FRESH copy of the request (R320); a violation has its outcome at once. -/
def State.readForReply (s : State) (q tag : Nat) (p : Bytes) : State :=
  let a := fieldAt p 8 8
  let n := fieldAt p 2 2
  if n = 0 ∨ requestBad false p then s
  else match s.rangeViol false a n with
    | some _ => { s with answers := s.answers ++ [⟨.port q tag, 0, 0x013, []⟩] }
    | none => s.sendInbound ⟨.port q tag, .read, a, n, [], s.gclk + s.routeLat (112 + q) (s.dpaEnd a) + 8, false, false, 0⟩

/-- The tag of a request that came in slot n: requests and streams of a port have tags of their own. -/
def requestTag (n : Nat) : Nat := 2 * n + 1

/-- The counters of a cell that is not received intact (R311, R328). -/
def State.cellErrors (s : State) (q n : Nat) (c : Cell) : State :=
  let s1 := if c.fec = 1 then s.sat F.LNK_ERR_FEC_CORR q 1 else if c.fec = 2 then s.sat F.LNK_ERR_FEC_UNCORR q 1 else s
  let s2 := if c.crc then s1 else s1.sat F.LNK_ERR_CRC_FAIL q 1
  let s3 := if c.fec != 2 && c.crc && !c.tag then
      (s2.sat F.LNK_CELLS_TAG_FAIL q 1).updPort q (fun p => { p with tagFails := p.tagFails + 1 }) else s2
  if slotIndex s.frameLen (s.portX4 q) n % 3 = 0 then
    s3.updPort q (fun p => { p with crcRun := if c.crc then 0 else p.crcRun + 1 })
  else s3

/-- A cell arrives in slot n (R311, R314): the copy of slot n, or a RESEND whose original is the slot with this let slot and
RINDEX. It is held until its release time. -/
def State.cellReceive (s : State) (q n : Nat) (c : Cell) : State :=
  if !s.portUp q then s
  else
    let intact := c.fec != 2 && c.crc && c.tag
    let s1 := s.cellErrors q n c
    if c.kind = 2 then
      match (s.port q).held.find? (fun h => s.letOf q h.slot == n && slotIndex s.frameLen (s.portX4 q) h.slot % 16 == c.rindex.val) with
      | none => s1
      | some h => if h.ok || !intact then s1
        else s1.updPort q (fun p => { p with held := p.held.map (fun g =>
          if g.slot = h.slot then { g with ok := true, kind := 1, rcpt := c.rcpt, status := c.status.toNat, payload := c.payload } else g) })
    else
      let h : HeldCell := ⟨n, intact, intact, c.kind.val, c.rcpt, c.status.toNat, c.payload⟩
      let s2 := if (s.port q).held.any (fun g => g.slot == n) then s1 else s1.updPort q (fun p => { p with held := p.held ++ [h] })
      if intact && c.kind == 1 && mapUse (s.mapEntry q 1 n) == 2 then s2.readForReply q (requestTag n) c.payload else s2

/-- CELL_RECEIVE (R311). -/
def execCellReceive (t : Nat) (q : PortIx) (slot : Nat) (cell : Cell) (s : State) : Result :=
  .next ((s.tick t).cellReceive q slot cell)

/-! ### Release (R256, R257, R317, R320) -/

/-- Chunks of a stream, and bytes of one chunk as they travel (R317). -/
def streamDesc (h : Bytes) : Nat :=
  (fieldAt h 0 8) * 2 ^ 64 + (fieldAt h 8 4) * 2 ^ 128 + (fieldAt h 12 2) * 2 ^ 160 + ((fieldAt h 14 2) * 2 ^ 176) + (fieldAt h 16 4) * 2 ^ 224

/-- Whether a stream header has a reserved field set (R317). -/
def streamBad (h : Bytes) : Bool :=
  fieldAt h 0 8 >>> 40 != 0 || (fieldAt h 14 2 &&& 0xFE0F) != 0 || xdAdd (streamDesc h) > 1 || xdFmt (streamDesc h) > 3 ||
    decide (511 < fieldAt h 20 2) || (h.drop 22).any (fun b => b != 0)

/-- A chunk of a stream served at its address (R317): a write or an add, whose outcome is the chunk's receipt. -/
def State.streamServe (s : State) (q : Nat) (st : Stream) (data : Bytes) : State :=
  let d := streamDesc st.head
  let tag := 2 * (s.port q).jobs
  let owe (code : Option Nat) (a : State) : State :=
    a.updPort q (fun p => { p with jobs := p.jobs + 1, owed := p.owed ++ [(tag, code)] })
  let a := xdDstAt d st.chunk
  let n := xdSize d st.chunk
  if st.bad then owe (some 0x020) s
  else if xdAdd d = 1 ∧ (xdLen d % 512 ≠ 0 ∨ a % 512 ≠ 0) then owe (some 0x015) s
  else if (s.rangeViol false a n).isSome ∨ (xdAdd d = 1 ∧ (s.addViol (xdFmt d) a).isSome) then owe (some 0x013) s
  else owe none (s.sendInbound ⟨.port q tag, if xdAdd d = 1 then .add (xdFmt d) else .write, a, n, data,
    s.gclk + s.routeLat (112 + q) (s.dpaEnd a), (fieldAt st.head 14 2).testBit 9, false, st.chunk⟩)

/-- A cell of a stream is released (R317): the header, or the next 256 bytes of the chunk in progress. -/
def State.streamCell (s : State) (q key : Nat) (payload : Bytes) : State :=
  match (s.port q).streams.find? (fun g => g.key == key) with
  | none =>
    let h := payload.take 32
    if xdTotal (streamDesc h) = 0 then s
    else s.updPort q (fun p => { p with streams := p.streams ++ [⟨key, h, streamBad h || (payload.drop 32).any (fun b => b != 0), 0, []⟩] })
  | some st =>
    let d := streamDesc st.head
    let want := if xdLs d then 520 else xdSize d st.chunk
    let part := st.part ++ payload.take (min 256 (want - st.part.length))
    let put (o : Option Stream) (a : State) : State :=
      a.updPort q (fun p => { p with streams := (match o with
        | some v => p.streams.map (fun g => if g.key = key then v else g)
        | none => p.streams.filter (fun g => g.key != key)) })
    if part.length < want then put (some { st with part := part }) s
    else
      let s1 := s.streamServe q st part
      if st.chunk + 1 = xdTotal d then put none s1 else put (some { st with chunk := st.chunk + 1, part := [] }) s1

/-- The reply of a request settled at its release (R320). -/
def State.settleReply (s : State) (q : Nat) (h : HeldCell) : State :=
  let tag := requestTag h.slot
  let found := s.answers.find? (fun a => a.src == Origin.port q tag)
  let busy := s.statusField 0x011
  let r : Nat × Bytes :=
    if requestBad false h.payload then (s.statusField 0x020, [])
    else if fieldAt h.payload 2 2 = 0 then (s.statusField 0, [])
    else if !h.fresh then (busy, [])
    else match found with
      | some a => (s.statusField a.code, if a.code = 0 then a.data else [])
      | none => (busy, [])
  let s1 := { s with answers := s.answers.filter (fun a => a.src != Origin.port q tag) }
  let s2 := if r.1 % 4096 = 0x011 then (match s.decodeDpa false (fieldAt h.payload 8 8) with
    | .slice x _ => s1.sat F.SLC_COUNT_BUSY_REPLIES x 1
    | _ => s1) else s1
  s2.updPort q (fun p => { p with replies := p.replies ++ [⟨s.replySlot q h.slot, r.1, r.2⟩] })

/-- A reply released at its requester (R320): data goes on to its destination once the chunk is whole; any other code traps. -/
def State.takeReply (s : State) (q : Nat) (h : HeldCell) : State :=
  match (s.port q).asked.find? (fun a => a.slot == h.slot) with
  | none => s
  | some a =>
    let s1 := s.updPort q (fun p => { p with asked := p.asked.filter (fun b => b.slot != h.slot) })
    if h.status % 4096 != 0 then
      (s1.updPort q (fun p => { p with pieces := p.pieces.filter (fun v => !(v.1 == a.x && v.2.1 == a.c)) })).remoteFail a.x a.c h.status
    else
      let have0 := match (s.port q).pieces.find? (fun v => v.1 == a.x && v.2.1 == a.c) with
        | some v => v.2.2
        | none => []
      let data := have0 ++ h.payload.take a.len
      let s2 := s1.updPort q (fun p => { p with pieces := p.pieces.filter (fun v => !(v.1 == a.x && v.2.1 == a.c)) })
      if a.last then s2.chunkOut a.x a.c a.job (112 + q) data
      else s2.updPort q (fun p => { p with pieces := p.pieces ++ [(a.x, a.c, data)] })

/-- An unscheduled request in an OPEN slot joins its slice's queue in the class it names (R171, R316). -/
def State.openRequest (s : State) (q : Nat) (h : HeldCell) : State :=
  let p := h.payload.take 32
  let tag := 2 * (s.port q).jobs
  let reply (code : Nat) (data : Bytes) (a : State) : State :=
    a.updPort q (fun g => { g with jobs := g.jobs + 1, unsched := g.unsched ++ [p ++ leBytes 2 (s.statusField code) ++ data] })
  let n := fieldAt p 2 2
  if requestBad true p ∨ 224 < n then reply 0x020 [] s
  else if n = 0 then reply 0 [] s
  else match s.rangeViol false (fieldAt p 8 8) n, s.decodeDpa false (fieldAt p 8 8) with
    | some _, _ => reply 0x013 [] s
    | none, .slice x _ => (s.updPort q (fun g => { g with jobs := g.jobs + 1 })).enqueue x
        ⟨.port q tag, .read, fieldAt p 8 8, n, [], s.gclk, fieldAt p 1 1 == 1, false, leVal p⟩
    | none, .scratch r _ => (s.updPort q (fun g => { g with jobs := g.jobs + 1 })).enqueue (13 * r)
        ⟨.port q tag, .read, fieldAt p 8 8, n, [], s.gclk, fieldAt p 1 1 == 1, false, leVal p⟩
    | none, .viol _ => reply 0x013 [] s

/-- Outcomes of unscheduled reads become replies for OPEN slots (R316). -/
def State.unschedReplies (s : State) (q : Nat) : State :=
  let mine := s.answers.filter (fun a => match a.src with
    | .port r tag => r == q && tag % 2 == 0 && a.job != 0 && !(s.port q).owed.any (fun o => o.1 == tag)
    | _ => false)
  ({ s with answers := s.answers.filter (fun a => !mine.contains a) } : State).updPort q (fun p => { p with
    unsched := p.unsched ++ mine.map (fun a => leBytes 32 a.job ++ leBytes 2 (s.statusField a.code) ++ (if a.code = 0 then a.data else [])) })

/-- A cell is lost (R257). -/
def State.cellLost (s : State) (q : Nat) : State :=
  let s1 := s.sat F.LNK_CELLS_LOST q 1
  if s.marginPort q then s1 else (s1.attn F.ATT_PENDING_CELL_LOST).overrunAll 2 q

/-- A cell released intact acts by the inbound entry of its slot (R316 to R320); mirror records have events of their own. -/
def State.cellAct (s : State) (q : Nat) (h : HeldCell) : State :=
  let e := s.mapEntry q 1 h.slot
  match mapUse e with
  | 3 => s.takeReply q h
  | 2 => if h.kind = 1 then s.settleReply q h else s
  | 1 => if h.kind = 1 then s.streamCell q (16 * mapTile e + mapChan e) h.payload else s
  | _ => if h.kind = 1 ∧ s.portRole q ≠ 1 then s.openRequest q h else s

/-- The held cell whose release is due first, if one is due. -/
def State.dueCell (s : State) (q : Nat) : Option HeldCell :=
  (s.port q).held.foldl (fun a h =>
    if s.lclk < s.releaseAt q h.slot then a
    else match a with
      | none => some h
      | some g => if h.slot < g.slot then some h else some g) none

/-- The first held cell whose release is due leaves (R256). A let slot carries nothing of its own. -/
def State.cellRelease (s : State) (q : Nat) : State :=
  let s0 := s.unschedReplies q
  if s.frozen then s0
  else match s.dueCell q with
  | none => s0
  | some h =>
    let s1 := s0.updPort q (fun p => { p with held := p.held.filter (fun g => g.slot != h.slot) })
    if slotIndex s.frameLen (s.portX4 q) h.slot % 16 = 15 then s1
    else if h.ok then s1.cellAct q h else s1.cellLost q

/-- CELL_RELEASE (R256). -/
def execCellRelease (t : Nat) (q : PortIx) (s : State) : Result := .next ((s.tick t).cellRelease q)

/-- NAK (R314): the marked slots whose cells were sent and are not yet resent await their let slots. -/
def execCellNak (t : Nat) (q : PortIx) (slots : List Nat) (s : State) : Result :=
  let s1 := s.tick t
  .next (s1.updPort q (fun p => { p with
    naks := p.naks ++ slots.filter (fun n => p.sent.any (fun c => c.slot == n) && !p.naks.contains n &&
      !p.naks.any (fun m => decide (m < n) && s1.letOf q m == s1.letOf q n)) }))

/-- RECEIPT (R318, R321): matched to the queue in order. -/
def State.receipt (s : State) (q status : Nat) : State :=
  match (s.port q).queue with
  | [] => s
  | (x, c) :: r =>
    let s1 := s.updPort q (fun p => { p with queue := r })
    if status % 4096 = 0 then s1.chanServed x c else (s1.sat F.LNK_CELLS_RCPT_FAIL q 1).remoteFail x c status

/-- RECEIPT. -/
def execCellReceipt (t : Nat) (q : PortIx) (status : BitVec 16) (s : State) : Result :=
  .next ((s.tick t).receipt q status.toNat)

/-! ### Training (R322, R323, R446) -/

/-- What a port holds of cells and streams is dropped; its spare lane and partner stay. Mirror records lost with
it leave their epoch incomplete (R421). -/
def State.clearPort (s0 : State) (q : Nat) : State :=
  let s := if s0.portRole q = 1 ∧ (s0.port q).mirror ≠ [] then { s0 with twin := { s0.twin with resync := true } } else s0
  s.updPort q (fun p => { PortState.idle with spare := p.spare, partner := p.partner, noSession := p.noSession, jobs := p.jobs })

/-- A port's training begins again, ATTEMPTS and all (R322). -/
def State.trainPort (s : State) (q : Nat) : State :=
  (((s.clearPort q).wr F.LNK_STATUS_TRAINING q 1).wr F.LNK_STATUS_ATTEMPTS q 0).wr F.LNK_STATUS_SESSION q 0

/-- A port is DOWN with a reason (R322, R323); floor-plan item 3 is a link entry. -/
def State.portDown (s : State) (q reason : Nat) : State :=
  (((((s.clearPort q).wr F.LNK_STATUS_STATE q 0).wr F.LNK_STATUS_SESSION q 0).wr F.LNK_STATUS_DOWN_REASON q reason).fpPush 3 q 0).mirrorDown q

/-- A beat source port that is gone puts the beat in holdover (R249). -/
def State.loseSource (s : State) (q : Nat) : State :=
  if s.rd F.BEAT_STATUS_STATE 0 = 1 ∧ s.beat.via = some q then
    { ((s.wr F.BEAT_STATUS_STATE 0 2).attn F.ATT_PENDING_BEAT) with beat := { s.beat with holdFrom := s.beatNow } }
  else s

/-- A port in service loses lock or its session (R323): DOWN, LINK attention, recorded, and a retrain begins. -/
def State.portLost (s : State) (q reason : Nat) : State :=
  if s.portUp q then
    (((((s.portDown q reason).attn F.ATT_PENDING_PORT_DOWN).noteFw 4 q).sat F.LNK_STATUS_RETRAINS q 1).trainPort q).loseSource q |>.checkRoutes
  else s

/-- PORT_LOCK_LOSS (R323): after 16 consecutive blocks whose cell 0 fails its CRC. -/
def execPortLockLoss (t : Nat) (q : PortIx) (s : State) : Result :=
  let s1 := s.tick t
  .next (if 16 ≤ (s1.port q).crcRun then s1.portLost q 5 else s1)

/-- SESSION_DROP (R311, R323): after 8 tag failures in one frame. -/
def execSessionDrop (t : Nat) (q : PortIx) (s : State) : Result :=
  let s1 := s.tick t
  .next (if 8 ≤ (s1.port q).tagFails then s1.portLost q 4 else s1)

/-- PARTNER_DETECT (R322): an UNTRAINED port begins training, in every state except park, unless it is disabled. -/
def execPartnerDetect (t : Nat) (q : PortIx) (s : State) : Result :=
  let s1 := s.tick t
  .next (if s1.rd F.LNK_STATUS_STATE q = 3 ∧ s1.rd F.LNK_STATUS_TRAINING q = 0 ∧ s1.rd F.SYS_POWER_STATE 0 ≠ 3 ∧
      s1.rd F.LNK_CTL_DISABLE q = 0 ∧ s1.life.powered then s1.trainPort q else s1)

/-- Whether the group's spare lane is free for a port (R29, R30, R307). -/
def State.spareFree (s : State) (q : Nat) : Bool :=
  s.rd F.FP_SPARE_STATE (q / 4) != 2 && (List.range 4).all (fun i =>
    let p := 4 * (q / 4) + i
    p == q || (s.port p).spare.isNone)

/-- LAT_CLASS for a latency: the smallest c with L(c) ≥ λ + 32 (R322). -/
def latClass (lambda : Nat) : Nat := ceilDiv (lambda + 32 - 320) 128

/-- The widths, sessions and latency of an attempt that has signal: the new STATE, or the reason it fails. -/
def State.attempt (s : State) (q : Nat) (r : TrainResult) : Except Nat (Nat × Option Nat) :=
  let good := popCount 4 r.lanes.toNat
  let failed := (List.range 4).find? (fun i => !r.lanes.getLsbD i)
  let use := good < 4 ∧ r.spare ∧ s.spareFree q
  let n := if use then good + 1 else good
  if n < 2 then .error (if r.ber then 2 else 1)
  else if !r.session || s.rd F.QUO_STATUS_OWNED 0 == 0 || s.rd F.QUO_STATUS_TRNG_OK 0 == 0 then .error 4
  else if cellLat 15 < r.lambda + 32 then .error 3
  else .ok (if n = 4 then 1 else 2, if use then failed else none)

/-- A training attempt ends (R322): trained, tried again, or DOWN after the third. -/
def State.trainEnd (s : State) (q : Nat) (r : TrainResult) : State :=
  if s.rd F.LNK_STATUS_TRAINING q = 0 then s
  else
    let stop (a : State) : State := (a.wr F.LNK_STATUS_TRAINING q 0).wr F.LNK_CTL_RETRAIN q 0
    if s.rd F.LNK_CTL_DISABLE q = 1 then stop (s.portDown q 6)
    else if !r.signal then stop ((s.wr F.LNK_STATUS_STATE q 3).fpPush 3 q 0)
    else
      let s1 := s.wr F.LNK_STATUS_ATTEMPTS q (s.rd F.LNK_STATUS_ATTEMPTS q + 1)
      match s.attempt q r with
      | .error e =>
        let s2 := s1.updPort q (fun p => { p with noSession := e == 4 })
        if 3 ≤ s1.rd F.LNK_STATUS_ATTEMPTS q then stop (s2.portDown q e) else s2
      | .ok (st, sp) =>
        let s2 := s1.updPort q (fun p => { p with spare := sp, partner := r.partner.toNat, noSession := false })
        let s3 := ((((s2.wr F.LNK_STATUS_STATE q st).wr F.LNK_STATUS_LAT_CLASS q (latClass r.lambda)).wr F.LNK_STATUS_LAMBDA q
          r.lambda).wr F.LNK_STATUS_SESSION q 1).wr F.LNK_STATUS_DOWN_REASON q 0
        let s4 := s3.extendMeas 11 (Config.sm3 (leBytes 8 r.partner.toNat ++ leBytes 1 q))
        let s5 := if sp.isSome then s4.fpPush 6 (q / 4) 7 else s4
        let s6 := stop ((s5.fpPush 3 q 0).checkRoutes)
        if s6.mirrorPorts.contains q then s6.tryPair else s6

/-- TRAINING_ATTEMPT_END (R322). -/
def execTrainingAttemptEnd (t : Nat) (q : PortIx) (res : TrainResult) (s : State) : Result :=
  .next ((s.tick t).trainEnd q res)

/-- LINK_RETRAIN (R323, R328). -/
def State.linkRetrain (s : State) (q : Nat) : State :=
  if s.rd F.LNK_CTL_RETRAIN q = 1 ∨ s.rd F.LNK_CTL_DISABLE q = 1 then s
  else
    let s1 := s.wr F.LNK_CTL_RETRAIN q 1
    if s.portUp q then (((s1.portDown q 0).sat F.LNK_STATUS_RETRAINS q 1).trainPort q).loseSource q |>.checkRoutes
    else (s1.wr F.LNK_STATUS_STATE q 0).trainPort q

/-- LINK_RETRAIN. -/
def execLinkRetrain (t : Nat) (q : PortIx) (s : State) : Result := .next ((s.tick t).linkRetrain q)

/-- PORT_DISABLE (R328): the port is held DOWN with reason DISABLED. -/
def execPortDisable (t : Nat) (q : PortIx) (s : State) : Result :=
  let s1 := (s.tick t).wr F.LNK_CTL_DISABLE q 1
  let s2 := if s1.portUp q then s1.attn F.ATT_PENDING_PORT_DOWN else s1
  .next ((((s2.portDown q 6).wr F.LNK_STATUS_TRAINING q 0).wr F.LNK_CTL_RETRAIN q 0).loseSource q).checkRoutes

end Sys2Proof.Machine
end

