-- ==== Sys2Proof/Machine/PowerOps.lean ====
section
/-! DEFINITION. Power and its limits: envelopes (R382), the decision of each frame (R383), ramp and filler (R270, R271, R384, R387),
the emergency clamp's call and release (R398 to R400). -/

namespace Sys2Proof.Machine

/-- Beats of a number of milliseconds. -/
def msBeats (n : Nat) : Nat := 125000 * n

/-- A pier's power cap in W (R394). -/
def State.cap (s : State) (p : Nat) : Nat := s.rd F.THM_PIER_CAP p
/-- The sum of the pier caps. -/
def State.capSum (s : State) : Nat := ([0, 1, 2, 3, 4, 5, 6, 7].map s.cap).foldl (· + ·) 0

/-- The power controller's state changed. -/
def State.updPower (s : State) (f : Power → Power) : State := { s with power := f s.power }

/-- Whether a boost frame is granted (R382). -/
def State.boostGranted (s : State) : Bool :=
  s.rd F.PWR_ENVELOPE_BOOST 0 == 1 && s.power.inputOk && s.rd F.PWR_LEDGER_WITHHELD 0 == 0 && s.power.coolFrom.isNone
/-- Beats of peak within one boost interval: 20 ms. -/
def peakBeats : Nat := msBeats 20
/-- The allowed power of a frame (R382). -/
def State.allowed (s : State) : Nat :=
  if s.boostGranted then
    (if s.rd F.PWR_ENVELOPE_PEAK 0 = 1 ∧ s.power.peakUsed < peakBeats then 3900 else 3300)
  else s.rd F.PWR_ENVELOPE_SUSTAINED_W 0

/-- The plan of schedule frame j of an image, if it has a power table (R272). -/
def Image.plan (g : Image) (j : Nat) : Option Nat :=
  if g.power.isEmpty then none else some (g.power.getD (j % g.power.length) 0 % 4096)
/-- PREEMPT of schedule frame j (R268, R272). -/
def Image.preempt (g : Image) (j : Nat) : Bool := !g.power.isEmpty && (g.power.getD (j % g.power.length) 0).testBit 12

/-- The filler of a pier and its total. -/
def Power.fillerSum (p : Power) : Nat := p.filler.foldl (· + ·) 0

/-- Watts that do not fit a pier go to piers with room left, the lowest first (R387; log entry 33). -/
def fillRoom : List Nat → List Nat → Nat → List Nat × Nat
  | a :: as, r :: rs, extra =>
    let add := min (r - a) extra
    let q := fillRoom as rs (extra - add)
    ((a + add) :: q.1, q.2)
  | l, _, extra => (l, extra)

/-- The filler of R270 divided among the piers whose compute rail is on (R387): each share raised to the keep-warm need and bounded
by the cap and the grid; the second part is what fits nowhere. -/
def State.splitFiller (s : State) (total : Nat) : List Nat × Nat :=
  let ps := [0, 1, 2, 3, 4, 5, 6, 7]
  let on (p : Nat) : Bool := (s.rd F.PWR_DOMAINS_ON 0).testBit p
  let n := (ps.filter on).length
  let room := ps.map (fun p => if on p then min 350 (s.cap p) else 0)
  let share := ps.map (fun p => if on p then total / n + (if p = ((ps.find? on).getD 0) then total % n else 0) else 0)
  let want := (share.zip s.power.warm).map (fun e => max e.1 e.2)
  let base := (want.zip room).map (fun e => min e.1 e.2)
  let lost := ((share.zip base).map (fun e => e.1 - e.2)).foldl (· + ·) 0
  fillRoom base room (if n = 0 then 0 else lost)

/-- Filler put in force (R270, R387). -/
def State.setFiller (s : State) (total : Nat) : State :=
  let off := s.rd F.THM_STATUS_CLAMPED 0 == 1 || decide (2 ≤ s.rd F.SYS_POWER_STATE 0)
  let r := if off then (List.replicate 8 0, 0) else s.splitFiller total
  let s1 := (s.updPower (fun p => { p with filler := r.1 })).wr F.BEAT_RAMP_FILLER 0 (r.1.foldl (· + ·) 0)
  let s2 := [0, 1, 2, 3, 4, 5, 6, 7].foldl (fun a p => a.wr F.PWR_RAIL_FILLER_W p (r.1.getD p 0)) s1
  if r.2 = 0 then s2 else s2.sat F.PWR_COUNT_RAMP_BREAKS 0 1

/-- The next frames that would run, as clock frame and schedule frame, from the frame in progress (R270): rest frames already
decided run no schedule frame. -/
def State.framesAhead (s : State) : Nat → Nat → Nat → List (Nat × Nat)
  | 0, _, _ => []
  | n + 1, f, j => if s.beat.restAt f then s.framesAhead n (f + 1) j else (f, j) :: s.framesAhead n (f + 1) (j + 1)

/-- What a plan asks of the ramp at a boundary (R270): the largest plan less STEP for each period until it starts, with the clock
frame that asks it. -/
def State.rampNeed (s : State) (ahead : List (Nat × Nat)) : Int × Nat :=
  let t := s.beatNow
  let step := s.rd F.BEAT_RAMP_STEP 0
  let log := s.rd F.BEAT_RAMP_PERIOD_LOG2 0
  ahead.foldl (fun a e => match (s.img s.activeSlot).plan e.2 with
    | none => a
    | some w =>
      let v : Int := (w : Int) - (step * ((e.1 * s.frameLen - t) >>> log) : Nat)
      if a.1 < v then (v, e.1) else a) (((s.rd F.BEAT_RAMP_TARGET 0 : Nat) : Int) - (step : Nat), 0)

/-- The planned power of the frame in progress: nothing while it rests. -/
def State.planNow (s : State) : Nat :=
  let g := s.img s.activeSlot
  if s.beat.rest then 0 else (g.plan g.sched).getD 0

/-- A ramp boundary (R270, R271, R384). -/
def State.rampBoundary (s : State) : State :=
  if s.rd F.BEAT_RAMP_ENABLE 0 = 0 ∨ s.beatNow % 2 ^ s.rd F.BEAT_RAMP_PERIOD_LOG2 0 ≠ 0 ∨ s.now % 32 ≠ 0 ∨
      s.rd F.THM_STATUS_CLAMPED 0 = 1 then s
  else
    let prev := s.rd F.BEAT_RAMP_TARGET 0
    let step := s.rd F.BEAT_RAMP_STEP 0
    let need := s.rampNeed (s.framesAhead 257 s.frameNow (s.img s.activeSlot).sched)
    let want := (min need.1 ((prev + step : Nat) : Int)).toNat
    let lim := min s.allowed s.capSum
    let target := min want lim
    let s1 := s.wr F.BEAT_RAMP_TARGET 0 target
    let s2 := if target + step < prev ∧ lim < prev - step then s1.sat F.PWR_COUNT_RAMP_BREAKS 0 1 else s1
    let s3 := s2.setFiller (target - s.planNow)
    if ((prev + step : Nat) : Int) < need.1 then s3.issue 0 (max s.targetFrame need.2) else s3

/-- A fall of the allowed power or of the pier caps takes the target down at once (R384). -/
def State.rampLimit (s : State) : State :=
  let lim := min s.allowed s.capSum
  if s.rd F.BEAT_RAMP_ENABLE 0 = 1 ∧ lim < s.rd F.BEAT_RAMP_TARGET 0 then
    ((s.wr F.BEAT_RAMP_TARGET 0 lim).sat F.PWR_COUNT_RAMP_BREAKS 0 1).setFiller (lim - s.planNow)
  else s

/-! ### The decision of a frame (R382, R383) -/

/-- The figures of PWR_STATUS that count time (R408). -/
def State.showPower (s : State) : State :=
  let p := s.power
  let b := s.beatNow
  let s1 := s.wr F.PWR_STATUS_ENV 0 (if p.boostFrom.isSome then 1 else if p.coolFrom.isSome then 2 else 0)
  let s2 := s1.wr F.PWR_STATUS_BOOST_LEFT 0 (match p.boostFrom with
    | some f => (msBeats 2000 - (b - f)) / msBeats 1
    | none => 0)
  let s3 := s2.wr F.PWR_STATUS_PEAK_LEFT 0 (if p.boostFrom.isSome then (peakBeats - p.peakUsed) / 12500 else 0)
  s3.wr F.PWR_STATUS_COOLDOWN 0 (if p.coolFrom.isSome then (msBeats 8000 - (b - p.lastHigh)) / msBeats 1 else 0)

/-- The open boost interval ends and its cooldown begins (R382, R385). -/
def State.boostEnd (s : State) : State :=
  if s.power.boostFrom.isSome then
    (s.updPower (fun p => { p with boostFrom := none, peakUsed := 0, coolFrom := some p.lastHigh })).showPower
  else s

/-- A frame's measured power against its envelope (R382). -/
def State.envelopeFrame (s : State) (w : Nat) : State :=
  let isOver := s.rd F.PWR_ENVELOPE_SUSTAINED_W 0 < w
  let s1 := if s.power.allowed < w ∧ s.power.allowed ≠ 0 then s.sat F.PWR_COUNT_OVERRUNS 0 1 else s
  let opens := isOver ∧ s.power.boostFrom.isNone ∧ s.boostGranted
  let start := s.beatNow - s.frameLen
  let s2 := s1.updPower (fun p => { p with
    boostFrom := if opens then some start else p.boostFrom,
    peakUsed := (if opens then 0 else p.peakUsed) + (if 3300 < w then s.frameLen else 0),
    lastHigh := if isOver then s.beatNow else p.lastHigh })
  let s3 := s2.wr F.PWR_STATUS_INPUT_W 0 w
  if s3.power.inputOk then s3 else s3.boostEnd

/-- The credits of the piers after a frame (R383). -/
def State.newCredits (s : State) (m : FrameMeas) : List Int :=
  [0, 1, 2, 3, 4, 5, 6, 7].map (fun p =>
    let c : Int := (s.cap p : Nat)
    min (s.power.credit.getD p 0 + c * (s.frameLen : Nat) - ((m.piers.getD p 0 * s.frameLen : Nat) : Int))
      (c * ((msBeats 2 : Nat) : Int)))

/-- err of R383: the largest excess of measured power over the forecast among the last 256 frames that ran, never below 0. -/
def Power.err (p : Power) : Int := p.errs.foldl max 0

/-- decide(k) at the first beat of frame k (R383): `ran` says that the frame just ended ran a schedule frame. -/
def State.decideFrame (s : State) (m : FrameMeas) (ran : Bool) : State :=
  let g := s.img s.activeSlot
  let pw := s.power
  let errs := if ran then (match pw.fc with
    | some f => ((((m.watts : Nat) : Int) - f) :: pw.errs).take 256
    | none => pw.errs) else pw.errs
  let powers := if ran then (m.watts :: pw.powers).take 256 else pw.powers
  let j := if s.beat.rest then g.sched else g.sched + 1
  let fill : Int := (pw.fillerSum : Nat)
  let fc : Int := match g.plan j with
    | some w => (w : Nat) + fill + (errs.foldl max 0)
    | none => ((powers.foldl (· + ·) 0 / max 1 powers.length : Nat) : Int) + fill
  let credit := s.newCredits m
  let short := [0, 1, 2, 3, 4, 5, 6, 7].foldl (fun a p => if credit.getD p 0 < 0 then a + 2 ^ p else a) 0
  let allow := s.allowed
  let isOver : Bool := decide ((allow : Int) < fc)
  let s1 := s.updPower (fun p => { p with
    errs := errs, powers := powers, credit := credit, fc := some fc, allowed := allow,
    restWhy := p.restWhy.filter (fun r => decide (s.frameNow < r.1)) })
  if short ≠ 0 ∨ isOver then
    let why := if short ≠ 0 then short else 256
    let s2 := s1.sat (if short ≠ 0 then F.PWR_COUNT_RESTS_THERMAL else F.PWR_COUNT_RESTS_ENVELOPE) 0 1
    (s2.updPower (fun p => { p with restWhy := (s.frameNow + 1, why) :: p.restWhy })).issue 0 (s.frameNow + 1)
  else s1

/-- Filler of a rest frame (R384): none in a pier whose credit asked for it; bounded by the allowed power when the envelope
did. -/
def State.restFiller (s : State) : State :=
  match s.power.restWhy.find? (fun r => r.1 == s.frameNow) with
  | none => s
  | some (_, why) =>
    let f := [0, 1, 2, 3, 4, 5, 6, 7].map (fun p => if why.testBit p then 0 else s.power.filler.getD p 0)
    let g := if why.testBit 8 then (fillRoom (List.replicate 8 0) f s.allowed).1 else f
    let s1 := (s.updPower (fun p => { p with filler := g })).wr F.BEAT_RAMP_FILLER 0 (g.foldl (· + ·) 0)
    [0, 1, 2, 3, 4, 5, 6, 7].foldl (fun a p => a.wr F.PWR_RAIL_FILLER_W p (g.getD p 0)) s1

/-! ### The emergency clamp (R398 to R400) -/

/-- Whether the beat holds, so that a clamp goes through the domain (R398). -/
def State.beatHolds (s : State) : Bool := s.rd F.BEAT_STATUS_STATE 0 == 1 || s.rd F.BEAT_STATUS_STATE 0 == 2

/-- A step test that a load, reset or clamp interrupts sets FAIL (R396). -/
def State.commissionStop (s : State) : State :=
  if s.power.commission.isSome then
    (((s.updPower (fun p => { p with commission := none })).wr F.THM_COMMISSION_START 0 0).wr F.THM_COMMISSION_RUNNING 0 0).wr
      F.THM_COMMISSION_FAIL 0 1
  else s

/-- The ramp target falls to 0 at once at a clamp, a trip or a shutdown (R384; log entry 42). -/
def State.rampDrop (s : State) : State :=
  if s.rd F.BEAT_RAMP_ENABLE 0 = 1 ∧ s.rd F.BEAT_RAMP_TARGET 0 ≠ 0 then
    (s.wr F.BEAT_RAMP_TARGET 0 0).sat F.PWR_COUNT_RAMP_BREAKS 0 1
  else s

/-- The clamp takes hold at this module. -/
def State.clampMark (s0 : State) (cause : Nat) : State :=
  let s := s0.commissionStop.rampDrop
  let s1 := ((s.wr F.THM_STATUS_CLAMPED 0 1).wr F.THM_STATUS_CLAMP_CAUSE 0 cause).sat F.THM_STATUS_CLAMPS 0 1
  ((s1.attn F.ATT_PENDING_CLAMP).updPower (fun p => { p with calm := 0 })).setFiller 0

/-- The clock stops for compute: schedule time and gated units stand (R118, R264). -/
def State.gate (s : State) : State :=
  { s with beat := { s.beat with
      freezeFrom := some s.now, stallFrom := (match s.beat.stallFrom with | some c => some c | none => some s.now) } }

/-- The gated units run again; a rest frame cut by the freeze goes on resting. -/
def State.ungate (s : State) : State :=
  match s.beat.freezeFrom with
  | none => s
  | some c =>
    let b := s.beat
    { s with beat := { b with
        freezeFrom := none, gated := b.gated + (s.now - c),
        stallFrom := if b.rest then b.stallFrom else none,
        stalled := if b.rest then b.stalled else b.stalled + (s.now - b.stallFrom.getD s.now) } }

/-- The emergency clamp is called (R398, R399): CLAMP is issued, filler goes off. With the clamp in force the trigger is absorbed
and restarts the release condition; without a beat the module gates at once. `piers` is the mask of piers whose forecast
called it. -/
def State.callClamp (s : State) (cause piers : Nat) : State :=
  if s.rd F.THM_STATUS_CLAMPED 0 = 1 ∧ s.power.own then
    s.updPower (fun p => { p with calm := 0, callers := p.callers ||| piers })
  else
    let s1 := (s.clampMark cause).updPower (fun p => { p with own := true, callers := p.callers ||| piers })
    if s.beatHolds then s1.issue 3 (s.beatNow + s.propagation)
    else (s1.gate).updPower (fun p => { p with localFrom := some s.beatNow, clampFrom := some s.beatNow })

/-- After a clamp: the caps of the piers that called it are halved, to rise by at most 5 % at each update (R400). -/
def State.clampOver (s : State) : State :=
  let s1 := (s.wr F.THM_STATUS_CLAMPED 0 0).updPower (fun p => { p with
    own := false, clampFrom := none, localFrom := none, callers := 0, calm := 0,
    half := [0, 1, 2, 3, 4, 5, 6, 7].map (fun i => if s.power.callers.testBit i then max 1 (512 * s.cap i) else p.half.getD i 0) })
  [0, 1, 2, 3, 4, 5, 6, 7].foldl (fun a i => if s.power.callers.testBit i then a.wr F.THM_PIER_CAP i (s.cap i / 2) else a) s1

/-- The release condition of R400 is met: UNCLAMP, or the local gate opens. -/
def State.releaseClamp (s : State) : State :=
  if s.power.localFrom.isSome then (s.ungate).clampOver
  else if s.beat.clampers.contains s.selfIndex then s.issue 4 s.beatNow
  else s

end Sys2Proof.Machine
end

