-- ==== Sys2Proof/Machine/TwinOps.lean ====
section
/-! DEFINITION. Image-slot copies and contexts (R267, R345), and the mirror engine's sending side (R414 to R422, R429). -/

namespace Sys2Proof.Machine

/-! ### Slot copies and contexts (R267) -/

/-- What a slot keeps of a tile, taken from the tile (R267). -/
def State.copyTake (s : State) (x : Nat) : SlotCopy :=
  let ks := [0, 1, 2, 3]
  ⟨ks.map (fun k => s.rd F.SEQ_PLAY_BASE_BASE (4 * x + k)) ++
      [s.rd F.SEQ_XCH_DESC_BASE_BASE x, s.rd F.ARR_DESC_BASE_BASE x, s.rd F.BKU_CMD_BASE_BASE x],
    ks.map (fun k => (s.thread x k).pos), ks.map (fun k => (s.thread x k).stack),
    ks.map (fun k => s.rd F.SEQ_NUMFLAGS_LS_INEXACT (4 * x + k) + 2 * s.rd F.SEQ_NUMFLAGS_NAN_MADE (4 * x + k) +
      4 * s.rd F.SEQ_NUMFLAGS_SATURATED (4 * x + k) + 8 * s.rd F.SEQ_NUMFLAGS_CONV_SPECIAL (4 * x + k) +
      16 * s.rd F.SEQ_NUMFLAGS_OVERFLOW_INF (4 * x + k)),
    ks.map (fun k => Tab.get Ctx.closed (s.tile x).ctxs k)⟩

/-- What a slot keeps of a tile, put in force (R267). -/
def State.copyPut (s : State) (x : Nat) (c : SlotCopy) : State :=
  let s1 := [0, 1, 2, 3].foldl (fun a k =>
    let fl := c.flags.getD k 0
    let b (f : Fld) (i : Nat) (z : State) : State := z.wr f (4 * x + k) (bit (fl.testBit i))
    let a1 := b F.SEQ_NUMFLAGS_OVERFLOW_INF 4 (b F.SEQ_NUMFLAGS_CONV_SPECIAL 3 (b F.SEQ_NUMFLAGS_SATURATED 2
      (b F.SEQ_NUMFLAGS_NAN_MADE 1 (b F.SEQ_NUMFLAGS_LS_INEXACT 0 a))))
    ((a1.wr F.SEQ_PLAY_BASE_BASE (4 * x + k) (c.bases.getD k 0)).updThread x k (fun h => { h with
      pos := c.pos.getD k 0, stack := c.loopStacks.getD k [] })).updTile x (fun t => { t with
      ctxs := Tab.put Ctx.closed t.ctxs k (c.ctxs.getD k Ctx.closed) })) s
  ((s1.wr F.SEQ_XCH_DESC_BASE_BASE x (c.bases.getD 4 0)).wr F.ARR_DESC_BASE_BASE x (c.bases.getD 5 0)).wr
    F.BKU_CMD_BASE_BASE x (c.bases.getD 6 0)

/-- The switch between image slots (R267): each tile's copy changes hands; the partitions' weights are invalid (R123). -/
def State.switchSlot (s : State) (toward : Nat) : State :=
  if s.activeSlot = toward then s
  else
    let s1 := (List.range 104).foldl (fun a x =>
      if a.role x != 0 then a
      else
        let mine := a.copyTake x
        let old := if toward = 0 then (a.tile x).copyA else (a.tile x).copyB
        let a1 := (a.copyPut x old).updTile x (fun t => if toward = 0 then { t with copyB := mine } else { t with copyA := mine })
        [0, 1, 2, 3].foldl (fun z k => (z.wr F.ARR_STATUS_ACTIVE_VALID (4 * x + k) 0).wr F.ARR_STATUS_SHADOW_VALID (4 * x + k) 0) a1) s
    ((s1.wr F.BEAT_SLICE_ACTIVE 0 toward).wr F.FRONT_JOB_ACTIVE 0 toward).showSched

/-- The copy an image slot has of a tile. -/
def State.slotCopy (s : State) (i x : Nat) : SlotCopy :=
  if s.activeSlot = i then s.copyTake x else if i = 0 then (s.tile x).copyA else (s.tile x).copyB

/-- A copy given to an image slot. -/
def State.putSlotCopy (s : State) (i x : Nat) (c : SlotCopy) : State :=
  if s.activeSlot = i then s.copyPut x c
  else s.updTile x (fun t => if i = 0 then { t with copyA := c } else { t with copyB := c })

/-- Bytes of a random context within a saved context. -/
def ctxBytes (c : Ctx) : Bytes :=
  leBytes 16 c.key ++ leBytes 16 c.e ++ [BitVec.ofNat 8 (bit c.k3 + 2 * bit c.seq + 4 * bit c.opened)]
/-- A random context from its bytes. -/
def ctxOf (b : Bytes) : Ctx :=
  let f := fieldAt b 32 1
  ⟨fieldAt b 0 16, f.testBit 0, f.testBit 1, f.testBit 2, fieldAt b 16 16, false, 0⟩

/-- A tile's part of a context, 512 bytes. The spec gives a context no layout (log entry 34). -/
def copyBytes (c : SlotCopy) : Bytes :=
  let st (l : List Level) : Bytes := leBytes 4 l.length ++
    ((l ++ List.replicate 4 (⟨0, 0⟩ : Level)).take 4).flatMap (fun (v : Level) => leBytes 4 v.play ++ leBytes 4 v.left)
  let b := c.bases.flatMap (leBytes 4) ++ c.pos.flatMap (leBytes 4) ++ c.flags.flatMap (leBytes 1) ++ c.loopStacks.flatMap st ++
    c.ctxs.flatMap ctxBytes
  (b ++ List.replicate 512 0).take 512

/-- A tile's part of a context from its bytes. -/
def copyOf (b : Bytes) : SlotCopy :=
  let ks := [0, 1, 2, 3]
  ⟨(List.range 7).map (fun i => fieldAt b (4 * i) 4), ks.map (fun k => fieldAt b (28 + 4 * k) 4),
    ks.map (fun k => (List.range (min 4 (fieldAt b (48 + 36 * k) 4))).map (fun i =>
      ⟨fieldAt b (52 + 36 * k + 8 * i) 4, fieldAt b (56 + 36 * k + 8 * i) 4⟩)),
    ks.map (fun k => fieldAt b (44 + k) 1), ks.map (fun k => ctxOf (b.drop (192 + 33 * k)))⟩

/-! ### Records (R415) -/

/-- A record cut into cells (R415). -/
def recordCells (rec : Bytes) : List Bytes :=
  (List.range (ceilDiv rec.length 256)).map (fun i => (rec.drop (256 * i)).take 256)

/-- A mirror record sent on a port (R415): header and data. -/
def State.sendRecordOn (s : State) (q kind flags ltile head addr : Nat) (data : Bytes) : State :=
  let rec0 := leBytes 1 kind ++ leBytes 1 flags ++ leBytes 1 ltile ++ leBytes 1 head ++ leBytes 4 data.length ++
    leBytes 4 (s.img s.activeSlot).sched ++ leBytes 4 s.twin.seq ++ leBytes 8 addr ++ leBytes 4 s.twin.epoch ++ leBytes 4 0
  (s.updPort q (fun p => { p with mirror := p.mirror ++ recordCells (rec0 ++ data) })).updTwin (fun w => { w with
    seq := (w.seq + 1) % 2 ^ 32 })

/-- A mirror record sent to the partner, if a mirror port is up; kinds other than the heartbeat await confirmation (R420). -/
def State.sendRecord (s : State) (kind flags ltile head addr : Nat) (data : Bytes) (page : Nat × Nat × Nat) : State :=
  match s.mirrorPort with
  | none => s.updTwin (fun w => { w with resync := true })
  | some q => (s.sendRecordOn q kind flags ltile head addr data).updTwin (fun w => { w with
      unacked := w.unacked ++ [(s.twin.seq, s.frameNow, page)] })

/-- No page. -/
def noPage : Nat × Nat × Nat := (104, 0, 0)

/-- What was last sent of a table entry. -/
def State.marked (l : List Mirrored) (x h kind ix : Nat) : Option Bytes :=
  (l.find? (fun m => m.x == x && m.h == h && m.kind == kind && m.ix == ix)).map (fun m => m.data)
/-- The record of what was last sent brought up to date. -/
def markPut (l : List Mirrored) (m : Mirrored) : List Mirrored :=
  m :: l.filter (fun g => !(g.x == m.x && g.h == m.h && g.kind == m.kind && g.ix == m.ix))

/-- The fields of a page-table entry whose change means that the page's bytes changed: VALID, LPAGE, FILL, ENTRY (R429). -/
def pageFields (b : Bytes) : Nat × Nat × Nat × Bool :=
  let e := ptOf (leVal b)
  (e.lpage, e.fill, e.entry, e.valid)

/-- The bytes of a page-table entry and of a length-table entry. -/
def State.pteBytes (s : State) (x h i : Nat) : Bytes := s.tsRead x (s.ptAt x h i) 16
/-- The bytes of a length-table entry. -/
def State.lteBytes (s : State) (x h e : Nat) : Bytes := s.tsRead x (s.ltAt x h e) 32

/-- What a pass over one head sends (R417, R422, R429). -/
structure HeadPass where
  s : State
  marks : List Mirrored
  pages : Nat
deriving DecidableEq, Repr

/-- The changes of a head sent in the order PTE, LTE, PAGE (R417); `all` walks every VALID slot and every table entry (R422).
`to` is the head the records name. -/
def State.sendHead (s : State) (x h toward flags : Nat) (marks : List Mirrored) (all : Bool) : HeadPass :=
  let n := (s.tile x).facts.logical
  let pool := s.kvPool x h
  let zero (k : Nat) : Bytes := List.replicate k 0
  let slots := (List.range pool).filter (fun i => all || (State.marked marks x h 3 i).getD (zero 16) != s.pteBytes x h i)
  let pages := slots.filter (fun i =>
    let b := s.pteBytes x h i
    (ptOf (leVal b)).valid && (all || pageFields ((State.marked marks x h 3 i).getD (zero 16)) != pageFields b))
  let ents := (List.range (s.rd F.KVS_TABLES_LT_CAP (hIx x h))).filter (fun e =>
    all || (State.marked marks x h 4 e).getD (zero 32) != s.lteBytes x h e)
  let s1 := slots.foldl (fun a i => a.sendRecord 0x03 flags n toward i (s.pteBytes x h i) noPage) s
  let s2 := ents.foldl (fun a e => a.sendRecord 0x04 flags n toward e (s.lteBytes x h e) noPage) s1
  let s3 := pages.foldl (fun a i =>
    a.sendRecord 0x02 flags n toward i (s.memRead (sliceBase x + s.pageOff x h i) (512 * s.kvPc x h)) (x, h, i)) s2
  let m1 := slots.foldl (fun l i => markPut l ⟨x, h, 3, i, s.pteBytes x h i⟩) marks
  ⟨s3, ents.foldl (fun l e => markPut l ⟨x, h, 4, e, s.lteBytes x h e⟩) m1, pages.length⟩

/-- The heads of the module that are mirrored (R412). -/
def State.mirroredHeads (s : State) : List (Nat × Nat) :=
  (List.range 104).flatMap (fun x => if s.role x = 0 then
    [0, 1].filterMap (fun h => if s.rd F.KVS_CFG_ENABLED (hIx x h) = 1 ∧ s.rd F.KVS_CFG_MIRROR (hIx x h) = 1 then some (x, h) else none)
    else [])

/-- The positions with role COMPUTE in logical order. -/
def State.computeTiles (s : State) : List Nat := (List.range 96).filterMap (fun n => s.tileOfLogical n)

/-- CONTEXT and CARRY of every logical tile, then END (R418); the twin-duty variant's carry area lies at 0x1_0000. -/
def State.sendCheckpoint (s : State) (slot flags : Nat) : State :=
  let area := if slot = 0 then 0 else 0x10000
  let s1 := s.computeTiles.foldl (fun a x =>
    let n := (s.tile x).facts.logical
    let a1 := a.sendRecord 0x05 flags n 0 0 (copyBytes (s.slotCopy slot x)) noPage
    a1.sendRecord 0x06 flags n 0 0 (s.tsRead x area 0x10000) noPage) s
  (s1.sendRecord 0x07 flags 0 0 0 [] noPage).updTwin (fun w => { w with epoch := (w.epoch + 1) % 2 ^ 32 })

/-- The mirror region of the position that serves a logical tile begins here (R165, R414). -/
def State.mirrorOff (s : State) (x : Nat) : Nat := sliceSize - s.rd F.SLC_REGIONS_MIRROR_UNITS x * 2 ^ 29

/-- Room of the undo log, in bytes over all tiles of the module (R414). -/
def State.undoRoom (s : State) : Nat :=
  s.computeTiles.foldl (fun a x => a + (s.rd F.SLC_REGIONS_MIRROR_UNITS x * 2 ^ 29 - 2 ^ 24)) 0
/-- Bytes the undo log holds. -/
def Twin.undoBytes (w : Twin) : Nat := w.undo.foldl (fun a u => a + u.old.length + 16) 0

/-- TWN_MIRROR and the MIRROR_LAG condition (R420, R433). -/
def State.showMirror (s : State) : State :=
  let old := s.twin.unacked.foldl (fun a u => max a (s.frameNow - u.2.1)) 0
  let fill := if s.undoRoom = 0 then 0 else min 255 (s.twin.undoBytes * 256 / s.undoRoom)
  let s1 := (s.wr F.TWN_MIRROR_BACKLOG 0 (min 255 old)).wr F.TWN_MIRROR_UNDO_FILL 0 fill
  if s.paired ∧ (8 < old ∨ 224 < fill ∨ s.rd F.TWN_STATUS_RESYNC 0 = 1) then s1.attn F.ATT_PENDING_MIRROR_LAG else s1

/-- The mirror engine at a clock-frame boundary (R417, R418, R421, R422): after an epoch it could not complete it sends VOID and
walks; then the frame's changes; then, at every 64th schedule frame of slot A, a checkpoint. `ended` is the schedule frame just
ended of slot A, if it was one. -/
def State.mirrorFrame (s : State) (ended : Option Nat) : State :=
  if !s.paired ∨ s.mirrorPort.isNone then s
  else
    let s1 := if s.twin.resync then
        (((s.sendRecord 0x08 0 0 0 0 [] noPage).updTwin (fun w => { w with
          resync := false, walk := true, epoch := (w.epoch + 1) % 2 ^ 32 })).sat F.TWN_MIRROR_VOIDS 0 1).wr F.TWN_STATUS_RESYNC 0 1
      else s
    let all := s1.twin.walk
    let s2 := s1.mirroredHeads.foldl (fun a e =>
      let r := a.sendHead e.1 e.2 e.2 0 a.twin.mark all
      r.s.updTwin (fun w => { w with mark := r.marks })) s1
    let s3 := s2.updTwin (fun w => { w with walk := false })
    let s4 := match ended with
      | some i => if i % 64 = 63 then (s3.sendCheckpoint 0 0).wr F.TWN_STATUS_RESYNC 0 0 else s3
      | none => s3
    s4.showMirror

end Sys2Proof.Machine
end

