-- ==== Sys2Proof/Machine/Frame.lean ====
section
/-! DEFINITION. The boundary of a clock frame (R244, R245): the frame check, pre-emption points, slice turns, rest frames, threads
that start and stop, the mirror engine and the power controller. -/

namespace Sys2Proof.Machine

/-! ### The frame that ends -/

/-- Whether some thread runs in the module. -/
def State.anyThread (s : State) : Bool := (List.range 104).any (fun x => s.rd F.SEQ_THREAD_CTL_RUNNING x != 0)
/-- Whether the frame in progress is a schedule frame of the active image (R245). -/
def State.schedRuns (s : State) : Bool := !s.beat.rest && (s.img s.activeSlot).loaded && s.anyThread

/-- PLAYS of thread k for a schedule frame, from the frame table in a tile's store (R272). -/
def State.framePlays (s : State) (g : Image) (x k : Nat) : Option Nat :=
  let period := fieldAt g.header 20 2
  if period = 0 then none
  else some (bitsAt (s.tsNat x (fieldAt g.header 24 4 + 16 * (g.sched % period) + 4 * k) 4) 0 18)

/-- FRAME_CHECK (R274). -/
def State.frameCheck (s : State) : State :=
  let g := s.img s.activeSlot
  (s.imageTiles g).foldl (fun a x => (List.range (s.threadCount x)).foldl (fun z k =>
    if s.running x k ∧ (s.thread x k).whole then
      (match s.framePlays g x k with
      | some n => if (s.thread x k).issued = n then z else z.overrun x 4 k
      | none => z)
    else z) a) s

/-- The unit of a tile that is found busy at a pre-emption point, as the detail of R266. -/
def State.busyUnit (s : State) (x : Nat) : Option Nat :=
  let e := (s.tile x).eng
  match (List.range 4).find? (fun k => let p := s.part x k; !p.passes.isEmpty || p.load.isSome) with
  | some k => some k
  | none =>
    if !(s.tile x).mv.isEmpty || !(s.tile x).attends.isEmpty then some 4
    else if (s.tile x).slice.slot.isSome then some 5
    else if !e.stores.isEmpty then some 6
    else match (List.range 16).find? (fun c => (s.chan x c).started) with
      | some c => some (16 + c)
      | none => if (s.tile x).units.any (fun u => u.2.st == .running) then some 0x20 else none

/-- FABRIC_BUSY (R268). -/
def State.fabricCheck (s : State) : State :=
  let g := s.img s.activeSlot
  let s1 := (s.imageTiles g).foldl (fun a x => match s.busyUnit x with
    | some u => a.overrun x 5 u
    | none => a) s
  match (List.range 16).find? (fun q => !(s.port q).queue.isEmpty || !(s.port q).asked.isEmpty) with
  | some q => s1.overrunAll 5 (0x30 + q)
  | none => s1

/-- The schedule frame that ended: its checks, and the index moves on (R245, R268, R274). -/
def State.endSched (s : State) : State :=
  let i := s.activeSlot
  let g := s.img i
  let s1 := s.frameCheck
  let s2 := if g.preempt g.sched then s1.fabricCheck else s1
  (s2.updImg i (fun v => { v with sched := v.sched + 1, turn := v.turn + 1, ran := true })).showSched

/-! ### Slice turns (R269) and the twins at a pre-emption point (R425, R428) -/

/-- The quantum of a slot in the pattern in force. -/
def State.quantum (s : State) (i : Nat) : Nat := if i = 0 then s.beat.pattern.1 else s.beat.pattern.2.1

/-- Whether the slot's turns rest (B_REST). -/
def State.turnRests (s : State) : Bool := s.activeSlot == 1 && s.beat.pattern.2.2

/-- Every thread of an image's tiles asked to stop now. -/
def State.stopImage (s : State) (g : Image) : State :=
  (s.imageTiles g).foldl (fun a x => (List.range (s.threadCount x)).foldl (fun z k =>
    if z.running x k ∨ z.started x k then z.stopThread x k else z) a) s

/-- The end of a turn: the other slot's turn begins, if the pattern gives it one. `pre` says that the boundary is a pre-emption
point of the outgoing image; a rest turn and an image without threads end without one. -/
def State.sliceTurn (s : State) (pre : Bool) : State :=
  let i := s.activeSlot
  let isOver := s.quantum i ≤ (s.img i).turn
  if isOver ∧ 0 < s.quantum (1 - i) ∧ (pre ∨ s.turnRests ∨ !s.anyThread) then
    ((s.switchSlot (1 - i)).updImg i (fun g => { g with turn := 0 })).updImg (1 - i) (fun g => { g with turn := 0 })
  else s

/-- A pattern takes effect at clock frame TARGET (R269). -/
def State.patternDue (s : State) (k : Nat) : State :=
  if s.rd F.BEAT_SLICE_PENDING 0 = 1 ∧ k % 2 ^ 32 = s.rd F.BEAT_SLICE_TARGET 0 then
    ({ s with beat := { s.beat with
        pattern := (s.rd F.BEAT_SLICE_QUANTUM_A 0, s.rd F.BEAT_SLICE_QUANTUM_B 0, s.rd F.BEAT_SLICE_B_REST 0 == 1) } } : State).wr
      F.BEAT_SLICE_PENDING 0 0
  else s

/-- Slot B stops at a pre-emption point while RELEASE is set (R425). -/
def State.releasePoint (s : State) (pre : Bool) : State :=
  if pre ∧ s.activeSlot = 1 ∧ s.rd F.TWN_CTL_RELEASE 0 = 1 then
    ((s.stopImage s.imgB).setTwin 1).wr F.TWN_CTL_RELEASE 0 0
  else s

/-- The handover point (R428): the first checkpoint of slot B once the replacement has caught up. The survivor holds the domain,
stops slot B, sends a last pass, CONTEXT, CARRY and HANDOVER. -/
def State.handoverPoint (s : State) (ended : Bool) : State :=
  if ended ∧ s.activeSlot = 1 ∧ s.twinState = 8 ∧ (s.imgB.sched - 1) % 64 = 63 then
    let s1 := (s.requestHold).stopImage s.imgB
    let heads := (List.range 104).flatMap (fun x => if s.role x = 0 then [(x, 2), (x, 3)] else [])
    let s2 := heads.foldl (fun a e =>
      let r := a.sendHead e.1 e.2 (e.2 - 2) 1 a.twin.sent false
      r.s.updTwin (fun w => { w with sent := r.marks })) s1
    let s3 := s2.computeTiles.foldl (fun a x =>
      let n := (s.tile x).facts.logical
      (a.sendRecord 0x05 1 n 0 0 (copyBytes (s.slotCopy 1 x)) noPage).sendRecord 0x06 1 n 0 0 (s.tsRead x 0x10000 0x10000) noPage) s2
    let s4 := s3.sendRecord 0x09 0 0 0 0 (leBytes 4 s.imgB.sched) noPage
    (((s4.setTwin 2).wr F.TWN_CTL_BACKFILL 0 0).attn F.ATT_PENDING_REJOINED).sat F.TWN_COUNT_REJOINS 0 1
  else s

/-! ### The frame that begins -/

/-- Holds that have ended and rest frames that have passed are forgotten (R263). -/
def BeatState.prune (b : BeatState) (k : Nat) : BeatState :=
  { b with
    rests := b.rests.filter (fun f => decide (k < f)),
    holders := b.holders.filter (fun h => !b.endsBy h k),
    resumes := b.resumes.filter (fun r => decide (k < r.2)),
    seen := b.seen.take 64 }

/-- A refresh owed is carried out in a rest frame (R183). -/
def State.restRefresh (s : State) (x : Nat) : State :=
  let l := (s.tile x).slice
  let s1 := (s.updSlice x (fun m => { m with
    refreshEnd := if m.owed = 0 then m.refreshEnd else s.now + 128 * m.owed, restIssued := false })).setOwed x 0
  s1.updTile x (fun t => { t with units := t.units.map (fun u =>
    (u.1, if u.2.st = .running then { u.2 with owed := l.owed } else u.2)) })

/-- The frame begins as a rest frame or not: schedule time stands or runs (R245, R260). -/
def State.beginFrame (s : State) (k : Nat) : State :=
  let rest := s.beat.restAt k || s.turnRests
  let b := s.beat.prune k
  let b1 : BeatState := if rest then
      { b with rest := true, stallFrom := (match b.stallFrom with | some c => some c | none => some s.now) }
    else match b.stallFrom with
      | some c => { b with rest := false, stallFrom := none, stalled := b.stalled + (s.now - c) }
      | none => { b with rest := false }
  let s1 := { s with beat := { b1 with frame := k + 1 } }
  let s2 := { s1 with beat := { s1.beat with frameStart := s1.sclk } }
  if rest then (List.range 104).foldl (fun a x => if (s.tile x).slice.owed = 0 then a else a.restRefresh x)
      (s2.sat F.BEAT_FRAME_RESTS 0 1)
  else s2

/-- A thread whose START bit is set begins at its first turn of the frame; the bit stays set until it stops (R45, R65, R71). A restored slot resumes where its context
stands. No thread starts while the beat is LOST (R249). -/
def State.threadFrame (s : State) (x k : Nat) (keep : Bool) : State :=
  let h := s.thread x k
  if h.stopReq then s.stopThread x k
  else if s.running x k then s.updThread x k (fun g => { g with issued := 0, whole := !s.beat.rest })
  else if s.started x k ∧ s.rd F.BEAT_STATUS_STATE 0 ≠ 3 then
    (s.wrBit F.SEQ_THREAD_CTL_RUNNING x k true).updThread x k (fun g => { g with
      pos := if keep then g.pos else 0, stack := if keep then g.stack else [], due := s.beat.frameStart + k,
      frame := s.beat.frameStart, issued := 0, whole := !s.beat.rest, save := none })
  else s

/-- START and STOP submissions take effect at the frame they name (R345). -/
def State.imageFrame (s : State) (i k : Nat) : State :=
  let g := s.img i
  let due (o : Option Nat) : Bool := match o with | some f => decide (f ≤ k) | none => false
  let s1 := if due g.stopAt then ((s.imageTiles g).foldl (fun a x => (List.range (s.threadCount x)).foldl (fun z n =>
      z.updThread x n (fun h => { h with stopReq := true })) a) s).updImg i (fun v => { v with stopAt := none }) else s
  if due g.startAt ∧ s.activeSlot = i then
    let s2 := (s1.imageTiles g).foldl (fun a x => (List.range (s.threadCount x)).foldl (fun z n =>
      if z.started x n then z else if z.marginTile x then z.noteWrite (tileReg x 8) else
        let st := (s.thread x n).stack
        let z1 := z.startThread x n
        if g.resume.isSome then z1.updThread x n (fun h => { h with stack := st }) else z1) a) s1
    let s3 := s2.updImg i (fun v => { v with startAt := none, ran := true })
    if i = 1 ∧ s.twinState = 5 then s3.setTwin 6 else s3
  else s1

/-- The threads of every tile at the boundary. -/
def State.threadsFrame (s : State) : State :=
  let keep := (s.img s.activeSlot).resume.isSome
  ((List.range 104).foldl (fun a x =>
    if s.rd F.SEQ_THREAD_CTL_RUNNING x = 0 ∧ s.rd F.SEQ_THREAD_CTL_START x = 0 then a
    else (List.range (s.threadCount x)).foldl (fun z k => z.threadFrame x k keep) a) s).updImg s.activeSlot
      (fun g => if s.anyThread then g else { g with resume := if g.ran then none else g.resume })

/-- The power controller at the boundary (R382 to R384). -/
def State.powerFrame (s : State) (m : FrameMeas) (ran : Bool) : State :=
  let s1 := (s.envelopeFrame m.watts).decideFrame m ran
  let s2 := (if s1.rd F.BEAT_RAMP_ENABLE 0 = 1 then s1.setFiller (s1.rd F.BEAT_RAMP_TARGET 0 - s1.planNow) else s1.setFiller 0).rampLimit
  (if s2.beat.rest then s2.restFiller else s2).showPower

/-- A clock frame's boundary (R244). A boundary within a freeze ends no schedule frame (R264). -/
def State.frameBoundary (s : State) (m : FrameMeas) : State :=
  let k := s.frameNow
  if s.now % 32 ≠ 0 ∨ s.beatNow % s.frameLen ≠ 0 ∨ s.beat.frame = k + 1 then s
  else if s.frozen then { s with beat := { s.beat with frame := k + 1 } }
  else
    let ran := s.schedRuns
    let g := s.img s.activeSlot
    let pre := ran && g.preempt g.sched
    let s1 := if ran then s.endSched
      else if s.turnRests then s.updImg 1 (fun v => { v with turn := v.turn + 1 }) else s
    let s2 := s1.mirrorFrame (if ran ∧ s.activeSlot = 0 then some g.sched else none)
    let s3 := (s2.releasePoint pre).handoverPoint (ran && pre)
    let s4 := (s3.patternDue k).sliceTurn pre
    let s5 := { s4 with ports := s4.ports.map (fun (p : Nat × PortState) => (p.1, { p.2 with tagFails := 0 })) }
    let s6 := (s5.imageFrame 0 k).imageFrame 1 k
    ((s6.beginFrame k).threadsFrame).powerFrame m ran

/-- FRAME_BOUNDARY (R244). -/
def execFrameBoundary (t : Nat) (meas : FrameMeas) (s : State) : Result := .next ((s.tick t).frameBoundary meas)

end Sys2Proof.Machine
end

