-- ==== Sys2Proof/Machine/Bridges.lean ====
section
/-! DEFINITION. Pier bridges (R21, R324 to R327, R329): handshakes, retrains, spare wires, the switch to the fall-back path. -/

namespace Sys2Proof.Machine

/-- The piers a bridge joins, lower first, in floor-plan order (R22). -/
def bridgeEnds : List (Nat × Nat) := [(0, 1), (1, 2), (2, 3), (4, 5), (5, 6), (6, 7), (0, 4), (1, 5), (2, 6), (3, 7)]

/-- The code of a width: 2 MAIN, 1 SERIAL, 0 DOWN. -/
def widthCode : BridgeWidth → Nat
  | .down => 0
  | .serial => 1
  | .main => 2

/-- COMMON_CAPS of a bridge: what both B-dies report. -/
def State.commonCaps (s : State) (b : Nat) : Nat :=
  let e := bridgeEnds.getD b (0, 0)
  s.rd F.FP_PIER_B_CAPS e.1 &&& s.rd F.FP_PIER_B_CAPS e.2

/-- Failed wires take their groups' spares (R29, R362); a second failure in a group has none left. -/
def State.bridgeSpares (s : State) (b dir : Nat) (groups : List Nat) : State :=
  groups.foldl (fun a g =>
    if a.life.spareBrg.contains (b, dir, g) then a
    else ({ a with life := { a.life with spareBrg := a.life.spareBrg ++ [(b, dir, g)] } } : State).fpPush 4 b 3) s

/-- A bridge begins to retrain (R325). -/
def State.bridgeRetrain (s : State) (b : Nat) : State :=
  let s1 := (s.wr F.BRG_STATUS_RETRAINING b 1).wr F.BRG_STATUS_TRIES b 0
  { s1 with life := { s1.life with brgWidths := Tab.put 0 s1.life.brgWidths b 0 } }

/-- BRIDGE_RETRAIN (R329). -/
def execBridgeRetrain (t : Nat) (b : BridgeIx) (s : State) : Result :=
  let s1 := s.tick t
  .next (if s1.rd F.BRG_CTL_RETRAIN b = 1 then s1 else (s1.wr F.BRG_CTL_RETRAIN b 1).bridgeRetrain b)

/-- A width recorded at both ends; a width below MAIN falls back (R21, R327, R340). Floor-plan item 4 is a bridge entry. -/
def State.setWidth (s : State) (b w : Nat) : State :=
  let s1 := (s.wr F.BRG_STATUS_WIDTH b w).fpPush 4 b 0
  (if w < 2 then s1.attn F.ATT_PENDING_BRIDGE else s1).checkRoutes

/-- The handshake's word for a bridge: low + 4 × high + 16 once it has ended. -/
def State.brgWord (s : State) (b : Nat) : Nat := Tab.get 0 s.life.brgWidths b

/-- One try of the width handshake (R325). -/
def State.bridgeTry (s : State) (b low high govLow govHigh : Nat) : State :=
  if s.rd F.BRG_STATUS_RETRAINING b = 0 ∨ 16 ≤ s.brgWord b then s
  else
    let n := s.rd F.BRG_STATUS_TRIES b + 1
    let s1 := s.wr F.BRG_STATUS_TRIES b n
    let put (e : Nat) (a : State) : State :=
      { a with life := { a.life with brgWidths := Tab.put 0 a.life.brgWidths b (low + 4 * high + 16 * e) } }
    if govLow = govHigh then (put 1 s1).setWidth b govLow
    else if n < 3 then put 0 s1
    else (((put 1 s1).wr F.BRG_STATUS_DISAGREE b 1).setWidth b (if 1 ≤ low ∧ 1 ≤ high then 1 else 0)).attn F.ATT_PENDING_BRIDGE

/-- BRIDGE_HANDSHAKE_TRY (R325). -/
def execBridgeHandshakeTry (t : Nat) (b : BridgeIx) (low high govLow govHigh : BridgeWidth) (s : State) : Result :=
  .next ((s.tick t).bridgeTry b (widthCode low) (widthCode high) (widthCode govLow) (widthCode govHigh))

/-- A retrain completes once its handshake has ended (R326). -/
def State.bridgeDone (s : State) (b : Nat) (w : BridgeWires) : State :=
  if s.rd F.BRG_STATUS_RETRAINING b = 0 ∨ s.brgWord b < 16 then s
  else
    let s1 := ((s.bridgeSpares b 0 w.up).bridgeSpares b 1 w.down).wr F.BRG_STATUS_FINE b (bitsAt (s.commonCaps b) 1 1)
    ((s1.wr F.BRG_STATUS_RETRAINING b 0).wr F.BRG_CTL_RETRAIN b 0).fpPush 4 b 0

/-- BRIDGE_RETRAIN_DONE (R326). -/
def execBridgeRetrainDone (t : Nat) (b : BridgeIx) (wires : BridgeWires) (s : State) : Result :=
  .next ((s.tick t).bridgeDone b wires)

/-- Both ends show SERIAL. -/
def State.bothEnds (s : State) (b : Nat) : State :=
  { s with life := { s.life with brgWidths := Tab.put 0 s.life.brgWidths b 21 } }

/-- BRIDGE_FALLBACK (R327): the event is the switch at the frame boundary that follows the fourth parity failure. -/
def execBridgeFallback (t : Nat) (b : BridgeIx) (up : Bool) (s : State) : Result :=
  let s1 := s.tick t
  .next (if s1.rd F.BRG_STATUS_WIDTH b = 2 ∧ s1.rd F.BRG_STATUS_RETRAINING b = 0 then
      (((s1.sat (if up then F.BRG_ERR_PARITY_UP else F.BRG_ERR_PARITY_DOWN) b 4).sat F.BRG_ERR_SWITCHES b 1).bothEnds b).setWidth b 1
    else s1)

end Sys2Proof.Machine
end

