-- ==== Sys2Proof/Machine/Fpn.lean ====
section
/-! DEFINITION. The floor plan (R22 to R28, R31): its entries written from the facts of the part, its digest, and changes in
service. -/

namespace Sys2Proof.Machine

/-- Several fields of one index set. -/
def State.wrs (s : State) (i : Nat) (l : List (Fld × Nat)) : State := l.foldl (fun a e => a.wr e.1 i e.2) s

/-- A tile changed in its facts. -/
def State.updFacts (s : State) (x : Nat) (f : TileFacts → TileFacts) : State := s.updTile x (fun t => { t with facts := f t.facts })

/-! ### Facts -/

/-- Tile-store remap entries in use. -/
def State.remapUsed (s : State) (x : Nat) : Nat :=
  (List.range 64).foldl (fun a b => a + s.rd F.SEQ_TS_BANK_REMAP_USED (64 * x + b)) 0
/-- Tile-store banks whose 8 remap entries are all in use. -/
def State.banksFull (s : State) (x : Nat) : Nat :=
  (List.range 64).foldl (fun a b => a + s.rd F.SEQ_TS_BANK_FULL (64 * x + b)) 0

/-- Whether at least one kind of a tile's spares is exhausted (the tile table; log entry 38). -/
def State.spareGone (s : State) (x : Nat) : Bool :=
  let f := (s.tile x).facts
  let used (i : Nat) : Bool := s.rd F.THM_SENSOR_STATE (12 * x + i) != 1
  decide (320 ≤ f.vertUsed) || f.rowSpares == 0 || f.colSpares == 0 || s.banksFull x != 0 || (used 2 && used 3) ||
    (used 8 && used 9 && used 10 && used 11)

/-- HEALTH of a tile position. -/
def State.tileHealth (s : State) (x : Nat) : Nat :=
  let h := (s.tile x).facts.health
  if 2 ≤ h then h else if h = 1 ∨ s.spareGone x then 1 else 0

/-- Positions of a pier that meet a test, as a mask. -/
def pierMask (p : Nat) (f : Nat → Bool) : Nat := (List.range 13).foldl (fun a i => a + bit (f (13 * p + i)) * 2 ^ i) 0

/-- Repair entries of a kind and part, written or still to write. -/
def State.repairCount (s : State) (kind part : Nat) : Nat :=
  (s.repairs.filter (fun r => r.kind == kind && r.part == part)).length +
    (s.fpPend.filter (fun r => r.repair == kind && r.part == part)).length

/-- Spare pier-cache ways left: 18 ways less those that failed less those in service. -/
def State.spareWays (s : State) (p : Nat) : Nat := 18 - s.repairCount 10 p - s.rd F.PCH_STATUS_IN_SERVICE p
/-- Spare phases left on a rail: 2 of a compute rail and 1 of a course rail, less those that failed (R379). -/
def State.sparePhases (s : State) (p : Nat) (course : Bool) : Nat :=
  if course then 1 - s.repairCount 9 (8 + p) else 2 - s.repairCount 9 p

/-- HEALTH of a pier (R27). -/
def State.pierHealth (s : State) (p : Nat) : Nat :=
  let xs := (List.range 13).map (fun i => (s.tile (13 * p + i)).facts.health)
  if s.life.badDies.contains p then 3
  else if decide ((xs.filter (fun h => decide (h < 2))).length < 12) || xs.contains 2 || xs.contains 3 || s.spareWays p == 0 ||
      s.sparePhases p false == 0 || s.sparePhases p true == 0 then 1
  else 0

/-- The record of a retired sensor: part is its roster index, value its reason + 16 × (1 + the index of its replacement, or 0). -/
def State.sensorRepair (s : State) (i : Nat) : Option Repair := s.repairs.find? (fun r => r.kind == 8 && r.part == i)
/-- STANDS_FOR of a sensor (R28). -/
def State.standsFor (s : State) (i : Nat) : Nat :=
  match s.repairs.find? (fun r => r.kind == 8 && r.value / 16 == i + 1) with
  | some r => r.part
  | none => 0xFFFF

/-- KIND, PIER and SITE of a roster index (R28). -/
def sensorSite (i : Nat) : Nat × Nat × Nat :=
  if i < 1248 then (if i % 12 = 0 ∨ i % 12 = 1 ∨ i % 12 = 2 ∨ i % 12 = 3 then 0 else 1, i / 12 / 13, i / 12 % 13)
  else if i < 1328 then (2, (i - 1248) / 10, (i - 1248) % 10)
  else if i < 1330 then (3, 0xFF, 0xFF)
  else (4, 0xFF, 0xFF)

/-- Whether a roster index is a spare's. -/
def sensorSpare (i : Nat) : Bool :=
  if i < 1248 then i % 12 == 2 || i % 12 == 3 || decide (8 ≤ i % 12) else decide (i < 1328) && decide (8 ≤ (i - 1248) % 10)

/-! ### Entries -/

/-- A tile entry. -/
def State.fpTile (s : State) (x : Nat) : State :=
  let f := (s.tile x).facts
  s.wrs x [(F.FP_TILE_PIER, pierOf x), (F.FP_TILE_POSITION, posOf x), (F.FP_TILE_LOGICAL, f.logical),
    (F.FP_TILE_HEALTH, s.tileHealth x), (F.FP_TILE_ROLE, f.role), (F.FP_TILE_RETIRE_REASON, f.reason),
    (F.FP_TILE_VERT_SPARES_USED, f.vertUsed), (F.FP_TILE_TSTORE_REMAP_USED, s.remapUsed x),
    (F.FP_TILE_TSTORE_BANKS_FULL, s.banksFull x), (F.FP_TILE_BKU_RETIRED, popCount 64 f.bkuRetired),
    (F.FP_TILE_ROW_SPARES_MIN, f.rowSpares), (F.FP_TILE_BKU_RETIRED_MASK, f.bkuRetired),
    (F.FP_TILE_COL_SPARES_MIN, f.colSpares), (F.FP_TILE_SENSOR_FIRST, 12 * x)]

/-- A pier entry; steppings and capability words are written at start-up. -/
def State.fpPier (s : State) (p : Nat) : State :=
  s.wrs p [(F.FP_PIER_PIER, p), (F.FP_PIER_ENABLED_MASK, pierMask p (fun x => s.role x == 0)),
    (F.FP_PIER_SPARE_MASK, pierMask p (fun x => s.role x == 1 || s.role x == 2)),
    (F.FP_PIER_RETIRED_MASK, pierMask p (fun x => decide (3 ≤ (s.tile x).facts.health))),
    (F.FP_PIER_MEMONLY_MASK, pierMask p (fun x => s.role x == 2)), (F.FP_PIER_PCH_WAYS, s.rd F.PCH_STATUS_IN_SERVICE p),
    (F.FP_PIER_PCH_SPARE_WAYS, s.spareWays p), (F.FP_PIER_VR_SPARES_COMPUTE, s.sparePhases p false),
    (F.FP_PIER_VR_SPARES_COURSE, s.sparePhases p true), (F.FP_PIER_HEALTH, s.pierHealth p)]

/-- A link entry. -/
def State.fpLink (s : State) (q : Nat) : State :=
  let g := s.port q
  s.wrs q [(F.FP_LINK_PORT, q), (F.FP_LINK_STATE, s.rd F.LNK_STATUS_STATE q), (F.FP_LINK_LAT_CLASS, s.rd F.LNK_STATUS_LAT_CLASS q),
    (F.FP_LINK_SPARE_LANE, (match g.spare with | some l => 128 + l | none => 0)),
    (F.FP_LINK_ATTEMPTS, s.rd F.LNK_STATUS_ATTEMPTS q), (F.FP_LINK_PORT_ROLE, s.portRole q),
    (F.FP_LINK_PARTNER, if s.portUp q then g.partner else 0)]

/-- A spare-lane entry. -/
def State.fpSpare (s : State) (g : Nat) : State :=
  let user := (List.range 4).find? (fun i => (s.port (4 * g + i)).spare.isSome)
  let st := if s.rd F.FP_SPARE_STATE g = 2 then 2 else if user.isSome then 1 else 0
  let port := match user with | some i => 4 * g + i | none => 0xFF
  let lane := match user with | some i => (s.port (4 * g + i)).spare.getD 0xFF | none => 0xFF
  s.wrs g [(F.FP_SPARE_GROUP, g), (F.FP_SPARE_STATE, st), (F.FP_SPARE_PORT, if st = 1 then port else 0xFF),
    (F.FP_SPARE_LANE, if st = 1 then lane else 0xFF)]

/-- A bridge entry. -/
def State.fpBridge (s : State) (b : Nat) : State :=
  let e := bridgeEnds.getD b (0, 0)
  let w := s.brgWord b
  let used (d : Nat) : Nat := (s.life.spareBrg.filter (fun k => k.1 == b && k.2.1 == d)).length
  s.wrs b [(F.FP_BRIDGE_LOW_PIER, e.1), (F.FP_BRIDGE_HIGH_PIER, e.2), (F.FP_BRIDGE_WIDTH_LOW, w % 4), (F.FP_BRIDGE_WIDTH_HIGH, w / 4 % 4),
    (F.FP_BRIDGE_WIDTH, s.rd F.BRG_STATUS_WIDTH b), (F.FP_BRIDGE_HANDSHAKE_TRIES, s.rd F.BRG_STATUS_TRIES b),
    (F.FP_BRIDGE_SPARES_UP, used 0), (F.FP_BRIDGE_SPARES_DOWN, used 1), (F.FP_BRIDGE_COMMON_CAPS, s.commonCaps b)]

/-- A roster entry. -/
def State.fpSensor (s : State) (i : Nat) : State :=
  let k := sensorSite i
  let why := match s.sensorRepair i with
    | some r => r.value % 16
    | none => if s.rd F.THM_SENSOR_STATE i = 3 then 3 else 0
  s.wrs i [(F.FP_SENSOR_KIND, k.1), (F.FP_SENSOR_STATE, s.rd F.THM_SENSOR_STATE i), (F.FP_SENSOR_PIER, k.2.1),
    (F.FP_SENSOR_SITE, k.2.2), (F.FP_SENSOR_STANDS_FOR, s.standsFor i), (F.FP_SENSOR_RETIRE_REASON, why)]

/-- The counts of the header and of SYS_FP_STATUS (R23, R25). -/
def State.fpCounts (s : State) : State :=
  let xs := List.range 104
  let n (f : Nat → Bool) : Nat := (xs.filter f).length
  let s1 := s.wrs 0 [(F.FP_HDR_ENABLED_TILES, n (fun x => s.role x == 0)),
    (F.FP_HDR_SPARE_TILES, n (fun x => s.role x == 1 || s.role x == 2)),
    (F.SYS_FP_STATUS_RETIRED_TILES, n (fun x => decide (3 ≤ (s.tile x).facts.health)))]
  s1.wr F.SYS_FP_STATUS_DEGRADED 0 (bit ((List.range 8).any (fun p => let h := s.pierHealth p; h == 1 || h == 3) ||
    xs.any (fun x => let h := s.tileHealth x; decide (1 ≤ h) && decide (h ≤ 3))))

/-- The entry of a kind and part: 1 tile, 2 pier, 3 link, 4 bridge, 5 sensor, 6 spare lane. A tile's entry bears on its pier's; a course rail's
parts are numbered 8 + p. -/
def State.fpEntry (s : State) (kind part : Nat) : State :=
  match kind with
  | 1 => (s.fpTile part).fpPier (pierOf part)
  | 2 => s.fpPier (part % 8)
  | 3 => s.fpLink part
  | 4 => s.fpBridge part
  | 5 => s.fpSensor part
  | _ => s.fpSpare part

/-- Every entry written. -/
def State.fpAll (s : State) : State :=
  let s1 := (List.range 1332).foldl (fun a i => a.fpSensor i) s
  let s2 := (List.range 10).foldl (fun a i => a.fpBridge i) s1
  let s3 := (List.range 4).foldl (fun a i => a.fpSpare i) s2
  let s4 := (List.range 16).foldl (fun a i => a.fpLink i) s3
  let s5 := (List.range 104).foldl (fun a i => a.fpTile i) s4
  ((List.range 8).foldl (fun a i => a.fpPier i) s5).fpCounts

/-! ### The digest (R26) -/

/-- The bytes of one entry of a record register. -/
def State.entryBytes (s : State) (reg size i : Nat) : Bytes :=
  leBytes size ((allFields.filter (fun f => f.reg == reg)).foldl (fun a f => a + s.rd f i <<< f.lo) 0)

/-- The region from offset 0x0040 to the end of the sensor roster. -/
def State.fpRegion (s : State) : Bytes :=
  let part (reg size n : Nat) : Bytes := (List.range n).flatMap (s.entryBytes reg size)
  part Rg.FP_PIER 32 8 ++ List.replicate 0xC0 0 ++ part Rg.FP_TILE 32 104 ++ List.replicate 0x100 0 ++ part Rg.FP_LINK 16 16 ++
    part Rg.FP_SPARE 8 4 ++ List.replicate 0xE0 0 ++ part Rg.FP_BRIDGE 16 10 ++ List.replicate 0x160 0 ++ part Rg.FP_SENSOR 8 1332

/-- The structure as start-up completes (R24 to R26): `full` is START_PATH. Measurement register 6 takes the digest. -/
def State.fpBuild (s : State) (full : Bool) : State :=
  let s1 := (({ s with fpPend := [] } : State).fpAll).wrs 0 [(F.FP_HDR_FORMAT, 0x00010000), (F.FP_HDR_PIER_COUNT, 8),
    (F.FP_HDR_TILE_COUNT, 104), (F.FP_HDR_PORT_COUNT, 16), (F.FP_HDR_BRIDGE_COUNT, 10), (F.FP_HDR_SENSOR_COUNT, 1332),
    (F.FP_HDR_START_PATH, bit full), (F.FP_HDR_DIGEST_GEN, s.rd F.FP_HDR_GENERATION 0)]
  let d := Config.sm3 s1.fpRegion
  let w (i : Nat) : Nat := bitsAt d.toNat (64 * i) 64
  ((s1.wrs 0 [(F.FP_HDR_DIGEST0, w 0), (F.FP_HDR_DIGEST1, w 1), (F.FP_HDR_DIGEST2, w 2), (F.FP_HDR_DIGEST3, w 3)]).extendMeas 6 d).wr
    F.SYS_FP_STATUS_VALID 0 1

/-! ### Retirement -/

/-- The SYS_TILE_UNCONF bit of a position, and SYS_CFG_LOST.TILE with it (R377). -/
def State.setUnconf (s : State) (x : Nat) (v : Bool) : State :=
  let s1 := s.wrBit F.SYS_TILE_UNCONF_TILES (x / 64) (x % 64) v
  s1.wr F.SYS_CFG_LOST_TILE 0 (bit (s1.rd F.SYS_TILE_UNCONF_TILES 0 != 0 || s1.rd F.SYS_TILE_UNCONF_TILES 1 != 0))

/-- A position is RETIRED (R31, R34): it has role NONE and serves no logical tile. -/
def State.retireTile (s : State) (x reason : Nat) : State :=
  ((s.updFacts x (fun f => { f with health := 3, role := 3, reason := reason, logical := 0xFFFF })).setUnconf x false).fpPush 1 x 1

/-- A tile in RETIRE_PENDING becomes RETIRED (R34). -/
def State.retireDue (s : State) (x : Nat) : State :=
  if (s.tile x).facts.health = 2 then s.retireTile x (s.tile x).facts.reason else s

/-- Spare ways replace removed ones (R29, R36). -/
def State.replaceWays (s : State) (p : Nat) : State :=
  let n := min 16 (18 - s.repairCount 10 p)
  if n = s.rd F.PCH_STATUS_IN_SERVICE p then s else (s.wr F.PCH_STATUS_IN_SERVICE p n).fpPush 2 p 0

/-! ### Changes in service -/

/-- The repair record of an item, with its occurrence (R31, R509). -/
def State.writeRepair (s : State) (it : FpItem) : State :=
  if it.repair = 0 then s
  else ({ s with repairs := s.repairs ++ [⟨it.repair, it.part, it.value⟩] } : State).note 0x201 it.repair

/-- The items that one change writes: the one that has waited longest and those behind it of the same event (R24, log entry
128). -/
def State.fpNext (s : State) : List FpItem :=
  match s.fpPend with
  | [] => []
  | it :: r => it :: r.takeWhile (fun j => j.cause == it.cause)

/-- One change of the floor plan (R24): the repair records first, then the entries, then GENERATION. -/
def State.fpChange (s : State) : State :=
  match s.fpNext with
  | [] => s
  | it :: r =>
    let s1 := (it :: r).foldl State.writeRepair { s with fpPend := s.fpPend.drop (r.length + 1) }
    if s1.rd F.SYS_FP_STATUS_VALID 0 = 0 then s1
    else
      let s2 := ((it :: r).foldl (fun a j => a.fpEntry j.kind j.part) s1).fpCounts
      s2.wrs 0 [(F.FP_HDR_GENERATION, (s2.rd F.FP_HDR_GENERATION 0 + 2) % 2 ^ 32),
        (F.FP_HDR_CHANGE_COUNT, (s2.rd F.FP_HDR_CHANGE_COUNT 0 + 1) % 2 ^ 32), (F.SYS_FP_STATUS_CHANGED, 1)]

/-- FLOOR_PLAN_CHANGE (R24). -/
def execFloorPlanChange (t : Nat) (s : State) : Result := .next ((s.tick t).fpChange)

end Sys2Proof.Machine
end

