-- ==== Sys2Proof/Machine/Seal.lean ====
section
/-! DEFINITION. SM4-GCM and the format of sealed objects (R449, R450, R453), the seal map (R451), and copies to and from device memory
(R345, R348). -/

namespace Sys2Proof.Machine

/-! ### SM4-GCM -/

/-- A block of 16 bytes as a number, first byte most significant; short blocks are padded with zeros. -/
def blockOf (b : Bytes) : Nat := beVal ((b ++ List.replicate 16 0).take 16)
/-- The n bytes of a number, most significant first. -/
def beBytes (n v : Nat) : Bytes := (leBytes n v).reverse

/-- The product of two blocks in the field of GCM. -/
def gcmMul (x y : Nat) : Nat :=
  ((List.range 128).foldl (fun (a : Nat × Nat) i =>
    (if x.testBit (127 - i) then a.1 ^^^ a.2 else a.1, if a.2 % 2 = 1 then (a.2 / 2) ^^^ (0xE1 <<< 120) else a.2 / 2)) (0, y)).1

/-- The blocks of a string. -/
def gcmBlocks (b : Bytes) : List Nat := (List.range ((b.length + 15) / 16)).map (fun i => blockOf (b.drop (16 * i)))

/-- SM4 of a block given as a number. -/
def sm4Nat (key : BitVec 128) (v : Nat) : Nat := (Config.sm4 key (BitVec.ofNat 128 v)).toNat

/-- The counter block number n of a 12-byte IV. -/
def gcmCtr (iv : Bytes) (n : Nat) : Nat := beVal iv * 2 ^ 32 + n % 2 ^ 32

/-- Encryption, and decryption, in counter mode. -/
def gcmCrypt (key : BitVec 128) (iv data : Bytes) : Bytes :=
  (List.range ((data.length + 15) / 16)).flatMap (fun i =>
    let k := beBytes 16 (sm4Nat key (gcmCtr iv (2 + i)))
    ((data.drop (16 * i)).take 16).zipWith (fun a b => a ^^^ b) k)

/-- The 16-byte tag. -/
def gcmTag (key : BitVec 128) (iv aad ct : Bytes) : Bytes :=
  let h := sm4Nat key 0
  let bs := gcmBlocks aad ++ gcmBlocks ct ++ [aad.length * 8 * 2 ^ 64 + ct.length * 8]
  beBytes 16 ((bs.foldl (fun y b => gcmMul (y ^^^ b) h) 0) ^^^ sm4Nat key (gcmCtr iv 1))

/-! ### Sealed objects (R449) -/

/-- KEY_CHECK of a key: the first 4 bytes of SM4 of a zero block. -/
def keyCheck (key : BitVec 128) : Bytes := (beBytes 16 (sm4Nat key 0)).take 4

/-- The IV of segment i. -/
def segIv (head : Bytes) (i : Nat) : Bytes := (head.drop 16).take 8 ++ beBytes 4 i
/-- The authenticated data of segment i. -/
def segAad (head : Bytes) (i : Nat) : Bytes := head ++ beBytes 4 i

/-- The length of an object that seals n bytes. -/
def sealedLength (n : Nat) : Nat := 64 + n + 16 * ceilDiv n 4096

/-- Whether an object's header is well formed and agrees with the object's length. -/
def sealedHeaderOk (len : Nat) (obj : Bytes) : Bool :=
  fieldAt obj 0 4 == 0x4C535150 && fieldAt obj 4 4 == 0x00010000 && fieldAt obj 28 4 == 0 && sealedLength (fieldAt obj 8 8) == len

/-- The bytes of n bytes sealed under a key. -/
def sealBytes (key : BitVec 128) (nonce : Nat) (plain : Bytes) : Bytes :=
  let head := leBytes 4 0x4C535150 ++ leBytes 4 0x00010000 ++ leBytes 8 plain.length ++ leBytes 8 nonce ++ keyCheck key ++
    leBytes 4 0 ++ List.replicate 32 0
  head ++ (List.range (ceilDiv plain.length 4096)).flatMap (fun i =>
    let ct := gcmCrypt key (segIv head i) ((plain.drop (4096 * i)).take 4096)
    ct ++ gcmTag key (segIv head i) (segAad head i) ct)

/-- Segment i of an object opened, if its tag verifies. -/
def openSegment (key : BitVec 128) (obj : Bytes) (i : Nat) : Option Bytes :=
  let head := obj.take 64
  let seg := (obj.drop (64 + 4112 * i)).take 4112
  let ct := seg.take (seg.length - 16)
  if gcmTag key (segIv head i) (segAad head i) ct = seg.drop (seg.length - 16) then some (gcmCrypt key (segIv head i) ct) else none

/-- The segments from number i on, as far as their tags verify, and whether all of them do. -/
def openSegments (key : BitVec 128) (obj : Bytes) : Nat → Nat → Bytes × Bool
  | 0, _ => ([], true)
  | n + 1, i => match openSegment key obj i with
    | none => ([], false)
    | some p =>
      let r := openSegments key obj n (i + 1)
      (p ++ r.1, r.2)

/-- An object opened under a key slot: the plaintext that verifies, and whether the whole object does. -/
def openSealed (key : Option (BitVec 128)) (len : Nat) (obj : Bytes) : Bytes × Bool :=
  match key with
  | none => ([], false)
  | some k =>
    if !sealedHeaderOk len obj || (obj.drop 24).take 4 != keyCheck k then ([], false)
    else openSegments k obj (ceilDiv (fieldAt obj 8 8) 4096) 0

/-- The key in a slot. -/
def State.keySlot (s : State) (n : Nat) : Option (BitVec 128) :=
  if n < 64 ∧ (s.rd F.QUO_KEYS_LOADED 0).testBit n then some (Tab.get 0 s.quoin.keys n) else none

/-! ### The seal map (R451) -/

/-- The granule of a physical address. -/
def granuleOf (a : Nat) : Nat := a / 2 ^ 21
/-- The seal map shown in QUO_SEAL and QUO_STATUS (R457). -/
def State.showSeal (s : State) : State :=
  (s.wr F.QUO_SEAL_GRANULES 0 s.quoin.granules.length).wr F.QUO_STATUS_SEALED_ANY 0 (bit (!s.quoin.granules.isEmpty))
/-- Granules sealed. -/
def State.sealGranules (s : State) (gs : List Nat) : State :=
  ({ s with quoin := { s.quoin with granules := gs.foldl (fun l g => if l.contains g then l else l ++ [g]) s.quoin.granules } } : State).showSeal
/-- Granules whose bits clear. -/
def State.clearGranules (s : State) (gs : List Nat) : State :=
  ({ s with quoin := { s.quoin with granules := s.quoin.granules.filter (fun g => !gs.contains g) } } : State).showSeal

/-- The physical address a device physical address names. -/
def State.physOf (s : State) (a : Nat) : Option Nat :=
  match s.decodeDpa false a with
  | .viol _ => none
  | p => some p.addr
/-- Whether a byte range of one chunk lies in a sealed granule. -/
def State.sealedAt (s : State) (a : Nat) : Bool :=
  match s.physOf a with
  | some p => s.quoin.granules.contains (granuleOf p)
  | none => false

/-! ### Chunks of a range -/

/-- A range cut at multiples of 512: address and length of each piece. -/
def piecesFrom : Nat → Nat → Nat → List (Nat × Nat)
  | 0, _, _ => []
  | k + 1, a, n => if n = 0 then [] else
      let m := min n (512 - a % 512)
      (a, m) :: piecesFrom k (a + m) (n - m)
/-- A range cut at multiples of 512. -/
def piecesOf (a n : Nat) : List (Nat × Nat) := piecesFrom (n / 512 + 2) a n

/-- What a copy has come to: bytes moved, the code that ended it. -/
structure Moved where
  s : State
  n : Nat
  code : Nat
  data : Bytes

/-- One chunk written at a device physical address through the unscheduled path (R345). -/
def State.chunkIn (s : State) (a : Nat) (bs : Bytes) (seals : Bool) : State × Nat :=
  if !seals && s.sealedAt a then (s, 0x013)
  else match s.decodeDpa false a with
    | .viol _ => (s, 0x013)
    | .scratch p off => ({ s with mem := cellsWrite s.mem (Place.addr (.scratch p off)) bs }, 0)
    | .slice x off => (s.sliceWriteBytes x off 1 bs, 0)

/-- One chunk read at a device physical address; the lines read fill the pier cache (R179). -/
def State.chunkOutOf (s : State) (a n : Nat) (errs : List MemErr) : Bytes × State × Nat :=
  if s.sealedAt a then ([], s, 0x013)
  else match s.decodeDpa false a with
    | .viol _ => ([], s, 0x013)
    | .scratch p off => (s.memRead (Place.addr (.scratch p off)) n, s, 0)
    | .slice x off => (match s.pchHit (sliceBase x + off) n with
      | some d => (d, s, 0)
      | none =>
        let r := s.sliceReadBytes x off n 4 errs
        if r.2.2.isSome then ([], r.2.1, 0x012) else (r.1, r.2.1.pchFills x off n false, 0))

/-- Bytes copied to device memory chunk by chunk, up to the chunk that fails. -/
def State.copyIn (s : State) (bs : Bytes) (seals : Bool) : List (Nat × Nat) → Nat → Moved
  | [], n => ⟨s, n, 0, []⟩
  | (a, m) :: r, n =>
    let w := s.chunkIn a ((bs.drop n).take m) seals
    if w.2 ≠ 0 then ⟨w.1, n, w.2, []⟩ else w.1.copyIn bs seals r (n + m)

/-- Bytes copied from device memory chunk by chunk, up to the chunk that fails. -/
def State.copyOut (s : State) (errs : List MemErr) : List (Nat × Nat) → Bytes → Moved
  | [], acc => ⟨s, acc.length, 0, acc⟩
  | (a, m) :: r, acc =>
    let w := s.chunkOutOf a m errs
    if w.2.2 ≠ 0 then ⟨w.2.1, acc.length, w.2.2, acc⟩ else w.2.1.copyOut errs r (acc ++ w.1)

/-- Bytes copied from a tile store chunk by chunk, up to the chunk that holds a poisoned row. -/
def State.tsCopyOut (s : State) (x : Nat) (errs : List MemErr) : List (Nat × Nat) → Bytes → Moved
  | [], acc => ⟨s, acc.length, 0, acc⟩
  | (a, m) :: r, acc =>
    let s1 := s.tsErrs x a m (storeErrs errs)
    if (s1.firstPoison x a m).isSome then ⟨s1, acc.length, 0x012, acc⟩ else s1.tsCopyOut x errs r (acc ++ s1.tsRead x a m)

end Sys2Proof.Machine
end

