-- ==== Sys2Proof/Machine/Images.lean ====
section
/-! DEFINITION. Images and contexts: the checks of activation and restore (R272, R273, R315, R320, R349), and what each leaves in a
slot (R267, R345, R442, R453). -/

namespace Sys2Proof.Machine

/-! ### The header (R272) -/

/-- Whether an image header is malformed (R273, HEADER). Counts out of range and reserved encodings count as reserved fields
(log entry 37). -/
def headerBad (h : Bytes) : Bool :=
  fieldAt h 0 4 != 0x31484C54 || fieldAt h 4 4 != 0x00010000 || decide (4 ≤ fieldAt h 14 1) || fieldAt h 15 1 != 0 ||
    decide (96 < fieldAt h 16 2) || decide (8192 < fieldAt h 20 2) || fieldAt h 22 2 == 0 || decide (512 < fieldAt h 22 2) ||
    fieldAt h 24 4 % 16 != 0 || fieldAt h 28 4 % 8 != 0 || fieldAt h 48 8 % 4 != 0 || fieldAt h 48 8 >>> 40 != 0 ||
    fieldAt h 56 8 != 0 || (List.range 16).any (fun q => decide (48 ≤ fieldAt h (32 + q) 1))

/-- The owner's signature over an image header (R437). -/
def State.imageSigned (s : State) (h sig : Bytes) : Bool :=
  match s.quoin.owner with
  | none => false
  | some k => Config.sm2Verify k (Config.sm3 (h.take 128)) (BitVec.ofNat 512 (beVal sig))

/-- Capability bits that are on over the piers of some tiles (R37, R38). -/
def State.capsOn (s : State) (xs : List Nat) : Nat :=
  xs.foldl (fun a x =>
    let p := pierOf x
    let b := s.rd F.FP_PIER_B_CAPS p
    let c := s.rd F.FP_PIER_C_CAPS p
    let m := s.rd F.FP_PIER_COURSE_CAPS p
    a &&& (1 ||| (b &&& 6) ||| (c &&& m &&& 8) ||| (b &&& c &&& 16))) 0x1F

/-- The build digest as one number: what an image's BOND_DIGEST is compared with (R282). -/
def State.buildDigest (s : State) : Nat :=
  (List.range 8).foldl (fun a w => a + s.rd F.BND_BUILD_BUILD w * 2 ^ (32 * w)) 0

/-- Whether a loaded image slot uses a bridge's main path or has a non-OPEN map entry for a port (R474, R477). -/
def State.marginUsed (s : State) (kind ix : Nat) : Bool :=
  [0, 1].any (fun i => (s.img i).loaded && (match kind with
    | 1 => s.routes.any (fun r => (routeHops r).any (fun h => h.1 == ix && !h.2))
    | 2 => (List.range 96).any (fun e => s.rd F.LNK_MAP_ENTRY (ix * 192 + i * 96 + e) % 4 != 0)
    | _ => false))

/-- The tiles of an image's logical tiles, if each is served. -/
def State.servedTiles (s : State) (n : Nat) : Option (List Nat) := (List.range n).mapM (fun i => s.tileOfLogical i)

/-- Whether the image's FRAME_LOG2, BAND, SHORT_SEG or MODULES departs from the Bond Stream (R273, FRAME). -/
def State.frameBad (s : State) (h : Bytes) (xs : List Nat) : Bool :=
  fieldAt h 12 1 != s.rd F.BEAT_CFG_FRAME_LOG2 0 || fieldAt h 22 2 != s.rd F.BEAT_CFG_DOMAIN_MODULES 0 ||
    xs.any (fun x => s.rd F.SLC_STATUS_DECL_BAND x != fieldAt h 13 1 ||
      s.rd F.BKU_CTL_SHORT_SEG x != bit ((fieldAt h 14 1).testBit 1))

/-- The map entries of a slot and direction. -/
def State.mapOf (s : State) (slot q dir : Nat) : List Nat :=
  (List.range 48).map (fun i => s.rd F.LNK_MAP_ENTRY (q * 192 + slot * 96 + dir * 48 + i))

/-- Whether the maps of a port fail (R315, R320). -/
def mapsBad (req : Nat) (out inb : List Nat) : Bool :=
  let x4 := req / 16 % 4 == 2
  let l := cellLat (req % 16)
  let entryBad (e : Nat) : Bool := e / 2 ^ 13 != 0 || ((mapUse e == 1 || mapUse e == 2) && decide (95 < mapTile e))
  let lets (m : List Nat) : List Nat := ((List.range 96).filter (fun n => mapUse (m.getD (n % 48) 0) == 2)).map (fun n =>
    letSlot 1024 true l l n)
  (out ++ inb).any entryBad || [15, 31, 47].any (fun i => mapUse (out.getD i 0) != 0 || mapUse (inb.getD i 0) != 0) ||
    (!x4 && (out ++ inb).any (fun e => decide (2 ≤ mapUse e))) ||
    decide (¬ (lets out).Nodup) || decide (¬ (lets inb).Nodup)

/-- The power table, if it lies in its space and holds no reserved encoding (R272). -/
def State.powerTable (s : State) (h : Bytes) : Option (List Nat) :=
  let n := fieldAt h 20 2
  let a := fieldAt h 48 8
  if n = 0 then some []
  else if (s.rangeViol false a (4 * n)).isSome then none
  else
    let r := (piecesOf a (4 * n)).foldl (fun (acc : Option Bytes) (p : Nat × Nat) => match acc with
      | none => none
      | some b => (match s.decodeDpa false p.1 with
        | .viol _ => none
        | .scratch q off => some (b ++ s.memRead (Place.addr (.scratch q off)) p.2)
        | .slice x off =>
          let w := s.sliceReadBytes x off p.2 4 []
          if w.2.2.isSome then none else some (b ++ w.1))) (some [])
    match r with
    | none => none
    | some b =>
      let es := (List.range n).map (fun i => fieldAt b (4 * i) 4)
      if es.any (fun e => decide (3900 < e % 4096) || e / 2 ^ 13 != 0) then none else some es

/-- Whether the tables in a tile store fail: outside the store, poisoned, or a reserved encoding. -/
def State.storeTablesBad (s : State) (h : Bytes) (x : Nat) : Bool :=
  let n := fieldAt h 20 2
  let ft := fieldAt h 24 4
  let bk := fieldAt h 28 4
  decide (tsSize < ft + 16 * n) || decide (tsSize < bk + 8) || (s.firstPoison x ft (16 * n)).isSome ||
    (s.firstPoison x bk 8).isSome || (List.range (4 * n)).any (fun i => s.tsNat x (ft + 4 * i) 4 / 2 ^ 18 != 0)

/-- The first failing check of R273 after the header, the signature and the digest; 0 when none fails. -/
def State.imageCode (s : State) (slot : Nat) (h : Bytes) : Nat :=
  match s.servedTiles (fieldAt h 16 2) with
  | none => if fieldAt h 64 32 != s.buildDigest then 0x0A4 else 0x0A7
  | some xs =>
    if fieldAt h 64 32 != s.buildDigest then 0x0A4
    else if fieldAt h 8 4 ^^^ (fieldAt h 8 4 &&& s.capsOn xs) != 0 then 0x0A5
    else if s.frameBad h xs then 0x0A6
    else if (s.powerTable h).isNone || xs.any (s.storeTablesBad h) ||
        (List.range 16).any (fun q => mapsBad (fieldAt h (32 + q) 1) (s.mapOf slot q 0) (s.mapOf slot q 1)) then 0x0A7
    else if (s.activeSlot == slot && (List.range 104).any (s.anyRunning)) ||
        ((fieldAt h 14 1).testBit 0 && (s.section? 0x31 devScope).isNone) then 0x0A8
    else if xs.any (fun x => s.tsNat x (fieldAt h 28 4) 8 &&& (s.tile x).facts.bkuRetired != 0) then 0x0A9
    else match (List.range 16).find? (fun q =>
        let r := fieldAt h (32 + q) 1
        r / 16 != 0 && (decide (portRank (s.rd F.LNK_STATUS_STATE q) < r / 16) || decide (r % 16 < s.rd F.LNK_STATUS_LAT_CLASS q))) with
      | some q => 0x0B0 + q
      | none => 0

/-! ### Segments (R349) -/

/-- One segment written: the code it fails with, or 0. -/
def State.segment (s : State) (slot : Nat) (head data : Bytes) : State × Nat :=
  let tgt := fieldAt head 0 2
  let a := fieldAt head 8 8
  match fieldAt head 2 1 with
  | 0 => (match s.tileOfLogical tgt with
    | none => (s, 0x0A7)
    | some x => if tsSize < a + data.length then (s, 0x0A7) else (s.tsWrite x a data, 0))
  | 1 =>
    if data.isEmpty then (s, 0)
    else (match s.rangeViol false a data.length, s.decodeDpa false a, s.tileOfLogical tgt with
      | none, .slice y _, some x => if x = y then ((s.copyIn data true (piecesOf a data.length) 0).s, 0) else (s, 0x0A7)
      | _, _, _ => (s, 0x0A7))
  | _ => ((List.range 96).foldl (fun z i => z.wr F.LNK_MAP_ENTRY (tgt * 192 + slot * 96 + i) (fieldAt data (4 * i) 4)) s, 0)

/-- The segments of a body written as they are read, up to one that fails (R349). -/
def State.segments (s : State) (slot : Nat) : Nat → Bytes → State × Nat
  | 0, _ => (s, 0)
  | n + 1, b =>
    if b.isEmpty then (s, 0)
    else
      let len := fieldAt b 4 4
      let sp := fieldAt b 2 1
      if b.length < 16 + len ∨ fieldAt b 3 1 ≠ 0 ∨ 2 < sp ∨
          (sp = 2 ∧ (len ≠ 384 ∨ 15 < fieldAt b 0 2 ∨ fieldAt b 8 8 ≠ 0)) then (s, 0x0A1)
      else
        let r := s.segment slot (b.take 16) ((b.drop 16).take len)
        if r.2 ≠ 0 then r else r.1.segments slot n (b.drop (16 + 16 * ceilDiv len 16))

/-! ### Activation, save and restore -/

/-- A slot takes an image. -/
def State.loadSlot (s : State) (slot : Nat) (h sig : Bytes) (sched : Nat) (resume : Option Nat) : State :=
  let g : Image := { Image.empty with
    loaded := true, header := h, sig := sig, digest := fieldAt h 96 32, power := (s.powerTable h).getD [], sched := sched, resume := resume }
  let s1 := (s.updImg slot (fun _ => g)).wrBit F.FRONT_JOB_LOADED 0 slot true
  (if s.activeSlot = slot then s1.showSched else s1).checkRoutes

/-- ACTIVATE (R273, R345, R349): the code, and the state after it. A slot's maps go back to what they were when a check fails. -/
def State.activate (s : State) (slot : Nat) (b : Bytes) : State × Nat :=
  let h := b.take 128
  let body := (b.drop 128).take (b.length - 192)
  let sig := b.drop (b.length - 64)
  let fail (a : State) (c : Nat) : State × Nat := (a.note 0x006 c, c)
  if (s.img slot).loaded then (s, 0x038)
  else if b.length < 192 ∨ headerBad h then fail s 0x0A1
  else if fieldAt h 16 2 = 0 then (s, 0)
  else
    let r := s.segments slot (body.length + 1) body
    let code :=
      if r.2 = 0x0A1 then 0x0A1
      else if !s.imageSigned h sig then 0x0A2
      else if fieldAt h 96 32 ≠ (Config.sm3 body).toNat then 0x0A3
      else if r.2 ≠ 0 then (match r.1.imageCode slot h with | 0x0A4 => 0x0A4 | 0x0A5 => 0x0A5 | 0x0A6 => 0x0A6 | _ => r.2)
      else r.1.imageCode slot h
    if code ≠ 0 then
      fail ((List.range 16).foldl (fun z q => (List.range 96).foldl (fun y i =>
        y.wr F.LNK_MAP_ENTRY (q * 192 + slot * 96 + i) (s.rd F.LNK_MAP_ENTRY (q * 192 + slot * 96 + i))) z) r.1) code
    else
      let s1 := (r.1.loadSlot slot h sig 0 none).extendMeas (8 + slot) (BitVec.ofNat 256 (fieldAt h 96 32))
      (s1.marginAbort 4 (fun g => s1.marginUsed g.kind g.ix), 0)

/-- The bytes of a slot's context before it is sealed: the image's header and signature, the schedule frame index, and 512 bytes for
each logical tile (log entry 34). -/
def State.contextBytes (s : State) (slot : Nat) : Bytes :=
  let g := s.img slot
  (g.header ++ List.replicate 128 0).take 128 ++ (g.sig ++ List.replicate 64 0).take 64 ++ leBytes 4 g.sched ++ List.replicate 60 0 ++
    (s.imageTiles g).flatMap (fun x => copyBytes (s.slotCopy slot x))

/-- A context put in an empty slot (R345, R453): the code and the state after it. -/
def State.restoreContext (s : State) (slot : Nat) (b : Bytes) : State × Nat :=
  let h := b.take 128
  let sig := (b.drop 128).take 64
  let fail (c : Nat) : State × Nat := (s.note 0x006 c, c)
  if b.length < 256 ∨ headerBad h ∨ b.length ≠ 256 + 512 * fieldAt h 16 2 then fail 0x0A1
  else if !s.imageSigned h sig then fail 0x0A2
  else if s.imageCode slot h ≠ 0 then fail (s.imageCode slot h)
  else
    let sched := fieldAt b 192 4
    let s1 := (List.range (fieldAt h 16 2)).foldl (fun z n => match z.tileOfLogical n with
      | some x => z.putSlotCopy slot x (copyOf ((b.drop (256 + 512 * n)).take 512))
      | none => z) s
    (s1.loadSlot slot h sig sched (some sched), 0)

end Sys2Proof.Machine
end

