-- ==== Sys2Proof/Machine/BondOps.lean ====
section
/-! DEFINITION. What a Bond Stream load puts in force (R283 to R295, R299, R304, R305). -/

namespace Sys2Proof.Machine

/-! ### A section table -/

/-- A section of a table. -/
def tabSec (l : List Section) (ty sc : Nat) : Option Section := l.find? (fun c => c.type == ty && c.scope == sc)
/-- The body of a section of a table. -/
def tabBody (l : List Section) (ty sc : Nat) : Option Bytes := (tabSec l ty sc).map (fun c => c.body)
/-- The entry of field f of a pier. -/
def pierEntry (l : List Section) (p f : Nat) : Bytes := (((tabBody l 0x01 p).getD []).drop (16 * f)).take 16
/-- ROLE of a pier entry. -/
def peRole (e : Bytes) : Nat := fieldAt e 1 1
/-- LOGICAL of a pier entry. -/
def peLogical (e : Bytes) : Nat := fieldAt e 2 1
/-- The SUBST record of a pier: positions r and s, and ZERO. -/
def tabSubst (l : List Section) (p : Nat) : Option (Nat × Nat × Bool) :=
  (tabBody l 0x02 p).map (fun b => (fieldAt b 0 1, fieldAt b 1 1, (fieldAt b 2 1).testBit 0))
/-- MIRROR_UNITS of a table (R292): 4 without a TWIN section. -/
def tabUnits (l : List Section) : Nat := match tabBody l 0x31 devScope with | some b => fieldAt b 0 1 | none => 4
/-- The home fields of logical tiles: tile, pier, field. -/
def tabHomes (l : List Section) : List (Nat × Nat × Nat) :=
  (List.range 8).flatMap (fun p => (List.range 13).filterMap (fun f =>
    let n := peLogical (pierEntry l p f)
    if n = 0x7F then none else some (n, p, f)))
/-- The position that serves a home field (R304). -/
def tabServer (l : List Section) (p f : Nat) : Nat :=
  match tabSubst l p with
  | some (r, sp, _) => if f = r then 13 * p + sp else 13 * p + f
  | none => 13 * p + f

/-! ### Digests (R282) -/

/-- The digest of the section digests. -/
def tabDigest (l : List Section) : BitVec 256 := Config.sm3 (l.flatMap (fun c => digestBytes (Config.sm3 c.raw)))
/-- The build digest leaves out SUBST sections. -/
def tabBuild (l : List Section) : BitVec 256 := tabDigest (l.filter (fun c => c.type != 0x02))

/-! ### CONFIGURED (R69, R70) -/

/-- The base registers a tile's partition mode needs. -/
def State.basesDue (s : State) (x : Nat) : Nat := (2 ^ s.threadCount x - 1) + 0x70

/-- CONFIGURED evaluated: the TILE section in effect, every base register written. -/
def State.evalConfigured (s : State) (x : Nat) : State :=
  let n := (s.tile x).facts.logical
  let due := s.basesDue x
  let ok := s.role x == 0 && (s.sectionBody 0x10 n).isSome && (s.tile x).bases &&& due == due
  let s1 := s.wr F.SEQ_CTL_CONFIGURED x (bit ok)
  if ok || s.role x != 0 then s1.setUnconf x false else s1

/-! ### Effects of the sections -/

/-- A pier's positions, apertures and side-word regions (R284, R304). -/
def State.applyPier (s : State) (l : List Section) (p : Nat) : State :=
  let sub := tabSubst l p
  (List.range 13).foldl (fun a f =>
    let x := 13 * p + f
    let e := pierEntry l p f
    let isR : Bool := match sub with | some (r, _, _) => r == f | none => false
    let isS : Bool := match sub with | some (_, sp, _) => sp == f | none => false
    let r := match sub with | some (r, _, _) => pierEntry l p r | none => e
    let gone := decide (3 ≤ (a.tile x).facts.health)
    let role := if isR then 3 else if isS then 0 else peRole e
    let lt := if isR then 0x7F else if isS then peLogical r else peLogical e
    let logical := if lt = 0x7F then 0xFFFF else lt
    let side := if isS then fieldAt r 8 8 else fieldAt e 8 8
    let phys := if isR then (match sub with | some (_, sp, _) => sp | none => f) else if gone then 15 else f
    let old := (a.tile x).facts
    let a1 := a.updFacts x (fun g => { g with role := role, logical := logical })
    let a2 := a1.wrs (13 * p + f) [(F.SLC_APT_PHYS, phys), (F.SLC_APT_SUBST, bit isR), (F.SLC_APT_LOGICAL, peLogical e)]
    let a3 := a2.wrs x [(F.SLC_REGIONS_SIDE_LINE, side / 64), (F.SLC_REGIONS_SIDE_EN, bit (side != 0))]
    if old.role = role ∧ old.logical = logical then a3 else a3.fpPush 1 x 0) s

/-- A scratchpad split (R178, R180, R294). -/
def State.applyPch (s : State) (l : List Section) (p : Nat) : State :=
  let n := match tabBody l 0x33 p with | some b => fieldAt b 0 1 % 32 | none => 0
  let keep := s.rd F.PCH_STATUS_IN_SERVICE p - n
  { ((s.wr F.PCH_CFG_SCR_WAYS p n).wr F.PCH_STATUS_SCR_LOST p 0) with
    pch := s.pch.filter (fun c => c.line / 2 ^ 30 != p || decide (c.way < keep)) }

/-- MIRROR_UNITS of every slice (R292). -/
def State.applyTwin (s : State) (l : List Section) : State :=
  (List.range 104).foldl (fun a x => a.wr F.SLC_REGIONS_MIRROR_UNITS x (tabUnits l)) s

/-- The seed (R232, R293). -/
def State.applyRng (s : State) (l : List Section) : State :=
  match tabBody l 0x32 devScope with
  | none => s
  | some b =>
    let v := leVal (b.take 16)
    ({ s with seed := v } : State).wrs 0 [(F.RNG_SEED_STATUS_SEEDED, 1), (F.RNG_SEED_STATUS_SEED_CHECK, plgDraw v 0 0 % 2 ^ 32)]

/-- The envelopes and the declared band (R295). -/
def State.applyEnvelope (s : State) (l : List Section) : State :=
  let v := match tabBody l 0x34 devScope with | some b => leVal (b.take 4) | none => 1 + 4 + 8 + 2800 * 256
  let band := bitsAt v 0 2
  let s1 := s.wrs 0 [(F.PWR_ENVELOPE_SUSTAINED_W, bitsAt v 8 12), (F.PWR_ENVELOPE_BOOST, bitsAt v 2 1), (F.PWR_ENVELOPE_PEAK, bitsAt v 3 1)]
  let s2 := (List.range 104).foldl (fun a x => a.wr F.SLC_STATUS_DECL_BAND x band) s1
  (if (List.range 104).any (fun x => decide (band < s2.rd F.SLC_STATUS_BAND x)) then s2.attn F.ATT_PENDING_HOT_BAND else s2).rampLimit

/-- P_beats (R262). -/
def beatBound (hops cMax : Nat) : Nat := ceilDiv (hops * (cellLat cMax + 64) + 32) 32

/-- The beat's settings (R291). A change of the source makes the module lock again. -/
def State.applyBeat (s : State) (l : List Section) : State :=
  match tabBody l 0x30 devScope with
  | none => s
  | some b =>
    let f (o n : Nat) : Nat := fieldAt b o n
    let again := s.rd F.BEAT_CFG_SRC 0 != f 1 1 || s.rd F.BEAT_CFG_SRC_PORT 0 != f 2 1
    let s1 := s.wrs 0 [(F.BEAT_CFG_FRAME_LOG2, f 0 1), (F.BEAT_CFG_SRC, f 1 1), (F.BEAT_CFG_SRC_PORT, f 2 1), (F.BEAT_CFG_D_HOPS, f 3 1),
      (F.BEAT_CFG_C_MAX, f 4 1), (F.BEAT_CFG_DOMAIN_MODULES, f 6 2), (F.BEAT_CFG_P_BEATS, beatBound (f 3 1) (f 4 1)),
      (F.BND_DOMAIN_MODULE_INDEX, f 8 2)]
    let s2 : State := { s1 with beat := { s1.beat with frame := 0 } }
    if again then { (s2.wr F.BEAT_STATUS_STATE 0 0) with beat := { s2.beat with via := none, marks := 0, markBits := [], epochPrev := none } }
    else s2

/-- The partition and segment length of a logical tile (R286). -/
def State.applyTile (s : State) (l : List Section) (n : Nat) : State :=
  match s.tileOfLogical n, tabBody l 0x10 n with
  | some x, some b =>
    ((s.wr F.SEQ_CTL_PARTITION x (fieldAt b 0 1 % 4)).wr F.BKU_CTL_SHORT_SEG x (bit ((fieldAt b 1 1).testBit 0))).evalConfigured x
  | _, _ => s

/-- A head starts empty (R287): the free chain runs from slot 0, and the shadow is written whole. -/
def State.emptyHead (s : State) (x h : Nat) : State :=
  let ix := hIx x h
  let n := s.kvPool x h
  let table := (List.range n).flatMap (fun i => leBytes 16 (ptVal { ptOf 0 with nxt := if i + 1 < n then i + 1 else noSlot }))
  let s1 := s.tsWrite x (s.rd F.KVS_TABLES_PT_BASE ix) table
  (s1.wrs ix [(F.KVS_STATE_FREE_HEAD, if n = 0 then noSlot else 0), (F.KVS_STATE_FREE_COUNT, n), (F.KVS_STATE_LOST, 0),
    (F.KVS_STATE_BUSY, 0)]).shadowWhole x h

/-- The HEADS of a KV section, with their records. -/
def kvRecords (b : Bytes) : List (Nat × Bytes) :=
  let hs := [0, 1, 2, 3].filter (fun h => (fieldAt b 0 1).testBit h)
  (List.range hs.length).map (fun i => (hs.getD i 0, (b.drop (8 + 48 * i)).take 48))
/-- KEEP of a KV section. -/
def kvKeep (b : Bytes) : Bool := (fieldAt b 1 1).testBit 0
/-- Chunks of a page of a record (R136). -/
def kvRecPc (r : Bytes) : Nat :=
  let d := 64 * 2 ^ fieldAt r 0 1
  kChunks (fieldAt r 1 1) d + d / 8

/-- A head configured (R287). -/
def State.applyHead (s : State) (x n h : Nat) (r : Bytes) (keep : Bool) : State :=
  let ix := hIx x h
  let f (o k : Nat) : Nat := fieldAt r o k
  let s1 := s.wrs ix [(F.KVS_CFG_ENABLED, 1), (F.KVS_CFG_DIM, f 0 1), (F.KVS_CFG_ROUND, f 6 1 % 2), (F.KVS_CFG_MIRROR, f 6 1 / 2 % 2),
    (F.KVS_CFG_K_FMT, f 1 1), (F.KVS_CFG_V_FMT, f 2 1), (F.KVS_CFG_GROUP, f 3 1), (F.KVS_CFG_DECAY, f 4 2), (F.KVS_POOL_POOL_BASE, f 16 8),
    (F.KVS_POOL_POOL_PAGES, f 12 4), (F.KVS_TABLES_PT_BASE, f 32 4), (F.KVS_TABLES_LT_BASE, f 36 4), (F.KVS_TABLES_LT_CAP, f 40 2),
    (F.KVS_SHADOW_SHADOW_BASE, f 24 8), (F.KVS_SHADOW_PAGE_STRIDE, kvRecPc r * 512)]
  let s2 : State := { s1 with headKeys := Tab.put 0 s1.headKeys ix (f 8 4) }
  let same := keep && s.bond.kvRec.contains (n, h, r, x)
  let s3 := if same then ((s2.wr F.KVS_STATE_LOST ix 0).wr F.KVS_STATE_BUSY ix 0).kvRestore x h else s2.emptyHead x h
  let s4 := s3.updTile x (fun t => { t with restore := t.restore.filter (fun k => k != h) })
  { s4 with bond := { s4.bond with kvRec := (n, h, r, x) :: s4.bond.kvRec.filter (fun e => !(e.1 == n && e.2.1 == h)) } }

/-- A head not configured. -/
def State.clearHead (s : State) (x h : Nat) : State :=
  let ix := hIx x h
  let s1 := s.wrs ix [(F.KVS_CFG_ENABLED, 0), (F.KVS_CFG_DIM, 0), (F.KVS_CFG_ROUND, 0), (F.KVS_CFG_MIRROR, 0), (F.KVS_CFG_K_FMT, 0),
    (F.KVS_CFG_V_FMT, 0), (F.KVS_CFG_GROUP, 0), (F.KVS_CFG_DECAY, 0), (F.KVS_POOL_POOL_BASE, 0), (F.KVS_POOL_POOL_PAGES, 0),
    (F.KVS_TABLES_PT_BASE, 0), (F.KVS_TABLES_LT_BASE, 0), (F.KVS_TABLES_LT_CAP, 0), (F.KVS_SHADOW_SHADOW_BASE, 0),
    (F.KVS_SHADOW_PAGE_STRIDE, 0), (F.KVS_STATE_FREE_HEAD, noSlot), (F.KVS_STATE_FREE_COUNT, 0), (F.KVS_STATE_LOST, 0), (F.KVS_STATE_BUSY, 0)]
  { s1 with headKeys := Tab.put 0 s1.headKeys ix 0 }

/-- The heads of a logical tile. -/
def State.applyKv (s : State) (l : List Section) (n : Nat) : State :=
  match s.tileOfLogical n with
  | none => s
  | some x =>
    let b := (tabBody l 0x11 n).getD []
    let recs := kvRecords b
    [0, 1, 2, 3].foldl (fun a h => match recs.find? (fun r => r.1 == h) with
      | some r => a.applyHead x n h r.2 (kvKeep b)
      | none => a.clearHead x h) s

/-! ### The load's end (R297 to R299) -/

/-- The load ends with a code; a rejected one is recorded (R509). -/
def State.bondEnd (s : State) (code sec detail : Nat) : State :=
  let s1 := ({ s with bond := { s.bond with pend := none } } : State).wrs 0 [(F.BND_STATUS_STATE, 0), (F.BND_STATUS_RESULT, code),
    (F.BND_STATUS_SECTION, sec), (F.BND_STATUS_DETAIL, detail), (F.BND_CTL_LOAD, 0)]
  if code = 0 then s1 else s1.note 0x005 code

/-- Ports that are short and have their alternative set engaged (R289, R300). -/
def State.portShort (s : State) (r : Bytes) (q : Nat) : Bool :=
  let w := fieldAt r 2 1 % 4
  let up := s.portUp q
  w != 0 && (decide (portRank (s.rd F.LNK_STATUS_STATE q) < w) || decide (fieldAt r 2 1 / 4 % 16 < s.rd F.LNK_STATUS_LAT_CLASS q) ||
    (fieldAt r 8 8 != 0 && fieldAt r 8 8 != (if up then (s.port q).partner else 0)))

/-- The logical tiles whose TILE and KV sections an AMEND applies anew (R302): those homed in a pier whose PIER or SUBST section it carries, and
those whose TILE or KV section it carries. -/
def amendedTiles (l : List Section) (keys : List (Nat × Nat)) : List Nat :=
  ((tabHomes l).filter (fun h => keys.contains (0x01, h.2.1) || keys.contains (0x02, h.2.1) || keys.contains (0x10, h.1) ||
    keys.contains (0x11, h.1))).map (fun h => h.1)

/-- The sections whose effect a load gives: all of a FULL load's; those a RESTORE carries; those an AMEND carries, with what R302 adds. -/
def loadKeys (l : List Section) (kind : Nat) (carried : List (Nat × Nat)) : List (Nat × Nat) :=
  match kind with
  | 0 => l.map (fun c => (c.type, c.scope))
  | 1 => carried
  | _ => carried ++ (amendedTiles l carried).flatMap (fun n => [(0x10, n), (0x11, n)])

/-- The register writes of step 9. -/
def State.bondApply (s : State) (l : List Section) (kind : Nat) (carried : List (Nat × Nat)) : State :=
  let keys := loadKeys l kind carried
  let on (ty sc : Nat) : Bool := kind == 0 || keys.contains (ty, sc)
  let piers := [0, 1, 2, 3, 4, 5, 6, 7]
  let roles := (List.range 16).map s.portRole
  let lost := s.bond.lost.filter (fun c => (tabSec l c.1 c.2).isSome && !on c.1 c.2)
  let s1 := ({ s with bond := { s.bond with table := l, lost := lost } } : State).showBond
  let s2 := piers.foldl (fun a p => if on 0x01 p || on 0x02 p then a.applyPier l p else a) s1
  let s3 := piers.foldl (fun a p => if on 0x33 p then a.applyPch l p else a) s2
  let s4 := if on 0x31 devScope then s3.applyTwin l else s3
  let s5 := if on 0x32 devScope then s4.applyRng l else s4
  let s6 := if on 0x34 devScope then s5.applyEnvelope l else s5
  let s7 := if on 0x30 devScope then s6.applyBeat l else s6
  let tiles := (List.range 96).filter (fun n => (s7.tileOfLogical n).isSome)
  let s8 := tiles.foldl (fun a n => if on 0x10 n then a.applyTile l n else a) s7
  let s9 := (List.range 104).foldl (fun a x => if a.role x = 0 then a else a.evalConfigured x) s8
  let s10 := tiles.foldl (fun a n => if on 0x11 n then a.applyKv l n else a) s9
  let ports := recordsOf 16 ((tabBody l 0x21 devScope).getD [])
  let down := (List.range 16).foldl (fun a q => a + bit (s.portShort (ports.getD q []) q) * 2 ^ q) 0
  let s11 := s10.wr F.BND_DOMAIN_DEGRADED 0 down
  let s12 : State := { s11 with modules := (s11.devRecords 0x22 8).map (fun r => fieldAt r 0 2) }
  (List.range 16).foldl (fun a q => if a.portRole q = roles.getD q 0 then a else a.fpPush 3 q 0) s12

/-- Step 9 (R299): registers, section table, digests, measurement, floor, image slots whose BOND_DIGEST no longer matches; then pairing is
tried again (R411). -/
def State.bondCommit (s : State) (l : List Section) (hdr : Bytes) (carried : List (Nat × Nat)) : State :=
  let d := tabDigest l
  let b := tabBuild l
  let old := s.buildDigest
  let s1 := s.bondApply l (fieldAt hdr 14 1) carried
  let s2 := (List.range 8).foldl (fun a w =>
    (a.wr F.BND_DIGEST_D w (bitsAt d.toNat (32 * w) 32)).wr F.BND_BUILD_BUILD w (bitsAt b.toNat (32 * w) 32)) s1
  let s3 := s2.extendMeas 7 d
  let s4 := if (fieldAt hdr 15 1).testBit 0 then s3.wr F.BND_FLOOR_FLOOR 0 (fieldAt hdr 16 4) else s3
  let s5 := if b.toNat = old then s4
    else [0, 1].foldl (fun a i => if (a.img i).loaded && fieldAt (a.img i).header 64 32 != b.toNat then a.emptySlot i else a) s4
  ((((s5.marginAbort 8 (fun _ => true)).sat F.BND_STATUS_LOADS 0 1).evalLost).bondEnd 0 0xFFFF 0).tryPair

/-- A slice written with zeros and valid check codes (R305). -/
def State.zeroSlice (s : State) (x : Nat) : State :=
  let p := sliceBase x
  let here (k unit : Nat) : Bool := decide (p / unit ≤ k) && decide (k < (p + sliceSize) / unit)
  let s1 : State := { s with
    mem := Tab.dropWhere (fun k => here k 1) s.mem, badLines := Tab.dropWhere (fun k => here k 64) s.badLines,
    latent := Tab.dropWhere (fun k => here k 64) s.latent, pch := s.pch.filter (fun c => !here c.line 128) }
  s1.updSlice x (fun c => { c with cache := [], wbuf := [], corrected := [] })

/-- The slices that a load zeroes: the spares of the SUBST sections with ZERO that a FULL or AMEND stream carries (log entry 46). -/
def zeroTiles (l : List Section) (kind : Nat) (carried : List (Nat × Nat)) : List Nat :=
  if kind = 1 then []
  else (List.range 8).filterMap (fun p => if carried.contains (0x02, p) then
    (match tabSubst l p with
    | some (_, sp, z) => if z then some (13 * p + sp) else none
    | none => none) else none)

/-- The zeroing of a load that waits is complete, and the load takes effect. -/
def State.bondZeroed (s : State) : State :=
  match s.bond.pend with
  | none => s
  | some (l, hdr, carried) =>
    ((zeroTiles l (fieldAt hdr 14 1) carried).foldl (fun a x => a.zeroSlice x) s).bondCommit l hdr carried

end Sys2Proof.Machine
end

