-- ==== Sys2Proof/Machine/Attention.lean ====
section
/-! DEFINITION. The conditions behind ATT_PENDING (R340, R341), evaluated afresh after a reset and at a write of 1. -/

namespace Sys2Proof.Machine

/-! ### Sensors (R28) -/

/-- Whether a sensor is ACTIVE. -/
def State.sensorOn (s : State) (i : Nat) : Bool := s.rd F.THM_SENSOR_STATE i == 0
/-- The active sensors among some. -/
def State.sensorsOn (s : State) (l : List Nat) : List Nat := l.filter s.sensorOn
/-- The sensors of a hot spot. -/
def hotSensors (x : Nat) : List Nat := [12 * x, 12 * x + 1, 12 * x + 2, 12 * x + 3]
/-- The sensors of a course site. -/
def courseSensors (x c : Nat) : List Nat := [12 * x + 4 + c, 12 * x + 8 + c]
/-- The sensors that may watch B-die site b of a pier: its own, and the spares. -/
def dieSensors (p : Nat) : List Nat := (List.range 10).map (fun b => 1248 + 10 * p + b)
/-- Whether a position has sensors: those of a position fused ABSENT are ABSENT. -/
def State.hasSensors (s : State) (x : Nat) : Bool := (hotSensors x).any (fun i => s.rd F.THM_SENSOR_STATE i != 3)
/-- The positions of a pier that have sensors. -/
def State.sensedTiles (s : State) (p : Nat) : List Nat := ((List.range 13).map (fun i => 13 * p + i)).filter s.hasSensors

/-- The condition SENSOR (R29, R34, R340): a site with a guard, or without a sensor. -/
def State.guarded (s : State) : Bool :=
  (List.range 104).any (fun x => s.hasSensors x && (decide ((s.sensorsOn (hotSensors x)).length < 2) ||
    [0, 1, 2, 3].any (fun c => (s.sensorsOn (courseSensors x c)).isEmpty))) ||
  (List.range 8).any (fun p => decide ((s.sensorsOn (dieSensors p)).length < 8)) ||
  decide ((s.sensorsOn [1328, 1329]).length < 2)

/-! ### Conditions (R340) -/

/-- MIRROR_LAG (R420, R424). -/
def State.mirrorLag (s : State) : Bool :=
  s.rd F.TWN_STATUS_SILENT 0 == 1 || (s.paired && (decide (8 < s.rd F.TWN_MIRROR_BACKLOG 0) || decide (224 < s.rd F.TWN_MIRROR_UNDO_FILL 0) ||
    s.rd F.TWN_STATUS_RESYNC 0 == 1))

/-- The causes that stand for a condition, each with whether it holds. -/
def State.attConditions (s : State) : List (Fld × Bool) :=
  [(F.ATT_PENDING_SENSOR, s.guarded),
   (F.ATT_PENDING_COOLING_DEGRADED, s.rd F.THM_STATUS_COOLING_DEGRADED 0 == 1),
   (F.ATT_PENDING_HOT_BAND, (List.range 104).any (fun x => decide (s.rd F.SLC_STATUS_DECL_BAND x < s.rd F.SLC_STATUS_BAND x))),
   (F.ATT_PENDING_PHASE, (List.range 8).any (fun p => decide (s.rd F.PWR_RAIL_PHASES_COMPUTE p < 16) ||
     decide (s.rd F.PWR_RAIL_PHASES_COURSE p < 4))),
   (F.ATT_PENDING_INPUT, !s.power.inputOk),
   (F.ATT_PENDING_LEDGER, s.rd F.PWR_LEDGER_WITHHELD 0 == 1),
   (F.ATT_PENDING_HOLDUP, s.rd F.PWR_HOLDUP_OK 0 == 0),
   (F.ATT_PENDING_DOUBLE_DUTY, [5, 6, 7, 8].contains s.twinState),
   (F.ATT_PENDING_MIRROR_LAG, s.mirrorLag),
   (F.ATT_PENDING_ROUTE_SHORT, s.routeShort),
   (F.ATT_PENDING_RETIRE_PENDING, (List.range 104).any (fun x => (s.tile x).facts.health == 2)),
   (F.ATT_PENDING_KV_LOST, (List.range 416).any (fun i => s.rd F.KVS_STATE_LOST i == 1)),
   (F.ATT_PENDING_SCR_LOST, (List.range 8).any (fun p => s.rd F.PCH_STATUS_SCR_LOST p == 1)),
   (F.ATT_PENDING_TRAP, s.rd F.ATT_TRAP0_TILES 0 != 0 || s.rd F.ATT_TRAP1_TILES 0 != 0),
   (F.ATT_PENDING_CONFIG_LOST, [F.SYS_CFG_LOST_BOND, F.SYS_CFG_LOST_TILE, F.SYS_CFG_LOST_BEAT, F.SYS_CFG_LOST_THERMAL, F.SYS_CFG_LOST_KV,
     F.SYS_CFG_LOST_OTHER].any (fun f => s.rd f 0 == 1))]

/-- Conditions evaluated afresh after a reset. -/
def State.attAfresh (s : State) : State := s.attConditions.foldl (fun a (c : Fld × Bool) => a.wr c.1 0 (bit c.2)) s

end Sys2Proof.Machine
end

