-- ==== Sys2Proof/Machine/Resets.lean ====
section
/-! DEFINITION. Tile, pier and compute resets (R365 to R369), what each event loses (R12, R371 to R373), and the low-power states
(R370). -/

namespace Sys2Proof.Machine

/-! ### What an event loses -/

/-- The rank of a Kept code, mildest first (R12). -/
def keptRank : Kept → Nat
  | .t => 1 | .p => 2 | .k => 3 | .m => 4 | .c => 5 | .never => 6

/-- Whether a bridge has an end on a pier. -/
def bridgeAt (b p : Nat) : Bool :=
  let e := bridgeEnds.getD b (0, 0)
  e.1 == p || e.2 == p

/-- Whether a reset loses copy i of a field (R12). Fields of bridges go with a pier reset of either end (R329). -/
def Fld.lostAt (f : Fld) (k : ResetKind) (i : Nat) : Bool :=
  match k, f.scope with
  | .tile x, .tile n => f.kept == .t && i / n == x.val
  | .pier p, .tile n => decide (keptRank f.kept ≤ 2) && pierOf (i / n) == p.val
  | .pier p, .pier n => decide (keptRank f.kept ≤ 2) && i / n == p.val
  | .pier p, .dev _ => decide (F.BRG_STATUS_WIDTH.id ≤ f.id) && decide (f.id ≤ F.BRG_CTL_RETRAIN.id) && bridgeAt i p.val
  | .compute, _ => decide (keptRank f.kept ≤ 3)
  | _, _ => false

/-- Fields that meet a test return to their Reset values. -/
def State.loseFields (s : State) (lost : Fld → Nat → Bool) : State :=
  { s with fv := Tab.dropWhere (fun k => match allFields[k / 65536]? with
      | some f => lost f (k % 65536)
      | none => false) s.fv }

/-- The settings whose group an event marks (R373), and that then await rewriting. -/
def State.markSettings (s : State) (lost : Fld → Bool) : State :=
  let fs := allFields.filter (fun f => lost f && (f.grp == .beat || f.grp == .thermal || f.grp == .other))
  fs.foldl (fun a f => ({ a with life := { a.life with
    rewrite := if a.life.rewrite.contains f.id then a.life.rewrite else a.life.rewrite ++ [f.id] } } : State).markLost f.grp) s

/-- The positions a reset covers. -/
def resetTiles (k : ResetKind) : List Nat :=
  match k with
  | .tile x => [x.val]
  | .pier p => (List.range 13).map (fun i => 13 * p.val + i)
  | .compute => List.range 104

/-- The effects of sections that an event removes (R283, R303): `gone` says which of (TYPE, SCOPE) go. -/
def State.loseSections (s : State) (gone : Nat → Nat → Bool) : State :=
  let add := (s.bond.table.filter (fun c => gone c.type c.scope && !s.bond.lost.contains (c.type, c.scope))).map (fun c => (c.type, c.scope))
  ({ s with bond := { s.bond with lost := s.bond.lost ++ add } } : State).showBond

/-- A load in progress is abandoned (R299); one that has reached step 9 completes, its zeroing included (log entry 45). -/
def State.abandonLoad (s : State) (kind : Nat) : State :=
  match s.rd F.BND_STATUS_STATE 0 with
  | 0 => s
  | 2 => s.bondZeroed
  | _ => s.bondEnd 0x1E 0xFFFF kind

/-! ### Parts that stop -/

/-- Whether an access was made by a unit of some of the positions. -/
def Acc.ofTiles (xs : List Nat) (x : Nat) (a : Acc) : Bool :=
  match a.src with
  | .tile y _ => xs.contains y
  | .own _ _ _ => xs.contains x
  | _ => false

/-- A floor-plan item whose repair record holds a value. -/
def State.fpPushV (s : State) (kind part repair value : Nat) : State := { s with fpPend := s.fpPend ++ [⟨kind, part, repair, value, s.now⟩] }

/-- The unit of a bank, idle, with or without its image words (R204, R225). -/
def Bku.afterReset (keep : Bool) (b : Bku) : Bku := if keep then { Bku.idle with store := b.store } else Bku.idle

/-- A position stops and its state is lost (R56, R174, R225, R240, R366, R502): the slice cache is written back first; requests of others
to its slice stay in their queues. `zero` starts the zeroing of the tile store; `keep` keeps the bank units' image words. -/
def State.stopTile (s : State) (xs : List Nat) (zero keep : Bool) (x : Nat) : State :=
  (s.writeBackAll x).updTile x (fun t =>
    let other (l : List Acc) : List Acc := l.filter (fun a => !a.ofTiles xs x)
    { Tile.idle with
      eng := { Engine.idle with remap := t.eng.remap, zeroing := zero },
      loads := t.loads,
      slice := { Slice.idle with
        inbound := other t.slice.inbound, defer := other t.slice.defer, prio := other t.slice.prio, norm := other t.slice.norm,
        deliver := t.slice.deliver.filter (fun d => !d.acc.ofTiles xs x), refreshEnd := t.slice.refreshEnd },
      units := t.units.filterMap (fun (u : Nat × Bku) =>
        let b := u.2.afterReset keep
        if b = Bku.idle then none else some (u.1, b)),
      facts := t.facts })

/-- Chunks of stopped channels that have not been served are not moved (log entry 39). -/
def State.dropChunks (s : State) (xs : List Nat) : State :=
  let s1 : State := { s with remote := s.remote.filter (fun r => !xs.contains r.x) }
  s1.tiles.foldl (fun a (e : Nat × Tile) =>
    let f (l : List Acc) : List Acc := l.filter (fun c => !c.ofTiles xs e.1)
    a.updSlice e.1 (fun l => { l with
      inbound := f l.inbound, defer := f l.defer, prio := f l.prio, norm := f l.norm,
      deliver := l.deliver.filter (fun d => !d.acc.ofTiles xs e.1) })) s1

/-- BKU_READY after a reset: 1 for every unit not retired. -/
def State.readyUnits (s : State) (x : Nat) : State :=
  s.wr F.BKU_READY_READY x (2 ^ 64 - 1 - (s.tile x).facts.bkuRetired)

/-- A bank unit is retired (R31, R33). -/
def State.retireUnit (s : State) (x u : Nat) : State :=
  if (s.tile x).facts.bkuRetired.testBit u then s
  else (s.updFacts x (fun f => { f with bkuRetired := f.bkuRetired ||| 2 ^ u })).fpPushV 1 x 11 u

/-- Bank units that await retirement are retired at a reset of their tile (R224). -/
def State.retireUnits (s : State) (x : Nat) : State :=
  let m := (s.tile x).facts.bkuPend
  (((List.range 64).foldl (fun a u => if m.testBit u then a.retireUnit x u else a) s).updFacts x (fun f => { f with bkuPend := 0 }))

/-- The pier cache and scratchpad of a pier are lost (R179, R180). -/
def State.losePch (s : State) (p : Nat) : State :=
  { s with
    pch := s.pch.filter (fun l => l.line / 2 ^ 30 != p),
    mem := Tab.dropWhere (fun k => k / 2 ^ 33 == p * 16 + 13) s.mem,
    badLines := Tab.dropWhere (fun k => k / 2 ^ 27 == p * 16 + 13) s.badLines }

/-- An image slot emptied if its image uses some of the positions. -/
def State.emptyFor (s : State) (xs : List Nat) (i : Nat) : State :=
  if (s.img i).loaded && (s.imageTiles (s.img i)).any xs.contains then s.emptySlot i else s

/-- Effects that go with the compute rails beyond the tiles: seed, head keys, modules, mirror engine and slice pattern. -/
def State.loseCompute (s : State) : State :=
  { s with seed := 0, headKeys := [], modules := [], twin := Twin.idle, beat := { s.beat with pattern := (1, 0, false) } }

/-! ### Resets (R365 to R369) -/

/-- KIND of a reset. -/
def resetCode : ResetKind → Nat
  | .tile _ => 1 | .pier _ => 2 | .compute => 3

/-- Whether one reset includes the parts of another (R369). -/
def resetCovers (a b : ResetKind) : Bool :=
  match a, b with
  | .compute, _ => true
  | .pier p, .pier q => p == q
  | .pier p, .tile x => p.val == pierOf x.val
  | .tile x, .tile y => x == y
  | _, _ => false

/-- The tiles of a reset leave their configured state (R70, R303, R377). -/
def State.unconfigure (s : State) (xs : List Nat) : State :=
  let s1 := xs.foldl (fun a x => if a.role x == 0 && a.rd F.SEQ_CTL_CONFIGURED x == 1 then a.setUnconf x true else a) s
  s1.loseSections (fun ty sc => ty == 0x10 && xs.any (fun x => (s.tile x).facts.logical == sc))

/-- A reset at its origin (R366 to R368). -/
def State.resetBegin (s : State) (k : ResetKind) : State :=
  let xs := resetTiles k
  let s0 := if xs.any s.anyRunning then s.requestHold else s
  let hit (r : MarginRun) : Bool := match r.kind, k with
    | 0, _ => xs.contains r.ix
    | 1, .compute => true
    | 1, .pier p => bridgeAt r.ix p.val
    | _, _ => false
  let s1 := ((s0.abandonLoad (resetCode k)).commissionStop).marginAbort 6 hit
  let s2 := match k with
    | .tile _ => s1
    | .pier _ => [0, 1].foldl (fun a i => a.emptyFor xs i) s1
    | .compute => ((s1.abortSubs).emptySlot 0).emptySlot 1
  let s3 := (s2.unconfigure xs).markSettings (fun f => match k, f.scope with
    | .compute, _ => decide (keptRank f.kept ≤ 3)
    | .pier _, .dev _ => false
    | .pier _, _ => decide (keptRank f.kept ≤ 2)
    | .tile _, .tile _ => f.kept == .t
    | .tile _, _ => false)
  let s4 := xs.foldl (fun a x => ((a.stopTile xs true (k != .compute) x).setAttTrap x false)) (s3.dropChunks xs)
  let s5 := s4.loseFields (fun f i => f.lostAt k i)
  let s6 : State := match k with
    | .tile _ => s5
    | .pier p => ((List.range 10).foldl (fun (a : State) b => if bridgeAt b p.val then a.bridgeRetrain b else a) (s5.losePch p.val)).replaceWays p.val
    | .compute => (List.range 10).foldl (fun (a : State) b => a.bridgeRetrain b)
        ((List.range 8).foldl (fun a p => (a.losePch p).replaceWays p) ((s5.loseSections (fun ty _ => ty != 0x30)).loseCompute))
  let s7 := xs.foldl (fun a x => ((a.retireUnits x).retireDue x).readyUnits x) s6
  let heads (x : Nat) : List Nat := (List.range 4).filter (fun h => s7.rd F.KVS_CFG_ENABLED (4 * x + h) == 1)
  let s8 := if k = .compute then s7 else xs.foldl (fun a x => a.updTile x (fun t => { t with restore := heads x })) s7
  let s9 : State := { s8 with life := { s8.life with resets := s8.life.resets.filter (fun r => !resetCovers k r.kind) ++ [⟨k, s.now⟩] } }
  ((s9.wrs 0 [(F.SYS_RESET_STATUS_BUSY, 1), (F.SYS_RESET_STATUS_LAST_KIND, resetCode k), (F.SYS_RESET_STATUS_LAST_CAUSE, 1)]).sat
    (if resetCode k = 1 then F.SYS_RESET_STATUS_TILE_RESETS else F.SYS_RESET_STATUS_OTHER_RESETS) 0 1).evalLost.attAfresh

/-- A reset request (R369, R405): ignored before READY and in standby or park, held during a clamp, absorbed by a reset in progress that
covers it. 0x20 is the offset of SYS_RESET. -/
def State.resetRequest (s : State) (k : ResetKind) : State :=
  if s.rd F.SYS_BOOT_STATUS_STAGE 0 ≠ 0xA ∨ 2 ≤ s.rd F.SYS_POWER_STATE 0 then s.note 0x004 (resetCode k)
  else if s.rd F.THM_STATUS_CLAMPED 0 = 1 then { s with life := { s.life with pendingResets := s.life.pendingResets ++ [k] } }
  else if s.life.resets.any (fun r => resetCovers r.kind k) then (s.sat F.SYS_RESET_STATUS_ABSORBED 0 1).note 0x004 (resetCode k)
  else s.resetBegin k

/-- The resets a clamp held begin at its release (R405). -/
def State.heldResets (s : State) : State :=
  if s.rd F.THM_STATUS_CLAMPED 0 = 1 then s
  else s.life.pendingResets.foldl (fun a k => a.resetRequest k) { s with life := { s.life with pendingResets := [] } }

/-- Microcode goes into service in every position that has a compute tile or a spare (R363). -/
def State.mcodeOn (s : State) : State :=
  let v := (s.life.firmware.map (fun f => f.mcodeVer.toNat)).getD 0
  (List.range 104).foldl (fun a x =>
    if 3 ≤ (a.tile x).facts.health then a else ((a.wr F.BKU_CTL_MCODE_OK x 1).wr F.BKU_CTL_MCODE_VER x v).readyUnits x) s

/-- A reset completes once its tile stores are zeroed (R366, R367): BUSY clears when none is left, LAST_MS counts 10 µs. -/
def State.resetDone (s : State) (k : ResetKind) : State :=
  match s.life.resets.find? (fun r => r.kind == k) with
  | none => s
  | some r =>
    if (resetTiles k).any (fun x => (s.tile x).eng.zeroing) then s
    else
      let left := s.life.resets.filter (fun v => v.kind != k)
      let s1 := ({ s with life := { s.life with resets := left } } : State).wrs 0
        [(F.SYS_RESET_STATUS_BUSY, bit (!left.isEmpty)), (F.SYS_RESET_STATUS_LAST_MS, min 65535 ((s.now - r.origin) / 40000))]
      if k = .compute then s1.mcodeOn else s1

/-- TILE_RESET (R366). -/
def execTileReset (t : Nat) (p : PierIx) (pos : Fin 13) (s : State) : Result :=
  .next ((s.tick t).resetRequest (.tile ⟨13 * p.val + pos.val, by have := p.isLt; have := pos.isLt; omega⟩))
/-- PIER_RESET (R366). -/
def execPierReset (t : Nat) (p : PierIx) (s : State) : Result := .next ((s.tick t).resetRequest (.pier p))
/-- COMPUTE_RESET (R367). -/
def execComputeReset (t : Nat) (s : State) : Result := .next ((s.tick t).resetRequest .compute)
/-- RESET_COMPLETE (R366, R367). -/
def execResetComplete (t : Nat) (kind : ResetKind) (s : State) : Result := .next ((s.tick t).resetDone kind)

/-! ### Low-power states (R370 to R373) -/

/-- PWR_DOMAINS in a state: 0 and 1 run everything, 2 standby, 3 park (R378). -/
def domainsOn (state : Nat) : Nat :=
  if state < 2 then 2 ^ 26 - 1 else if state = 2 then 2 ^ 26 - 1 - 0xFF - 0xF0000 else 2 ^ 26 - 1 - 0xFF - 0xF0000 - 0x1300000

/-- What standby loses (R371): compute, tile stores, pier caches, image slots, and the effects of TILE and KV sections. -/
def State.loseStandby (s : State) : State :=
  let xs := List.range 104
  let s1 := (((s.emptySlot 0).emptySlot 1).unconfigure xs).loseSections (fun ty _ => ty == 0x11)
  let s2 := xs.foldl (fun a x => a.stopTile xs false false x) s1
  let s3 := (List.range 8).foldl (fun a p => a.losePch p) { s2 with ts := [] }
  s3.loseFields (fun f _ => f.lp == .lostSP)

/-- What park loses beyond standby (R371). -/
def State.losePark (s : State) : State :=
  let s1 := (List.range 16).foldl (fun a q => (a.clearPort q).updPort q (fun p => { p with partner := 0, spare := none })) s
  let s2 := (s1.loseSections (fun _ _ => true)).loseCompute
  ({ s2 with beat := BeatState.idle, front := ⟨[], [], 0, s.now, false⟩, wins := [] } : State).loseFields (fun f _ => f.lp == .lostP)

/-- A low-power state entered from a shallower one (R370, R371). -/
def State.enterLow (s : State) (n : Nat) : State :=
  let cur := s.rd F.SYS_POWER_STATE 0
  let s1 := if cur < 2 ∧ 2 ≤ n then s.loseStandby else s
  let s2 := if cur < 3 ∧ n = 3 then s1.losePark else s1
  (((s2.wr F.SYS_POWER_STATE 0 n).wr F.PWR_DOMAINS_ON 0 (domainsOn n)).setFiller 0).evalLost

/-- The bring-up that an exit begins (R329, R370): bridges retrain; from park the ports too. -/
def State.exitBegin (s : State) (n : Nat) : State :=
  let cur := s.rd F.SYS_POWER_STATE 0
  let s1 := if 2 ≤ cur ∧ n < 2 then (List.range 10).foldl (fun a b => a.bridgeRetrain b) s else s
  if cur = 3 ∧ n < 3 then (List.range 16).foldl (fun a q => if a.rd F.LNK_CTL_DISABLE q = 1 then a else a.trainPort q) s1 else s1

/-- Whether a low-power state may be entered (R370). -/
def State.mayRest (s : State) : Bool :=
  !(List.range 104).any (fun x => s.rd F.SEQ_THREAD_CTL_RUNNING x != 0 || (s.tile x).units.any (fun u => u.2.st == .running)) &&
    s.margin.isNone && s.front.subs.isEmpty && s.life.resets.isEmpty && s.rd F.BND_STATUS_STATE 0 == 0 && s.rd F.THM_STATUS_CLAMPED 0 == 0 &&
    s.rd F.THM_STATUS_SHUTDOWN 0 == 0 && s.rd F.SYS_BOOT_STATUS_STAGE 0 == 0xA

/-- A write of SYS_POWER.REQ (R370, R376, R401, R405). 0x30 is its offset. -/
def State.requestPower (s : State) (n : Nat) : State :=
  if s.rd F.SYS_POWER_MOVING 0 = 1 then s.noteWrite 0x30
  else
    let s1 := s.wr F.SYS_POWER_REQ 0 n
    let cur := s.rd F.SYS_POWER_STATE 0
    let go : State := ({ s1 with life := { s1.life with moving := some n } } : State).wr F.SYS_POWER_MOVING 0 1
    let refuse : State := s1.wr F.SYS_POWER_REFUSED 0 1
    if n = cur then s1
    else if s.rd F.THM_STATUS_SHUTDOWN 0 = 1 then
      (if n = 0 ∧ s.rd F.THM_STATUS_PRESSURE 0 = 1 then go.exitBegin n else refuse)
    else if n = 0 then go.exitBegin n
    else if s.mayRest then go.exitBegin n
    else refuse

/-- REQ_RUNNING (R370). -/
def execReqRunning (t : Nat) (s : State) : Result := .next ((s.tick t).requestPower 0)
/-- REQ_WARM_IDLE (R370). -/
def execReqWarmIdle (t : Nat) (s : State) : Result := .next ((s.tick t).requestPower 1)
/-- REQ_STANDBY (R370). -/
def execReqStandby (t : Nat) (s : State) : Result := .next ((s.tick t).requestPower 2)
/-- REQ_PARK (R370). -/
def execReqPark (t : Nat) (s : State) : Result := .next ((s.tick t).requestPower 3)

/-- Units that did not confirm a broadcast are retired, unless they are more than 64 (R363): unit u of position x is number 64x + u. -/
def State.retireAll (s : State) (us : List Nat) : State := us.foldl (fun a n => a.retireUnit (n / 64) (n % 64)) s

/-- A change of state completes (R370, R373): the broadcast of an exit from standby or park is complete, with `retired` the units it has
retired. -/
def State.powerDone (s : State) (retired : List Nat) : State :=
  match s.life.moving with
  | none => s
  | some n =>
    let cur := s.rd F.SYS_POWER_STATE 0
    let s0 := ({ s with life := { s.life with moving := none } } : State).wr F.SYS_POWER_MOVING 0 0
    if cur < n then s0.enterLow n
    else
      let s1 := if 2 ≤ cur ∧ n < 2 then
          (((s0.retireAll (retired.filter (fun r => decide (r < 6656)))).mcodeOn).wr F.THM_STATUS_SHUTDOWN 0 0)
        else s0
      let s2 := s1.markSettings (fun f => (cur == 3 && f.lp == .lostP) || (decide (2 ≤ cur) && f.lp == .lostSP))
      ((s2.wr F.SYS_POWER_STATE 0 n).wr F.PWR_DOMAINS_ON 0 (domainsOn n)).evalLost

/-- POWER_STATE_CHANGE_DONE (R370). -/
def execPowerStateChangeDone (t : Nat) (retired : List Nat) (s : State) : Result := .next ((s.tick t).powerDone retired)

end Sys2Proof.Machine
end

