-- ==== Sys2Proof/Machine/Beat.lean ====
section
/-! DEFINITION. The Campus Beat's lock, holdover and slips (R246 to R249), the messages of the domain (R261 to R263), domain freezes
(R264, R265) and the host's requests in BEAT_HOLD (R277). -/

namespace Sys2Proof.Machine

/-! ### The count -/

/-- One bit of a CRC register of 16 bits taken in, most significant bit first. -/
def crcStep (poly c b : Nat) : Nat :=
  let top := (c / 2 ^ 15 + b) % 2
  (c * 2 % 2 ^ 16) ^^^ (if top = 1 then poly else 0)

/-- The CRC-16 of n bits of a word, from bit n − 1 down (R247). -/
def crcBits (poly w : Nat) : Nat → Nat → Nat
  | 0, c => c
  | n + 1, c => crcBits poly w n (crcStep poly c (bitsAt w n 1))

/-- The value b0 of a sound epoch word (R247). -/
def epochValue (w : BitVec 96) : Option Nat :=
  let n := w.toNat
  let b0 := bitsAt n 16 64
  if bitsAt n 80 16 = 0x7FFE ∧ bitsAt n 0 16 = crcBits 0x1021 (n / 2 ^ 16) 80 0xFFFF ∧ b0 % 65536 = 0 then some b0 else none

/-- The base that puts a count at the present cycle. -/
def State.baseFor (s : State) (b : Nat) : Nat := (b + (2 ^ 64 - s.now / 32 % 2 ^ 64)) % 2 ^ 64

/-- BEAT attention (R340). -/
def State.beatEvent (s : State) : State := s.attn F.ATT_PENDING_BEAT

/-- A LOCKED module enters HOLDOVER (R249). -/
def State.holdover (s : State) : State :=
  if s.rd F.BEAT_STATUS_STATE 0 = 1 then
    { ((s.wr F.BEAT_STATUS_STATE 0 2).beatEvent) with beat := { s.beat with
        holdFrom := s.beatNow, marks := 0, markBits := [], epochPrev := none } }
  else s

/-- Every port in service drops its session and retrains (R447). -/
def State.retrainAll (s : State) : State := (List.range 16).foldl (fun a q => a.portLost q 4) s

/-- The count is taken from the source, of which `via` is the port (R248, R249). From HOLDOVER a different count is a slip. -/
def State.lockBeat (s : State) (base : Nat) (via : Option Nat) : State :=
  let held := s.rd F.BEAT_STATUS_STATE 0 == 2
  let s1 := { (s.wr F.BEAT_STATUS_STATE 0 1) with beat := { s.beat with base := base, via := via, frame := 0 } }
  if held && base != s.beat.base then
    ((((s1.wr F.BEAT_STATUS_SLIP 0 1).beatEvent).overrunAll 6 0).retrainAll)
  else if held then { s1 with beat := { s1.beat with frame := s.beat.frame } }
  else s1

/-- An epoch word ends at the present beat (R247, R248): it agrees with the count, or two consecutive ones that agree give it. -/
def State.epochWord (s : State) (w : BitVec 96) : State :=
  let st := s.rd F.BEAT_STATUS_STATE 0
  if s.rd F.BEAT_CFG_SRC 0 = 1 ∨ !s.life.powered ∨ (st = 1 ∧ s.beat.via.isSome) then s
  else
    let prev := s.beat.epochPrev
    let keep (a : State) (o : Option Nat) : State := { a with beat := { a.beat with epochPrev := o } }
    match epochValue w with
    | none => keep ((s.sat F.BEAT_STATUS_EPOCH_ERRS 0 1).holdover) none
    | some b0 =>
      let base := s.baseFor (b0 + 95)
      if st = 1 then
        (if base = s.beat.base then keep s (some b0)
         else keep ((s.sat F.BEAT_STATUS_EPOCH_ERRS 0 1).holdover) (some b0))
      else if prev = some (b0 - 65536) ∧ 65536 ≤ b0 then keep (s.lockBeat base none) (some b0)
      else keep s (some b0)

/-- EPOCH_WORD (R247). -/
def execEpochWord (t : Nat) (w : BitVec 96) (s : State) : Result := .next ((s.tick t).epochWord w)

/-- HOLDOVER_ENTER (R249): the source is gone. -/
def execHoldoverEnter (t : Nat) (s : State) : Result := .next ((s.tick t).holdover)

/-- Holdover expires (R249). -/
def State.holdoverExpire (s : State) : State :=
  if s.rd F.BEAT_STATUS_STATE 0 = 2 ∧ s.beat.holdFrom + 131072 ≤ s.beatNow then
    (((((s.wr F.BEAT_STATUS_STATE 0 3).wr F.BEAT_STATUS_EXPIRED 0 1).beatEvent).overrunAll 6 0).retrainAll)
  else s

/-- HOLDOVER_EXPIRE. -/
def execHoldoverExpire (t : Nat) (s : State) : Result := .next ((s.tick t).holdoverExpire)

/-! ### Beat marks over a port (R246, R312) -/

/-- Beats from one block's mark to the next: 1 at X4, 2 at X2. -/
def State.blockBeats (s : State) (q : Nat) : Nat := if s.portX4 q then 1 else 2

/-- The port whose marks the module heeds: SRC_PORT of the Beat section, or without one the lowest trained port (R291, R364). -/
def State.markPort (s : State) : Option Nat :=
  if s.rd F.BEAT_CFG_SRC 0 = 1 then some (s.rd F.BEAT_CFG_SRC_PORT 0)
  else if (s.section? 0x30 devScope).isSome then none
  else match s.beat.via with
    | some q => some q
    | none => if s.beatHolds then none else (List.range 16).find? s.portUp

/-- The count that 64 SERIAL bits spell, oldest first (R312). -/
def serialValue : List Nat → Nat
  | [] => 0
  | f :: r => f / 64 % 2 + 2 * serialValue r

/-- What the marks kept say of the count at the last of them: two series of 64 that follow each other. -/
def seriesCount (w : Nat) (bits : List Nat) : Option Nat :=
  if bits.length = 128 ∧ (bits.getD 0 0) % 64 = 0 then
    let v1 := serialValue (bits.take 64)
    let v2 := serialValue (bits.drop 64)
    if v1 % (64 * w) = 0 ∧ v2 = v1 + 64 * w then some (v2 + 63 * w) else none
  else none

/-- A beat mark arrives (R246, R248, R249): 65,536 beats of marks that agree give the count, less the latency of the class in
force. A mark without LOCKED, or one that departs from the count, ends the marks. -/
def State.beatMark (s : State) (q : Nat) (field : Nat) : State :=
  if s.markPort ≠ some q ∨ !s.portUp q then s
  else
    let w := s.blockBeats q
    let late := 10 + 4 * s.portClass q
    let bc := field % 64
    let b := s.beat
    if field / 128 % 2 = 0 then { (s.holdover) with beat := { (s.holdover).beat with marks := 0, markBits := [] } }
    else if s.rd F.BEAT_STATUS_STATE 0 = 1 then
      (if (bc + late) % 64 = s.beatNow % 64 then s else s.holdover)
    else
      let follows : Bool := match b.markBits.getLast? with
        | some f => (f + w) % 64 == bc
        | none => true
      let bits := (if follows then b.markBits else []) ++ [field % 128]
      let bits1 := bits.drop (bits.length - 128)
      let s1 (n : Nat) (o : Option Nat) : State := { s with beat := { b with markBits := bits1, marks := n, epochPrev := o } }
      match seriesCount w bits1 with
      | none => if follows then s1 b.marks b.epochPrev else s1 0 none
      | some v =>
        let base := s.baseFor (v + late)
        let n := if b.epochPrev = some base then b.marks + 64 * w else 128 * w
        if 65536 ≤ n then (s1 0 none).lockBeat base (some q) else s1 n (some base)

/-- BEAT_MARK (R246). -/
def execBeatMark (t : Nat) (q : PortIx) (field : BitVec 8) (s : State) : Result := .next ((s.tick t).beatMark q field.toNat)

/-! ### Messages (R261 to R263, R265) -/

/-- The count congruent to a 15-bit VALUE that lies within 16,384 of the module's own (R312). -/
def nearValue (cur v : Nat) : Nat :=
  let up := (v + 32768 - cur % 32768) % 32768
  if up ≤ 16384 ∨ cur < 32768 - up then cur + up else cur + up - 32768

/-- The beat that an UNCLAMP which empties the set fixes (R265). -/
def State.unclampBeat (s : State) (m : Msg) : Option Nat :=
  let b := s.beat
  let rest := b.clampers.filter (fun i => i != m.issuer)
  if b.clampers.contains m.issuer && rest.isEmpty then
    some (s.resumeOf (if b.freezeFrom.isSome then b.lastFreeze else b.freezeBeat.getD b.lastFreeze) m.target)
  else none

/-- Whether a message came too late (R262, R265). -/
def State.msgLate (s : State) (m : Msg) : Bool :=
  match m.type with
  | 3 => decide (m.target ≤ s.beatNow)
  | 4 => (match s.unclampBeat m with | some r => decide (r ≤ s.beatNow) | none => false)
  | _ => decide (m.target ≤ s.frameNow)

/-- A message from a port (R261): if it is new it is forwarded and acts here; a late one traps every tile (R262). -/
def State.hear (s : State) (q type issuer value : Nat) : State :=
  let m : Msg := ⟨type, issuer, nearValue (if type < 3 then s.frameNow else s.beatNow) value⟩
  if s.beat.seen.contains m then s
  else
    let late := s.msgLate m
    let s1 := { s with beat := { s.beat with seen := m :: s.beat.seen, send := s.beat.send ++ [m] } }
    let s2 := s1.applyMsg m
    if late then s2.overrunAll 3 q else s2

/-- A message this module issues of its own accord (log entry 36). -/
def State.say (s : State) (type : Nat) : State :=
  match type with
  | 0 => s.issueRest
  | 1 => s.requestHold
  | 2 => if s.ownHold then s.issue 2 s.targetFrame else s
  | 3 => if s.beat.clampers.contains s.selfIndex then s else s.issue 3 (s.beatNow + s.propagation)
  | _ => if s.beat.clampers.contains s.selfIndex then s.issue 4 s.beatNow else s

/-- A domain message: from a port, or issued here. -/
def State.domainMsg (s : State) (type : Nat) (src : Option PortIx) (issuer : Fin 512) (value : BitVec 15) : State :=
  match src with
  | some q => s.hear q type issuer value.toNat
  | none => s.say type

/-- REST (R261). -/
def execMsgRest (t : Nat) (src : Option PortIx) (issuer : Fin 512) (value : BitVec 15) (s : State) : Result :=
  .next ((s.tick t).domainMsg 0 src issuer value)
/-- HOLD (R263). -/
def execMsgHold (t : Nat) (src : Option PortIx) (issuer : Fin 512) (value : BitVec 15) (s : State) : Result :=
  .next ((s.tick t).domainMsg 1 src issuer value)
/-- RESUME (R263). -/
def execMsgResume (t : Nat) (src : Option PortIx) (issuer : Fin 512) (value : BitVec 15) (s : State) : Result :=
  .next ((s.tick t).domainMsg 2 src issuer value)
/-- CLAMP (R265). -/
def execMsgClamp (t : Nat) (src : Option PortIx) (issuer : Fin 512) (value : BitVec 15) (s : State) : Result :=
  .next ((s.tick t).domainMsg 3 src issuer value)
/-- UNCLAMP (R265). -/
def execMsgUnclamp (t : Nat) (src : Option PortIx) (issuer : Fin 512) (value : BitVec 15) (s : State) : Result :=
  .next ((s.tick t).domainMsg 4 src issuer value)

/-! ### Domain freezes (R264, R265) -/

/-- Cycle 0 of the freeze beat: gated units stand; a clamp called elsewhere shows the cause DOMAIN (R398). -/
def State.freezeBegin (s : State) : State :=
  match s.beat.freezeBeat with
  | some f =>
    if f ≤ s.beatNow ∧ !s.frozen then
      let s1 := s.gate
      let s2 := { s1 with beat := { s1.beat with freezeBeat := none, lastFreeze := f } }
      let s3 := (s2.sat F.BEAT_FRAME_FREEZES 0 1).wr F.BEAT_HOLD_FROZEN 0 1
      let s4 := if s3.power.own then s3 else s3.clampMark 5
      s4.updPower (fun p => { p with clampFrom := some f })
    else s
  | none => s

/-- DOMAIN_FREEZE_BEGIN (R264). -/
def execDomainFreezeBegin (t : Nat) (s : State) : Result := .next ((s.tick t).freezeBegin)

/-- The resumption beat: every gated unit runs again. -/
def State.freezeEnd (s : State) : State :=
  match s.beat.resumeBeat with
  | some r =>
    if r ≤ s.beatNow ∧ s.frozen ∧ s.power.localFrom.isNone then
      let s1 := s.ungate
      ((({ s1 with beat := { s1.beat with resumeBeat := none } } : State).wr F.BEAT_HOLD_FROZEN 0 0).clampOver).heldResets
    else s
  | none => s

/-- DOMAIN_FREEZE_END (R264). -/
def execDomainFreezeEnd (t : Nat) (s : State) : Result := .next ((s.tick t).freezeEnd)

/-! ### Requests of the host (R277) and ramp boundaries (R270) -/

/-- REQ_REST (R277). -/
def execReqRest (t : Nat) (s : State) : Result := .next ((s.tick t).say 0)
/-- REQ_HOLD (R277). -/
def execReqHold (t : Nat) (s : State) : Result := .next ((s.tick t).say 1)
/-- REQ_RESUME (R277). -/
def execReqResume (t : Nat) (s : State) : Result := .next ((s.tick t).say 2)
/-- RAMP_BOUNDARY (R270). -/
def execRampBoundary (t : Nat) (s : State) : Result := .next ((s.tick t).rampBoundary)

end Sys2Proof.Machine
end

