-- ==== Sys2Proof/Machine/Bond.lean ====
section
/-! DEFINITION. Loading the Bond Stream (R279 to R281, R296 to R302): header, sections, digests, validation. -/

namespace Sys2Proof.Machine

/-- Why a load is rejected: code, index of the section in the stream, DETAIL (R298). -/
structure BondFail where
  code : Nat
  sec : Nat
  detail : Nat
deriving DecidableEq, Repr

/-- No section is concerned. -/
def noSec : Nat := 0xFFFF

/-! ### The header (R280) -/

/-- The field of a header that breaks R280, by its offset. -/
def headerFault (h : Bytes) : Option Nat :=
  let f (o n : Nat) : Nat := fieldAt h o n
  if f 0 4 ≠ 0x4D534E42 then some 0
  else if f 4 4 ≠ 0x10000 then some 4
  else if 512 < f 12 2 then some 12
  else if 2 < f 14 1 then some 14
  else if 2 ≤ f 15 1 then some 15
  else if f 20 4 ≠ 0 then some 20
  else if f 14 1 = 0 ∧ f 32 32 ≠ 0 then some 32
  else none

/-- Step 2: header, TARGET, SEQUENCE. -/
def State.headerCheck (s : State) (h : Bytes) : Option BondFail :=
  match headerFault h with
  | some o => some ⟨0x03, noSec, o⟩
  | none =>
    if fieldAt h 24 8 ≠ 0 ∧ fieldAt h 24 8 ≠ s.rd F.QUO_IDENT_IDENT 0 then some ⟨0x04, noSec, 0⟩
    else if fieldAt h 16 4 < s.rd F.BND_FLOOR_FLOOR 0 then some ⟨0x06, noSec, 0⟩
    else none

/-! ### Sections (R281, R283) -/

/-- The reserved bits of a type's record, as record size and mask of each byte; `none` for a reserved TYPE. The records of a KV section follow
its preface and are checked apart. -/
def secShape (ty : Nat) : Option (Nat × List Nat) :=
  match ty with
  | 0x01 => some (16, [0, 0, 0, 255, 255, 255, 255, 255, 0, 0, 0, 0, 0, 0, 0, 0])
  | 0x02 => some (8, [0, 0, 0xFE, 255, 255, 255, 255, 255])
  | 0x10 => some (8, [0xFC, 0xFE, 255, 255, 255, 255, 255, 255])
  | 0x11 => some (8, [0xF0, 0xFE, 255, 255, 255, 255, 255, 255])
  | 0x20 => some (16, [0, 0, 0, 0, 0xE0, 0xE0, 0xE0, 0xE0, 0xE0, 0xE0, 0xE0, 0xE0, 255, 255, 255, 255])
  | 0x21 => some (16, [0, 0, 0x80, 0, 255, 255, 255, 255, 0, 0, 0, 0, 0, 0, 0, 0])
  | 0x22 => some (8, [0, 0, 0, 0, 255, 255, 255, 255])
  | 0x30 => some (16, [0, 0, 0, 0, 0, 255, 0, 0, 0, 0, 255, 255, 255, 255, 255, 255])
  | 0x31 => some (16, [0, 0, 0, 255, 0, 0, 255, 255, 0, 0, 0, 0, 0, 0, 0, 0])
  | 0x32 => some (16, List.replicate 16 0)
  | 0x33 => some (8, [0xE0, 255, 255, 255, 255, 255, 255, 255])
  | 0x34 => some (8, [0xF0, 0, 0xF0, 255, 0, 0, 0, 0])
  | _ => none

/-- Whether a LENGTH obeys its type's rule. -/
def secLenOk (ty len : Nat) (body : Bytes) : Bool :=
  match ty with
  | 0x01 => len == 208
  | 0x11 => decide (8 ≤ len) && len == 8 + 48 * popCount 4 (fieldAt body 0 1)
  | 0x20 => len % 16 == 0
  | 0x21 => len == 256
  | 0x22 => len % 8 == 0
  | _ => match secShape ty with
    | some (n, _) => len == n
    | none => false

/-- The first byte of a body with a reserved bit set. -/
def reservedByte (ty : Nat) (body : Bytes) : Option Nat :=
  let kvMask (o : Nat) : Nat := let r := (o - 8) % 48; if r = 6 then 0xFC else if r = 7 ∨ 42 ≤ r then 255 else 0
  match secShape ty with
  | none => some 0
  | some (n, mask) => (List.range body.length).find? (fun o =>
      let m := if ty = 0x11 ∧ 8 ≤ o then kvMask o else mask.getD (o % n) 0
      fieldAt body o 1 &&& m != 0)

/-- What else the shape of a record fixes: PARTITION 3 is reserved; FIELD and PORT count up. -/
def shapeByte (ty : Nat) (body : Bytes) : Option Nat :=
  if ty = 0x10 then (if fieldAt body 0 1 % 4 = 3 then some 0 else none)
  else if ty = 0x01 ∨ ty = 0x21 then ((List.range (body.length / 16)).find? (fun i => fieldAt body (16 * i) 1 != i)).map (fun i => 16 * i)
  else none

/-- Whether a SCOPE fits its type. -/
def scopeOk (ty sc : Nat) : Bool :=
  if ty = 0x01 ∨ ty = 0x02 ∨ ty = 0x33 then decide (sc < 8)
  else if ty = 0x10 ∨ ty = 0x11 then decide (sc < 96)
  else sc == devScope

/-- A section as parsed: whether REMOVE is set, and the section. -/
abbrev Parsed := Bool × Section

/-- One section at the front of some bytes: the byte offset within it that breaks the rules, or the section and its length. `prev` is the
section before it. -/
def parseOne (kind : Nat) (prev : Option (Nat × Nat)) (b : Bytes) : Except Nat (Parsed × Nat) :=
  let ty := fieldAt b 0 1
  let fl := fieldAt b 1 1
  let sc := fieldAt b 2 2
  let len := fieldAt b 4 4
  let body := (b.drop 16).take len
  let late : Bool := match prev with
    | some (t, c) => decide (ty < t) || (ty == t && decide (sc ≤ c))
    | none => false
  if b.length < 16 ∨ (secShape ty).isNone then .error 0
  else if 2 ≤ fl ∨ (fl = 1 ∧ (kind ≠ 2 ∨ len ≠ 0)) then .error 1
  else if !scopeOk ty sc then .error 2
  else if late then .error 0
  else if b.length < 16 + len ∨ (fl = 0 ∧ !secLenOk ty len body) then .error 4
  else if fieldAt b 8 8 ≠ 0 then .error 8
  else match (if fl = 1 then none else (reservedByte ty body).or (shapeByte ty body)) with
    | some o => .error (16 + o)
    | none => .ok ((fl == 1, ⟨ty, sc, body, b.take (16 + len)⟩), 16 + len)

/-- Step 3: n sections, the first with index i. Nothing may be left over. -/
def parseAll (kind : Nat) : Nat → Nat → Option (Nat × Nat) → Bytes → Except BondFail (List Parsed)
  | 0, _, _, b => if b.isEmpty then .ok [] else .error ⟨0x08, noSec, 0⟩
  | n + 1, i, prev, b =>
    match parseOne kind prev b with
    | .error o => .error ⟨0x08, i, o⟩
    | .ok (p, len) =>
      match parseAll kind n (i + 1) (some (p.2.type, p.2.scope)) (b.drop len) with
      | .error e => .error e
      | .ok l => .ok (p :: l)

/-! ### Digests and the table a load leaves (R282, R297 step 4) -/

/-- Ascending (TYPE, SCOPE). -/
def secBefore (a b : Section) : Bool := decide (a.type < b.type) || (a.type == b.type && decide (a.scope ≤ b.scope))
/-- A section put in its place. -/
def secInsert (c : Section) : List Section → List Section
  | [] => [c]
  | d :: r => if secBefore c d then c :: d :: r else d :: secInsert c r
/-- A table without a section. -/
def secDrop (l : List Section) (ty sc : Nat) : List Section := l.filter (fun c => !(c.type == ty && c.scope == sc))

/-- The table after an AMEND; the index of a REMOVE that names no section in force. -/
def amendTable (l : List Section) : Nat → List Parsed → Except Nat (List Section)
  | _, [] => .ok l
  | i, (rm, c) :: r =>
    if rm then (if (tabSec l c.type c.scope).isNone then .error i else amendTable (secDrop l c.type c.scope) (i + 1) r)
    else amendTable (secInsert c (secDrop l c.type c.scope)) (i + 1) r

/-- The mandatory sections of a table, TILE sections apart (R283). -/
def mandatory : List (Nat × Nat) :=
  (List.range 8).map (fun p => (0x01, p)) ++ [(0x20, devScope), (0x21, devScope), (0x30, devScope), (0x32, devScope)]

/-- Whether a stream's signature verifies over SM3-256(D' with TARGET and SEQUENCE) (R282). -/
def bondSigned (key : BitVec 512) (d : BitVec 256) (h sig : Bytes) : Bool :=
  Config.sm2Verify key (Config.sm3 (digestBytes d ++ (h.drop 24).take 8 ++ (h.drop 16).take 4)) (BitVec.ofNat 512 (beVal sig))

/-- D, as BND_DIGEST holds it. -/
def State.streamDigest (s : State) : Nat := (List.range 8).foldl (fun a w => a + s.rd F.BND_DIGEST_D w * 2 ^ (32 * w)) 0

/-- Step 4: the table that the load would leave. -/
def State.newTable (s : State) (h sig : Bytes) (ps : List Parsed) : Except BondFail (List Section) :=
  let kind := fieldAt h 14 1
  let old := s.bond.table
  let sign (l : List Section) : Except BondFail (List Section) :=
    match s.quoin.owner with
    | none => .error ⟨0x04, noSec, 0⟩
    | some k => if bondSigned k (if ps.isEmpty then BitVec.ofNat 256 s.streamDigest else tabDigest l) h sig then .ok l else .error ⟨0x05, noSec, 0⟩
  if kind ≠ 0 ∧ fieldAt h 32 32 ≠ s.streamDigest then .error ⟨0x07, noSec, 0⟩
  else if ps.isEmpty then (if kind = 1 then .ok old else sign old)
  else if kind = 1 then
    (match (List.range ps.length).find? (fun i => match ps[i]? with
      | some p => !old.contains p.2
      | none => false) with
    | some i => .error ⟨0x07, i, 0⟩
    | none => .ok old)
  else
    match (if kind = 0 then Except.ok (ps.map (fun p => p.2)) else amendTable old 0 ps) with
    | .error i => .error ⟨0x08, i, 1⟩
    | .ok l =>
      match sign l with
      | .error e => .error e
      | .ok _ =>
        let named := (tabHomes l).map (fun e => e.1)
        if mandatory.any (fun m => (tabSec l m.1 m.2).isNone) then
          .error ⟨0x08, ((List.range ps.length).find? (fun i => match ps[i]? with
            | some p => p.1 && mandatory.contains (p.2.type, p.2.scope)
            | none => false)).getD noSec, 0⟩
        else match (List.range ps.length).find? (fun i => match ps[i]? with
            | some p => p.1 && p.2.type == 0x10 && named.contains p.2.scope
            | none => false) with
          | some i => .error ⟨0x08, i, 0⟩
          | none => .ok l

/-! ### Validation (R297 step 6) -/

/-- A check that fails: code, the section's type and scope, DETAIL. -/
abbrev Verdict := Option (Nat × Nat × Nat × Nat)

/-- The first check that fails. -/
def firstOf {α : Type} (l : List α) (f : α → Verdict) : Verdict := l.findSome? f

/-- ROLE (R284, R20). -/
def State.checkRole (s : State) (l : List Section) : Verdict :=
  firstOf (List.range 8) (fun p => firstOf (List.range 13) (fun f =>
    let x := 13 * p + f
    let role := peRole (pierEntry l p f)
    let sub : Bool := match tabSubst l p with | some (r, _, _) => r == f | none => false
    let compute := ((List.range (f + 1)).filter (fun g => peRole (pierEntry l p g) == 0)).length
    if 3 < role ∨ 12 < compute ∨ (3 ≤ (s.tile x).facts.health ∧ role ≠ 3 ∧ !sub) then some (0x10, 0x01, p, x) else none))

/-- LOGICAL (R284): also TILE and KV sections without a home, and homes without a TILE section. -/
def checkLogical (l : List Section) : Verdict :=
  let homes := tabHomes l
  (firstOf (List.range homes.length) (fun i =>
    let e := homes.getD i (0, 0, 0)
    if 95 < e.1 ∨ peRole (pierEntry l e.2.1 e.2.2) ≠ 0 ∨ (homes.take i).any (fun g => g.1 == e.1) then some (0x11, 0x01, e.2.1, e.1) else none)).or
  ((firstOf l (fun c => if (c.type = 0x10 ∨ c.type = 0x11) ∧ !homes.any (fun g => g.1 == c.scope) then some (0x11, c.type, c.scope, c.scope)
    else none)).or
  (firstOf homes (fun e => if (tabSec l 0x10 e.1).isNone then some (0x11, 0, 0, e.1) else none)))

/-- SUBST (R285). -/
def State.checkSubst (s : State) (l : List Section) : Verdict :=
  firstOf (List.range 8) (fun p => match tabSubst l p with
    | none => none
    | some (r, sp, _) =>
      let role := peRole (pierEntry l p sp)
      if r < 13 ∧ sp < 13 ∧ peRole (pierEntry l p r) = 0 ∧ (s.tile (13 * p + r)).facts.health = 3 ∧ (s.tile (13 * p + sp)).facts.health < 2 ∧
          (role = 1 ∨ role = 2) then none
      else some (0x12, 0x02, p, 13 * p + r))

/-- SIDE (R284). -/
def checkSide (l : List Section) : Verdict :=
  firstOf (List.range 8) (fun p => firstOf (List.range 13) (fun f =>
    let e := pierEntry l p f
    let side := fieldAt e 8 8
    let compute : Bool := peRole e == 0 || (match tabSubst l p with | some (_, sp, _) => sp == f | none => false)
    let top := sliceSize - (if compute then min 6 (tabUnits l) * 2 ^ 29 else 0)
    if side % 64 ≠ 0 ∨ top ≤ side then some (0x13, 0x01, p, 13 * p + f) else none))

/-- PCH (R178). -/
def State.checkPch (s : State) (l : List Section) : Verdict :=
  firstOf (List.range 8) (fun p => match tabBody l 0x33 p with
    | none => none
    | some b =>
      let n := fieldAt b 0 1
      if 16 < n ∨ s.rd F.PCH_STATUS_IN_SERVICE p < n ∨ (n % 2 = 1 ∧ !(s.rd F.FP_PIER_B_CAPS p).testBit 2) then some (0x14, 0x33, p, p) else none)

/-- The piers that hold COMPUTE positions. -/
def computePiers (l : List Section) : List Nat :=
  (List.range 8).filter (fun p => (List.range 13).any (fun f => peRole (pierEntry l p f) == 0))

/-- The capability bits that are on where R295 asks. -/
def State.capsOf (s : State) (l : List Section) : Nat :=
  let ps := computePiers l
  let c := s.capsOn (ps.map (fun p => 13 * p))
  let fine := (List.range 10).all (fun b =>
    let e := bridgeEnds.getD b (0, 0)
    !(ps.contains e.1 || ps.contains e.2) || (s.commonCaps b).testBit 1)
  if fine then c else c &&& 0x1D

/-- CAPS (R286, R295). -/
def State.checkCaps (s : State) (l : List Section) : Verdict :=
  (firstOf (tabHomes l) (fun e =>
    let c := s.rd F.FP_PIER_C_CAPS e.2.1 &&& s.rd F.FP_PIER_COURSE_CAPS e.2.1
    if (fieldAt ((tabBody l 0x10 e.1).getD []) 1 1).testBit 0 ∧ !c.testBit 3 then some (0x15, 0x10, e.1, 3) else none)).or
  (match tabBody l 0x34 devScope with
  | none => none
  | some b =>
    match (List.range 32).find? (fun i => (fieldAt b 4 4).testBit i && !(s.capsOf l).testBit i) with
    | some i => some (0x15, 0x34, devScope, i)
    | none => none)

/-- The record of a port. -/
def portRecOf (l : List Section) (q : Nat) : Bytes := (((tabBody l 0x21 devScope).getD []).drop (16 * q)).take 16
/-- WIDTH of a record. -/
def prWidth (r : Bytes) : Nat := fieldAt r 2 1 % 4
/-- CLASS of a record. -/
def prClass (r : Bytes) : Nat := fieldAt r 2 1 / 4 % 16
/-- DEGRADABLE of a record. -/
def prDegradable (r : Bytes) : Bool := (fieldAt r 2 1).testBit 6

/-- PORT (R289): a partner that differs is a rejection even where the port is degradable; a port without a partner has none that differs. -/
def State.checkPort (s : State) (l : List Section) : Verdict :=
  firstOf (List.range 16) (fun q =>
    let r := portRecOf l q
    let alt := fieldAt r 3 1
    let foreign := prWidth r != 0 && fieldAt r 8 8 != 0 && s.portUp q && (s.port q).partner != fieldAt r 8 8
    if 3 < fieldAt r 1 1 ∨ prWidth r = 3 ∨ (prDegradable r ∧ (alt = 0 ∨ 7 < alt)) ∨ (!prDegradable r ∧ alt ≠ 0) ∨ foreign ∨
        (s.portShort r q ∧ !prDegradable r) then some (0x16, 0x21, devScope, q) else none)

/-- The records of a MODULES section. -/
def moduleRecs (l : List Section) : List Bytes := recordsOf 8 ((tabBody l 0x22 devScope).getD [])
/-- The records of a ROUTE section. -/
def routeRecs (l : List Section) : List Bytes := recordsOf 16 ((tabBody l 0x20 devScope).getD [])

/-- DEGRADE (R300): for every short port, set a has a record for each primary one that uses the port; a MODULES record it supplies uses no
short port; no other engaged set supplies the same key (log entry 47). -/
def State.checkDegrade (s : State) (l : List Section) : Verdict :=
  let short (q : Nat) : Bool := s.portShort (portRecOf l q) q
  let alt (q : Nat) : Nat := fieldAt (portRecOf l q) 3 1
  let engaged := (List.range 16).filter short
  let ms := moduleRecs l
  let rs := routeRecs l
  firstOf engaged (fun q =>
    let others := (engaged.map alt).filter (fun a => a != alt q)
    let needM := (ms.filter (fun r => fieldAt r 3 1 == 0 && fieldAt r 2 1 == q)).map (fun r => fieldAt r 0 2)
    let needR := (rs.filter (fun r => fieldAt r 2 1 == 0 && fieldAt r 1 1 == 0x10 + q)).map (fun r => fieldAt r 0 1)
    let hasM (a m : Nat) : Option Nat := modulePortIn ms a m
    let hasR (a f : Nat) : Bool := rs.any (fun r => fieldAt r 2 1 == a && fieldAt r 0 1 == f && fieldAt r 1 1 == 0x10 + q)
    let badM (m : Nat) : Bool := (match hasM (alt q) m with
      | some p => short p
      | none => true) || others.any (fun a => (hasM a m).isSome)
    let badR (f : Nat) : Bool := !hasR (alt q) f || others.any (fun a => hasR a f)
    if needM.any badM || needR.any badR then some (0x17, 0x21, devScope, q) else none)

/-- Where a path of hops leads from a pier, if its bridges form a chain. -/
def pathEnd : Nat → List (Nat × Bool) → Option Nat
  | p, [] => some p
  | p, (b, _) :: r =>
    match bridgeEnds[b]? with
    | some (lo, hi) => if p = lo then pathEnd hi r else if p = hi then pathEnd lo r else none
    | none => none

/-- Whether a route record is well made (R288). -/
def routeOk (r : Bytes) : Bool :=
  let toward := fieldAt r 1 1
  let dest := if toward < 8 then toward else (toward - 0x10) / 2
  decide (fieldAt r 0 1 < 8) && (decide (toward < 8) || (decide (0x10 ≤ toward) && decide (toward < 0x20))) && decide (fieldAt r 2 1 < 8) &&
    decide (fieldAt r 3 1 < 8) && pathEnd (fieldAt r 0 1) (routeHops r) == some dest

/-- The key of a route record. -/
def routeKey (r : Bytes) : Nat × Nat × Nat := (fieldAt r 2 1, fieldAt r 0 1, fieldAt r 1 1)

/-- ROUTE (R288, R290). A pair that no primary record routes is named by the count of records. -/
def State.checkRoute (s : State) (l : List Section) : Verdict :=
  let rs := routeRecs l
  let ms := moduleRecs l
  let ps := computePiers l
  let short (q : Nat) : Bool := s.portShort (portRecOf l q) q
  let inForce (r : Bytes) : Bool :=
    let q := fieldAt r 1 1 - 0x10
    let sub := decide (0x10 ≤ fieldAt r 1 1) && short q
    fieldAt r 2 1 == (if sub then fieldAt (portRecOf l q) 3 1 else 0)
  let narrow (r : Bytes) : Bool := (routeHops r).any (fun h => decide (s.rd F.BRG_STATUS_WIDTH h.1 < if h.2 then 1 else 2))
  let prim (a b : Nat) : Bool := rs.any (fun r => fieldAt r 2 1 == 0 && fieldAt r 0 1 == a && fieldAt r 1 1 == b)
  (firstOf (List.range rs.length) (fun i =>
    let r := rs.getD i []
    if !routeOk r ∨ (rs.take i).any (fun g => routeKey g == routeKey r) ∨ (inForce r ∧ narrow r) then some (0x18, 0x20, devScope, i) else none)).or
  ((firstOf ps (fun a =>
    if ps.any (fun b => a != b && !prim a b) || (List.range 16).any (fun q => prWidth (portRecOf l q) != 0 && !prim a (0x10 + q)) then
      some (0x18, 0x20, devScope, Config.missingRoute.toNat) else none)).or
  (firstOf (List.range ms.length) (fun i =>
    let r := ms.getD i []
    if 511 < fieldAt r 0 2 ∨ 15 < fieldAt r 2 1 ∨ 7 < fieldAt r 3 1 ∨
        (ms.take i).any (fun g => fieldAt g 3 1 == fieldAt r 3 1 && fieldAt g 0 2 == fieldAt r 0 2) then some (0x18, 0x22, devScope, i) else none)))

/-- BEAT (R291). -/
def checkBeat (l : List Section) : Verdict :=
  match tabBody l 0x30 devScope with
  | none => none
  | some b =>
    let f (o n : Nat) : Nat := fieldAt b o n
    let bad (o : Nat) : Verdict := some (0x19, 0x30, devScope, o)
    let p := beatBound (f 3 1) (f 4 1) + 4
    if f 0 1 < 10 ∨ 14 < f 0 1 then bad 0
    else if 1 < f 1 1 then bad 1
    else if (f 1 1 = 0 ∧ f 2 1 ≠ 0) ∨ (f 1 1 = 1 ∧ (15 < f 2 1 ∨ fieldAt (portRecOf l (f 2 1)) 1 1 ≠ 2)) then bad 2
    else if 16 < f 3 1 then bad 3
    else if 15 < f 4 1 ∨ (List.range 16).any (fun q => prWidth (portRecOf l q) != 0 && decide (f 4 1 < prClass (portRecOf l q))) then bad 4
    else if f 6 2 = 0 ∨ 512 < f 6 2 then bad 6
    else if f 6 2 ≤ f 8 2 then bad 8
    else if 2 ^ f 0 1 / 2 < p ∨ 6250 < p then bad 3
    else none

/-- TWIN (R292). -/
def checkTwin (l : List Section) : Verdict :=
  match tabBody l 0x31 devScope with
  | none => none
  | some b =>
    let f (o n : Nat) : Nat := fieldAt b o n
    let bad (o : Nat) : Verdict := some (0x1A, 0x31, devScope, o)
    let mirror (q : Nat) : Bool := decide (q < 16) && fieldAt (portRecOf l q) 1 1 == 1 && prWidth (portRecOf l q) == 2
    let beat := (tabBody l 0x30 devScope).getD []
    if 6 < f 0 1 then bad 0
    else if !((f 1 1 == 0xFF && f 2 1 == 0xFF) || (f 1 1 != f 2 1 && mirror (f 1 1) && mirror (f 2 1))) then bad 1
    else if f 4 2 = fieldAt beat 8 2 ∨ fieldAt beat 6 2 ≤ f 4 2 then bad 4
    else none

/-- Whether two ranges of addresses overlap. -/
def overlap (a n b m : Nat) : Bool := decide (0 < n) && decide (0 < m) && decide (a < b + m) && decide (b < a + n)

/-- Bytes of a head's pool, shadow and tables. -/
def kvPoolLen (r : Bytes) : Nat := fieldAt r 12 4 * (kvRecPc r * 512)
/-- Bytes of a head's shadow. -/
def kvShadowLen (r : Bytes) : Nat := 64 + 16 * fieldAt r 12 4 + 32 * fieldAt r 40 2

/-- Whether a head's own record breaks R287; `base` is the first address of the tile's slice, `room` its bytes below the mirror region,
`units` its bank units that are not retired. -/
def kvHeadBad (base room units : Nat) (twin : Bool) (h : Nat) (r : Bytes) : Bool :=
  let f (o n : Nat) : Nat := fieldAt r o n
  let inSlice (a n : Nat) : Bool := decide (base ≤ a) && decide (a + n ≤ base + room)
  let mirror := (f 6 1).testBit 1
  decide (2 < f 0 1) || ! [0x04, 0x05, 0x08, 0x18, 0x0C].contains (f 1 1) || ! [0x04, 0x05].contains (f 2 1) || decide (16 < f 3 1) ||
    decide (131072 < f 12 4) || f 16 8 % 512 != 0 || f 24 8 % 512 != 0 || f 32 4 % 16 != 0 || f 36 4 % 32 != 0 || decide (4096 < f 40 2) ||
    !inSlice (f 16 8) (kvPoolLen r) || !inSlice (f 24 8) (kvShadowLen r) || decide (0x1800000 < f 32 4 + 16 * f 12 4) ||
    decide (0x1800000 < f 36 4 + 32 * f 40 2) || decide (4096 * units < f 12 4) || (mirror && (decide (1 < h) || !twin))

/-- Whether two heads' pools or tables overlap, or a shadow and a pool. -/
def kvClash (a b : Bytes) : Bool :=
  let f (r : Bytes) (o n : Nat) : Nat := fieldAt r o n
  let tabs (r : Bytes) : List (Nat × Nat) := [(f r 32 4, 16 * f r 12 4), (f r 36 4, 32 * f r 40 2)]
  overlap (f a 16 8) (kvPoolLen a) (f b 16 8) (kvPoolLen b) ||
    (tabs a).any (fun u => (tabs b).any (fun v => overlap u.1 u.2 v.1 v.2))

/-- KV (R135, R287, R412). -/
def State.checkKv (s : State) (l : List Section) : Verdict :=
  let twin := match tabBody l 0x31 devScope with | some b => fieldAt b 1 1 != 0xFF | none => false
  firstOf (tabHomes l) (fun e =>
    match tabBody l 0x11 e.1 with
    | none => none
    | some b =>
      let x := tabServer l e.2.1 e.2.2
      let base := (e.2.1 <<< 37) + (e.2.2 <<< 33)
      let room := sliceSize - tabUnits l * 2 ^ 29
      let units := 64 - popCount 64 (s.tile x).facts.bkuRetired
      let rs := kvRecords b
      firstOf rs (fun r =>
        if kvHeadBad base room units twin r.1 r.2 ||
            rs.any (fun g => (decide (g.1 < r.1) && kvClash g.2 r.2) || overlap (fieldAt r.2 24 8) (kvShadowLen r.2) (fieldAt g.2 16 8) (kvPoolLen g.2))
        then some (0x1B, 0x11, e.1, r.1) else none))

/-- ENVELOPE (R295). -/
def checkEnvelope (l : List Section) : Verdict :=
  match tabBody l 0x34 devScope with
  | none => none
  | some b =>
    let w := bitsAt (leVal (b.take 4)) 8 12
    if fieldAt b 0 1 % 4 = 3 then some (0x1C, 0x34, devScope, 0)
    else if w < 300 ∨ 2800 < w then some (0x1C, 0x34, devScope, 1)
    else none

/-- Step 6, in the order of R297. -/
def State.validate (s : State) (l : List Section) : Verdict :=
  if s.rd F.SYS_FP_STATUS_VALID 0 = 0 ∨ s.rd F.SYS_BOOT_STATUS_STAGE 0 ≠ 0xA then some (0x09, 0, 0, 0)
  else
    (s.checkRole l).or ((checkLogical l).or ((s.checkSubst l).or ((checkSide l).or ((s.checkPch l).or ((s.checkCaps l).or ((s.checkPort l).or
      ((s.checkDegrade l).or ((s.checkRoute l).or ((checkBeat l).or ((checkTwin l).or ((s.checkKv l).or (checkEnvelope l))))))))))))

/-! ### The load (R296, R297) -/

/-- The positions that a section affects (R296). -/
def State.secTiles (s : State) (ty sc : Nat) : List Nat :=
  if sc = devScope then List.range 104
  else if ty = 0x01 ∨ ty = 0x02 ∨ ty = 0x33 then (List.range 13).map (fun i => 13 * sc + i)
  else match s.tileOfLogical sc with
    | some x => [x]
    | none => []

/-- The lowest position of some with a thread or bank unit RUNNING. -/
def State.busyTile (s : State) (xs : List Nat) : Option Nat :=
  (List.range 104).find? (fun x => xs.contains x && (s.anyRunning x || (s.tile x).units.any (fun u => u.2.st == .running)))

/-- The index of a section in the stream. -/
def secIndex (ps : List Parsed) (ty sc : Nat) : Nat :=
  ((List.range ps.length).find? (fun i => match ps[i]? with
    | some p => p.2.type == ty && p.2.scope == sc
    | none => false)).getD noSec

/-- Steps 2 to 4: the header, the sections and the table the load would leave. -/
def State.bondFront (s : State) (b : Bytes) : Except BondFail (List Parsed × List Section) :=
  let h := b.take 64
  let len := fieldAt h 8 4
  let kind := fieldAt h 14 1
  if b.length < 64 ∨ len < 64 ∨ 1048576 < len ∨ b.length < len then .error ⟨0x02, noSec, 0⟩
  else match s.headerCheck h with
  | some e => .error e
  | none =>
    let stop := if kind = 1 then len else len - 64
    match parseAll kind (fieldAt h 12 2) 0 none ((b.take stop).drop 64) with
    | .error e => .error e
    | .ok ps =>
      match s.newTable h ((b.take len).drop (len - 64)) ps with
      | .error e => .error e
      | .ok l => .ok (ps, l)

/-- Step 5 (R34, R29): both stand whatever follows. -/
def State.bondPending (s : State) : State :=
  (List.range 8).foldl (fun a p => a.replaceWays p) ((List.range 104).foldl (fun a x => a.retireDue x) s)

/-- Steps 6 to 9. The floor plan does not change meanwhile, so step 8 has nothing to do (log entry 48). -/
def State.bondRest (s : State) (h : Bytes) (ps : List Parsed) (l : List Section) : State :=
  let keys := ps.map (fun p => (p.2.type, p.2.scope))
  match s.validate l with
  | some (code, ty, sc, detail) => s.bondEnd code (secIndex ps ty sc) detail
  | none =>
    let kind := fieldAt h 14 1
    match s.busyTile (if kind = 1 then keys.flatMap (fun k => s.secTiles k.1 k.2) else List.range 104) with
    | some x => s.bondEnd 0x01 noSec x
    | none =>
      let s1 : State := { s with bond := { s.bond with pend := some (l, h, keys) } }
      if (zeroTiles l kind keys).isEmpty then s1.bondZeroed else s1.wr F.BND_STATUS_STATE 0 2

/-- The stream has been read (R297). A stream without sections changes nothing once its header and signature pass (R280). -/
def State.bondRead (s : State) (src : HostRead) : State :=
  if s.rd F.BND_STATUS_STATE 0 ≠ 1 then s
  else match src with
  | .fault _ _ => s.bondEnd 0x02 noSec 0
  | .data b =>
    match s.bondFront b with
    | .error e => s.bondEnd e.code e.sec e.detail
    | .ok (ps, l) => if ps.isEmpty then s.bondEnd 0 noSec 0 else (s.bondPending).bondRest (b.take 64) ps l

/-- A write of 1 to LOAD (R296, R297); 0x24_0008 is the offset of BND_CTL. -/
def State.bondStart (s : State) : State :=
  if s.rd F.BND_STATUS_STATE 0 ≠ 0 then s.noteWrite 0x240008
  else (s.commissionStop).wrs 0 [(F.BND_CTL_LOAD, 1), (F.BND_STATUS_STATE, 1)]

/-- BOND_STREAM_LOAD (R297). -/
def execBondStreamLoad (t : Nat) (s : State) : Result := .next ((s.tick t).bondStart)
/-- BOND_STREAM_READ (R297). -/
def execBondStreamRead (t : Nat) (src : HostRead) (s : State) : Result := .next ((s.tick t).bondRead src)
/-- SUBST_ZEROING_DONE (R305). -/
def execSubstZeroingDone (t : Nat) (s : State) : Result :=
  let s1 := s.tick t
  .next (if s1.rd F.BND_STATUS_STATE 0 = 2 then s1.bondZeroed else s1)

end Sys2Proof.Machine
end

