-- ==== Sys2Proof/Machine/Boot.lean ====
section
/-! DEFINITION. Start-up (R357 to R364), module resets and cold starts (R365), the broadcast of microcode (R363), and power-good and
PERST# (R487, R496). -/

namespace Sys2Proof.Machine

/-! ### What a module reset and a cold start lose (R12, R371) -/

/-- Records taken into a layout (R471): a compact area keeps codes 0x000 to 0x3FF, with bins of 24 bits. -/
def scbFit (layout : Nat) (recs : Tab ScbRec) : Tab ScbRec :=
  if layout = 1 then recs
  else recs.filterMap (fun (e : Nat × ScbRec) =>
    if e.1 < 0x400 then some (e.1, { e.2 with hist := e.2.hist.map (fun (h : Nat × Nat) => (h.1, min h.2 0xFFFFFF)) }) else none)

/-- LAYOUT_NEXT takes effect (R471). -/
def State.scbLayout (s : State) : State :=
  let n := s.rd F.SCB_CTL_LAYOUT_NEXT 0
  ({ s with scb := { s.scb with recs := scbFit n s.scb.recs } } : State).wr F.SCB_STATUS_LAYOUT 0 n

/-- A module reset, or a cold start. Slices, mirror regions and shadows are undefined afterwards (R508): unwritten memory. The seal map
and the facts of the part stay; a held freeze of the Scorebook ends (R469). -/
def State.moduleDown (s : State) (cold : Bool) : State :=
  let s0 := s.fpPend.foldl (fun a it => a.writeRepair it) (if s.rd F.SCB_STATUS_FROZEN 0 = 1 then s.scbThawNow true else s)
  let s1 := s0.loseFields (fun f _ => decide (keptRank f.kept ≤ if cold then 5 else 4))
  let q := s1.quoin
  let tiles := s1.tiles.filterMap (fun (e : Nat × Tile) =>
    let v : Tile := { Tile.idle with
      eng := { Engine.idle with remap := e.2.eng.remap }, loads := e.2.loads, facts := { e.2.facts with logical := 0xFFFF } }
    if v = Tile.idle then none else some (e.1, v))
  let s2 : State := { s1 with
    mem := [], ts := [], badLines := [], latent := [], pch := [], tiles := tiles, beat := BeatState.idle, imgA := Image.empty, imgB := Image.empty,
    fpPend := [], remote := [], wins := [], answers := [], seed := 0, headKeys := [], modules := [], ports := [],
    front := ⟨[], [], 0, s1.now, false⟩, bond := ⟨[], [], none, []⟩, twin := Twin.idle, margin := none, lanes := [],
    power := { Power.idle with
      model := s1.power.model, em := if cold then s1.power.emFlash else s1.power.em, tc := if cold then s1.power.tcFlash else s1.power.tc,
      emFlash := s1.power.emFlash, tcFlash := s1.power.tcFlash, fitted := s1.power.fitted, inputOk := s1.power.inputOk },
    quoin := { q with keys := [], meas := List.replicate 16 0, sessions := [], conns := [], deferred := [], zeroing := none, nonceOk := false },
    life := { s1.life with
      powered := true, ready := false, wait := none, resets := [], moving := none, pendingResets := [], mcode := [], rewrite := [], brgWidths := [] } }
  let s3 := s2.wrs 0 [(F.SYS_CFG_LOST_BOND, 1), (F.SYS_CFG_LOST_TILE, 0), (F.SYS_CFG_LOST_BEAT, 0), (F.SYS_CFG_LOST_THERMAL, 0),
    (F.SYS_CFG_LOST_KV, 0), (F.SYS_CFG_LOST_OTHER, 0), (F.SYS_TILE_UNCONF_TILES, 0)]
  ((s3.wr F.SYS_TILE_UNCONF_TILES 1 0).attn F.ATT_PENDING_CONFIG_LOST).scbLayout

/-- The Scorebook at a cold start (R469): the newest flash image whose digest verifies. -/
def State.scbCold (s : State) : State :=
  let best := s.scb.flash.foldl (fun (a : Option ScbImage) g =>
    if !g.good then a else match a with
      | none => some g
      | some h => if h.flushes < g.flushes then some g else some h) none
  let base : Scb := { Scb.empty with rates := s.scb.rates, flash := s.scb.flash, slot := s.scb.slot, flushAt := s.now }
  let s1 := s.wrs 0 [(F.SCB_STATUS_FLUSHING, 0), (F.SCB_STATUS_FROZEN, 0), (F.SCB_STATUS_ASIDE, 0)]
  match best with
  | some g => ({ s1 with scb := { base with recs := g.recs, flushBeat := g.beat } } : State).scbLayout
  | none => (({ s1 with scb := base } : State).scbLayout).wr F.SCB_STATUS_FLUSH_FAIL 0 1

/-! ### Steps 1 and 2 -/

/-- The identity digest (R435). -/
def identDigest : Nat := (Config.sm3 (beBytes 64 (Config.sm2Public Config.identityKey).toNat)).toNat % 2 ^ 64

/-- Start-up stops (R360): its step as a STAGE code, and the pier named. -/
def State.bootFail (s : State) (stage pier : Nat) : State :=
  (s.wrs 0 [(F.SYS_BOOT_STATUS_STAGE, 0xF), (F.SYS_BOOT_STATUS_FAIL_STAGE, stage)]).note 0x009 (stage + 16 * pier)

/-- The digest of the fuse state (R442): ship masks, steppings, SVN_FUSED and owner epoch, in that order (log entry 40). -/
def State.fuseDigest (s : State) (b : Boot) : BitVec 256 :=
  Config.sm3 (s.life.ship.flatMap (leBytes 2) ++ b.steppings.flatMap (fun (p : Nat × Nat × Nat) => leBytes 1 p.1 ++ leBytes 1 p.2.1 ++ leBytes 1 p.2.2) ++
    leBytes 2 (s.rd F.QUO_FW_SVN_FUSED 0) ++ leBytes 2 (s.rd F.QUO_OWNER_EPOCH 0))

/-- An image that step 1 accepts (R438). -/
def State.imageOk (s : State) (f : Option FwImage) : Option FwImage :=
  match f with
  | some g => if s.rd F.QUO_FW_SVN_FUSED 0 ≤ g.svn then some g else none
  | none => none

/-- The images flash holds: what was staged, or what start-up finds; none where it finds one that does not verify (R438, R439). -/
def State.flashImages (s : State) (b : Boot) : Option FwImage × Option FwImage :=
  (b.imageA.map (fun f => s.life.staged.getD f), b.imageB.map (fun f => s.life.imageB.getD f))

/-- Step 1 with an image: measurements 0, 1, 3 and 4, and what the registers show (R442). -/
def State.runImage (s : State) (b : Boot) (f : FwImage) (second fallback : Bool) : State :=
  let s1 := ((s.extendMeas 0 Config.romDigest).extendMeas 1 f.body).extendMeas 3 (s.fuseDigest b)
  let s2 := match s1.quoin.owner with
    | some k => s1.extendMeas 4 (Config.sm3 (beBytes 64 k.toNat ++ leBytes 4 (s1.rd F.QUO_OWNER_EPOCH 0)))
    | none => s1
  { (s2.wrs 0 [(F.SYS_FW_VERSION, f.version.toNat), (F.SYS_FW_IMAGE, bit second), (F.SYS_FW_FALLBACK, bit fallback),
      (F.QUO_FW_SVN_RUNNING, f.svn), (F.QUO_STATUS_OWNED, bit s2.quoin.owner.isSome), (F.QUO_IDENT_IDENT, identDigest)]) with
    life := { s2.life with firmware := some f } }

/-- The path of a start-up (R358). -/
def State.fullPath (s : State) (b : Boot) (f : FwImage) : Bool :=
  s.rd F.SYS_BOOT_CTL_NEXT_FULL 0 == 1 || !b.repairs || !b.training || s.life.version != f.version.toNat + 1 || s.life.cause == 5 ||
    s.life.boot == 0

/-! ### Step 3 -/

/-- The permitted combinations of B-die, C-die and course steppings (R39). -/
def steppingOk (p : Nat × Nat × Nat) : Bool :=
  [(0, 0, 0), (0, 1, 0), (1, 1, 0), (1, 1, 1), (1, 2, 1), (2, 2, 1)].contains p

/-- The pier a stepping check names (R40): the first whose own combination is not permitted, or whose B-die is neither equal nor
adjacent to an earlier pier's. -/
def steppingBad (ps : List (Nat × Nat × Nat)) : Option Nat :=
  (List.range ps.length).find? (fun i =>
    let p := ps.getD i (0, 0, 0)
    !steppingOk p || (ps.take i).any (fun r => decide (r.1 + 1 < p.1) || decide (p.1 + 1 < r.1)))

/-- Registers and entries that fuses, flash and measurement give: field, index, value. What Quoin's registers show is its own state. -/
def State.loadFacts (s : State) (facts : List (Nat × Nat × Nat)) : State :=
  facts.foldl (fun a (e : Nat × Nat × Nat) => match allFields[e.1]? with
    | some f => if f.acc == .ro && e.2.1 < 65536 && !(decide (F.QUO_STATUS_OWNED.id ≤ f.id) && decide (f.id ≤ F.QUO_NONCE_NONCE.id)) then a.wr f e.2.1 e.2.2 else a
    | none => a) s

/-- The capability words that a B-die, a C-die and the courses of a stepping report (R37). -/
def capsB (n : Nat) : Nat := if n = 0 then 0x01 else if n = 1 then 0x07 else 0x17
/-- C-die. -/
def capsC (n : Nat) : Nat := if n = 0 then 0x01 else if n = 1 then 0x09 else 0x19
/-- Courses. -/
def capsCourse (n : Nat) : Nat := if n = 1 then 0x09 else 0x01

/-- The steppings and capability words of the piers' entries (R26, R37). -/
def State.showSteppings (s : State) (ps : List (Nat × Nat × Nat)) : State :=
  (List.range 8).foldl (fun a i =>
    let p := ps.getD i (0, 0, 0)
    a.wrs i [(F.FP_PIER_B_STEPPING, p.1), (F.FP_PIER_C_STEPPING, p.2.1), (F.FP_PIER_COURSE_STEPPING, p.2.2 * 0x55),
      (F.FP_PIER_B_CAPS, capsB p.1), (F.FP_PIER_C_CAPS, capsC p.2.1), (F.FP_PIER_COURSE_CAPS, capsCourse p.2.2)]) s

/-- The bridges at start-up (R325, R362): failed wires take spares, both ends report, the lower width governs. A bridge at a pier whose
B-die has failed is DOWN. -/
def State.bootBridge (s : State) (b : Nat) (r : BridgeBoot) : State :=
  let e := bridgeEnds.getD b (0, 0)
  let dead := s.life.badDies.contains e.1 || s.life.badDies.contains e.2
  let low := if dead then 0 else widthCode r.low
  let high := if dead then 0 else widthCode r.high
  let s1 := (s.bridgeSpares b 0 r.wires.up).bridgeSpares b 1 r.wires.down
  ({ s1 with life := { s1.life with brgWidths := Tab.put 0 s1.life.brgWidths b (low + 4 * high + 16) } } : State).wrs b
    [(F.BRG_STATUS_WIDTH, min low high), (F.BRG_STATUS_TRIES, 1), (F.BRG_STATUS_FINE, bitsAt (s1.commonCaps b) 1 1)]

/-! ### Steps 4 to 6 -/

/-- The value of a vertical or bridge wire group whose spare is recorded as unavailable (R362). -/
def deadSpare (g : Nat) : Nat := g + 65536

/-- A failed vertical connection (R29, R362): its group's spare, or retirement with reason BOND. -/
def State.vertFail (s : State) (x g : Nat) : State :=
  if 3 ≤ (s.tile x).facts.health then s
  else if s.life.spareVert.contains (x, g) ∨ s.repairs.contains ⟨2, x, deadSpare g⟩ then s.retireTile x 2
  else (({ s with life := { s.life with spareVert := s.life.spareVert ++ [(x, g)] } } : State).updFacts x (fun f => { f with
    vertUsed := f.vertUsed + 1 })).fpPushV 1 x 2 g

/-- A healthy part becomes retired for a reason. -/
def State.bootRetire (s : State) (reason : Nat) (xs : List Nat) : State :=
  xs.foldl (fun a x => if 3 ≤ (a.tile x).facts.health then a else a.retireTile x reason) s

/-- Facts of the part from the fuses (R20), and a repair record that is rebuilt (R32). -/
def State.fuseFacts (s : State) (b : Boot) : State :=
  let s1 := if b.repairs then s
    else (({ s with repairs := [], life := { s.life with spareVert := [], spareBrg := [], badDies := [] } } : State).noteFw 6 0)
  let s2 := (List.range 104).foldl (fun a x => if b.repairs then a else a.updFacts x (fun _ => TileFacts.fresh)) s1
  let s3 := if b.ship.length = 8 then { s2 with life := { s2.life with ship := b.ship } } else s2
  let s4 := if s3.life.boot = 0 then (List.range 1328).foldl (fun a i => if sensorSpare i then a.wr F.THM_SENSOR_STATE i 1 else a) s3 else s3
  b.absent.foldl (fun a x => a.updFacts x (fun f => { f with health := 4, role := 3, reason := 1 })) s4

/-- Roles before a Bond Stream (R20): the ship-enabled positions compute, the other healthy ones are spares. -/
def State.bootRoles (s : State) : State :=
  (List.range 104).foldl (fun a x =>
    let on := ((a.life.ship.getD (pierOf x) 0).testBit (posOf x))
    let a1 := a.updFacts x (fun f => { f with role := if 3 ≤ f.health then 3 else if on then 0 else 1, logical := 0xFFFF })
    let a2 := if 3 ≤ (a1.tile x).facts.health then a1.wr F.SLC_APT_PHYS x 15 else a1
    (a2.retireUnits x).readyUnits x) s

/-! ### Steps 8 to 10 -/

/-- A port at start-up (R322): its last attempt, and the attempts used. -/
def State.bootPort (s : State) (q : Nat) (r : Nat × TrainResult) : State :=
  let n := match s.attempt q r.2 with
    | .error _ => if r.2.signal then 3 else r.1 + 1
    | .ok _ => r.1
  ((s.trainPort q).wr F.LNK_STATUS_ATTEMPTS q (min 2 (n - 1))).trainEnd q r.2

/-- Step 9 (R364): lock to what gives it; otherwise the module seeks on. -/
def State.bootBeat (s : State) (b : Option (Option Nat × Nat)) : State :=
  match b with
  | none => s
  | some (via, v) => s.lockBeat (s.baseFor v) via

/-- Step 10 (R26, R381). -/
def State.bootFinish (s : State) (b : Boot) (full : Bool) (f : FwImage) : State :=
  let s0 := s.fpPend.foldl (fun a it => a.writeRepair it) s
  let s1 := s0.fpBuild full
  let s2 := s1.wrs 0 [(F.SYS_BOOT_STATUS_STAGE, 0xA), (F.SYS_BOOT_STATUS_ELAPSED_MS, min 65535 b.elapsed)]
  let s3 := if full then s2.wr F.SYS_BOOT_CTL_NEXT_FULL 0 0 else s2
  let s4 := s3.attAfresh
  ({ s4 with life := { s4.life with ready := true, version := f.version.toNat + 1, cause := 0, boot := 1 } } : State).note 0x003
    (min 65535 b.elapsed)

/-- Steps 3 to 10, once coolant pressure lets them proceed (R493). `retry` is the other image, for a broadcast that fails. -/
def State.bringUp (s : State) (b : Boot) (f : FwImage) (units : List (Nat × Nat)) : State ⊕ State :=
  let full := s.life.full
  let s1 := s.fuseFacts b
  let s2 := { s1 with life := { s1.life with badDies := s1.life.badDies ++ b.badDies.filter (fun p => !s1.life.badDies.contains p) } }
  if s2.life.badDies.contains 0 then .inl (s2.bootFail 2 0)
  else match steppingBad b.steppings with
    | some p => .inl (s2.bootFail 2 p)
    | none =>
      let s3 := (s2.loadFacts b.facts).showSteppings b.steppings
      let s4 := s3.life.badDies.foldl (fun a p => a.bootRetire 0 ((List.range 13).map (fun i => 13 * p + i))) s3
      let s5 := { s4 with repairs := s4.repairs ++
        (b.deadVert.map (fun (e : Nat × Nat) => (⟨2, e.1, deadSpare e.2⟩ : Repair))) ++
        (b.deadBrg.map (fun (e : Nat × Nat × Nat) => (⟨3, e.1, deadSpare (64 * e.2.1 + e.2.2)⟩ : Repair))) }
      let s6 := (List.range 10).foldl (fun a i => match b.bridges[i]? with
        | some r => a.bootBridge i r
        | none => a.bootBridge i ⟨⟨[], []⟩, .main, .main⟩) s5
      let s7 := b.vertical.foldl (fun a (e : Nat × Nat) => a.vertFail e.1 e.2) s6
      let s8 := (s7.bootRetire 5 b.logic).bootRetire 4 b.slices
      let s9 := ({ s8 with quoin := { s8.quoin with granules := [] } } : State).showSeal
      let s10 := s9.wr F.SYS_BOOT_STATUS_SLICE_RETRAINS 0 (if full then 0 else min 255 b.retrained.length)
      let due := (units.map (fun (e : Nat × Nat) => 64 * (e.1 % 104) + e.2 % 64)).filter (fun n =>
        decide ((s10.tile (n / 64)).facts.health < 3) && !(s10.tile (n / 64)).facts.bkuRetired.testBit (n % 64))
      if 64 < due.length then .inr s10
      else
        let s11 := ((s10.retireAll due).wr F.SYS_BOOT_STATUS_BKU_RETIRED_NOW 0 due.length).bootRoles
        let s12 := ((s11.mcodeOn).extendMeas 2 f.mcode).wr F.QUO_STATUS_ALIAS_READY 0 1
        let s13 := (List.range 8).foldl (fun a p => a.replaceWays p) (s12.wr F.PWR_DOMAINS_ON 0 (domainsOn 0))
        let s14 := (List.range 16).foldl (fun a q => match b.ports[q]? with
          | some r => a.bootPort q r
          | none => a) s13
        .inl ((s14.bootBeat b.beat).bootFinish b full f)

/-- Steps 1 and 2 with an image, then the wait for pressure (R493). -/
def State.bootImage (s : State) (b : Boot) (f : FwImage) (second fallback : Bool) : State :=
  let full := s.fullPath b f
  let s1 := s.runImage b f second fallback
  let s2 := { (s1.wr F.SYS_BOOT_STATUS_PATH 0 (bit full)) with life := { s1.life with full := full } }
  if !b.controller then s2.bootFail 1 0xF else s2.wr F.SYS_BOOT_STATUS_STAGE 0 2

/-- Start-up goes on from step 3; a broadcast that fails runs start-up once more on the other image (R363). -/
def State.bootOn (s : State) (b : Boot) : State :=
  match s.life.firmware with
  | none => s
  | some f =>
    match s.bringUp b f b.units with
    | .inl r => r
    | .inr r =>
      let second := r.rd F.SYS_FW_IMAGE 0 == 0
      let imgs := r.flashImages b
      (match r.imageOk (if second then imgs.2 else imgs.1) with
      | none => r.bootFail 6 0xF
      | some g =>
        let r1 := r.bootImage b g second (second && imgs.1.isNone)
        (match r1.bringUp b g b.units2 with
        | .inl v => v
        | .inr v => v.bootFail 6 0xF))

/-- Start-up from step 1 (R357, R360). -/
def State.startUp (s : State) (b : Boot) : State :=
  let imgs := s.flashImages b
  let a := s.imageOk imgs.1
  let bb := s.imageOk imgs.2
  let s0 : State := { s with life := { s.life with staged := s.life.staged.or b.imageA, imageB := s.life.imageB.or b.imageB } }
  let s1 := s0.wr F.QUO_FW_SVN_B 0 ((imgs.2.map (fun f => f.svn)).getD 0)
  match a, bb with
  | none, none => s1.bootFail 0 0xF
  | fa, fb =>
    (match (fa.or fb) with
    | none => s1
    | some f =>
      let s2 := s1.bootImage b f fa.isNone fa.isNone
      if s2.rd F.SYS_BOOT_STATUS_STAGE 0 = 0xF then s2
      else if s2.rd F.THM_STATUS_PRESSURE 0 = 1 then s2.bootOn b
      else { s2 with life := { s2.life with wait := some b } })

/-! ### Module reset and cold start (R365) -/

/-- A module reset with its cause (R375). -/
def State.moduleReset (s : State) (cause : Nat) (b : Boot) : State :=
  if !s.life.powered then s
  else (((s.moduleDown false).wr F.SYS_RESET_STATUS_LAST_KIND 0 4).wr F.SYS_RESET_STATUS_LAST_CAUSE 0 cause).startUp b

/-- Power-good (R487): a cold start, with the cause recorded at power-down. A latched trip holds it off (R403); it needs the main path. -/
def State.coldStart (s : State) (b : Boot) : State :=
  if s.life.powered ∨ s.life.tripped ∨ !s.life.main then s
  else
    let s1 := (({ (s.moduleDown true) with coldAt := s.now } : State)).scbCold
    let s2 : State := { s1 with life := { s1.life with perstSeen := !s1.life.perst && s1.life.perstSeen } }
    ((s2.wr F.SYS_RESET_STATUS_LAST_KIND 0 5).wr F.SYS_RESET_STATUS_LAST_CAUSE 0 s.life.cause).startUp b

/-- POWER_GOOD (R357). -/
def execPowerGood (t : Nat) (boot : Boot) (s : State) : Result := .next ((s.tick t).coldStart boot)
/-- COLD_START (R365): power-good after a power-down whose cause was recorded. -/
def execColdStart (t : Nat) (boot : Boot) (s : State) : Result :=
  let s1 := s.tick t
  .next (if s1.life.cause = 0 then s1 else s1.coldStart boot)
/-- MODULE_RESET (R365): by SYS_RESET, PCIe, the management bus or the watchdog. -/
def execModuleReset (t : Nat) (cause : Fin 8) (boot : Boot) (s : State) : Result :=
  let s1 := s.tick t
  .next (if 1 ≤ cause.val ∧ cause.val ≤ 4 then s1.moduleReset cause.val boot else s1)
/-- WATCHDOG_EXPIRY (R365, R432). -/
def execWatchdogExpiry (t : Nat) (boot : Boot) (s : State) : Result := .next ((s.tick t).moduleReset 4 boot)
/-- RESET_EFFECTER (R497). -/
def execResetEffecter (t : Nat) (boot : Boot) (s : State) : Result := .next ((s.tick t).moduleReset 3 boot)

/-- PERST_ASSERT (R496): a fundamental reset only after a deassertion since power-good. -/
def execPerstAssert (t : Nat) (boot : Boot) (s : State) : Result :=
  let s1 := s.tick t
  let s2 : State := { s1 with life := { s1.life with perst := true } }
  .next (if s1.life.perstSeen ∧ !s1.life.perst then s2.moduleReset 2 boot else s2)
/-- PERST_DEASSERT (R496). -/
def execPerstDeassert (t : Nat) (s : State) : Result :=
  let s1 := s.tick t
  .next { s1 with life := { s1.life with perst := false, perstSeen := s1.life.powered } }

/-! ### Microcode (R363) -/

/-- Whether a chunk's record is sound: its digest, its numbers, and where its words go. -/
def chunkSound (r : Bytes) : Bool :=
  let n := fieldAt r 2 2
  let d := fieldAt r 8 4
  r.length == 304 && r.drop 272 == digestBytes (Config.sm3 (r.take 272)) && decide (2 ≤ n) && decide (n ≤ 128) && decide (fieldAt r 0 2 < n) &&
    fieldAt r 6 2 == 0 && fieldAt r 12 4 == 0 &&
    (match fieldAt r 5 1 with
    | 0 => fieldAt r 0 2 == 0
    | 1 => fieldAt r 0 2 != 0 && decide (d + 32 ≤ 64)
    | 2 => fieldAt r 0 2 != 0 && decide (d + 32 ≤ 3072)
    | _ => false)

/-- A chunk taken by a unit; an image whose digest differs clears the bitmap. A chunk of another image begins afresh. -/
def McodeRx.take (m0 : McodeRx) (r : Bytes) : McodeRx :=
  let n := fieldAt r 2 2
  let v := fieldAt r 4 1
  let m := if m0.count = n ∧ m0.version = v then m0 else ⟨n, v, 0, [], 0, false⟩
  let i := fieldAt r 0 2
  let data := (r.drop 16).take 256
  let m1 := { m with bitmap := m.bitmap ||| 2 ^ i, data := Tab.put [] m.data i data,
                     digest := if i = 0 then leVal (data.take 32) else m.digest }
  if m1.ok ∨ m1.bitmap ≠ 2 ^ n - 1 then m1
  else if (Config.sm3 ((List.range (n - 1)).flatMap (fun j => Tab.get [] m1.data (j + 1)))).toNat = m1.digest then { m1 with ok := true }
  else { m1 with bitmap := 0 }

/-- What a unit has received. -/
def State.mcodeRx (s : State) (x u : Nat) : McodeRx := Tab.get McodeRx.none s.life.mcode (64 * x + u)

/-- Whether every unit that is not retired has confirmed. -/
def State.allConfirmed (s : State) : Bool :=
  (List.range 104).all (fun x => decide (3 ≤ (s.tile x).facts.health) || (List.range 64).all (fun u =>
    (s.tile x).facts.bkuRetired.testBit u || (s.mcodeRx x u).ok))

/-- A chunk reaches a unit; the microcode goes into service once every required unit has confirmed. -/
def State.mcodeChunk (s : State) (x u : Nat) (r : Bytes) : State :=
  if (s.tile x).facts.bkuRetired.testBit u ∨ !chunkSound r then s
  else
    let m := (s.mcodeRx x u).take r
    let s1 : State := { s with life := { s.life with mcode := Tab.put McodeRx.none s.life.mcode (64 * x + u) m } }
    if m.ok && !(s.mcodeRx x u).ok && s1.allConfirmed then
      (List.range 104).foldl (fun a y => if 3 ≤ (a.tile y).facts.health then a
        else (a.wr F.BKU_CTL_MCODE_OK y 1).wr F.BKU_CTL_MCODE_VER y m.version) s1
    else s1

/-- MICROCODE_CHUNK (R363). -/
def execMicrocodeChunk (t : Nat) (x : TileIx) (u : UnitIx) (rec : Bytes) (s : State) : Result :=
  .next ((s.tick t).mcodeChunk x u rec)

end Sys2Proof.Machine
end

