-- ==== Sys2Proof/Machine/Thermal.lean ====
section
/-! DEFINITION. Sensors, the thermal model, caps, keep-warm, the wear ledger, input power, coolant pressure, shutdown and trip (R379 to
R405). Temperatures are in units of 1/16 °C. -/

namespace Sys2Proof.Machine

/-- Clock cycles of a number of milliseconds. -/
def msCycles (n : Nat) : Nat := 4000000 * n

/-! ### Sites and their values (R28, R391) -/

/-- The guard of R391: 3 °C. -/
def guardTemp : Nat := 48

/-- The value of a site with a pair (R391), and whether its members disagree. -/
def State.pairValue (s : State) (l : List Nat) (none : Nat) : Nat × Bool :=
  match s.sensorsOn l with
  | [] => (none, false)
  | [i] => (s.rd F.THM_SENSOR_READING i + guardTemp, false)
  | i :: j :: _ =>
    let a := s.rd F.THM_SENSOR_READING i
    let b := s.rd F.THM_SENSOR_READING j
    if max a b - min a b ≤ guardTemp then ((a + b) / 2, false) else (max a b, true)

/-- The value of a hot spot (R391). -/
def State.hotValue (s : State) (x : Nat) : Nat :=
  (s.pairValue (hotSensors x) (s.rd F.THM_SENSOR_ESTIMATE (12 * x) + guardTemp)).1
/-- The value of a course site: its one active sensor's reading, or the model's estimate with the guard (R391; log entry 43). -/
def State.courseValue (s : State) (x c : Nat) : Nat :=
  match s.sensorsOn (courseSensors x c) with
  | i :: _ => s.rd F.THM_SENSOR_READING i
  | [] => s.rd F.THM_SENSOR_ESTIMATE (12 * x + 4 + c) + guardTemp
/-- The inlet value (R393): 45 °C with no inlet sensor left. -/
def State.inlet (s : State) : Nat := (s.pairValue [1328, 1329] 720).1
/-- The outlet value; with no outlet sensor left the last one stays. -/
def State.outlet (s : State) : Nat := (s.pairValue [1330, 1331] (s.rd F.THM_COOLANT_OUTLET 0)).1

/-- The highest of some values. -/
def maxOf (l : List Nat) : Nat := l.foldl max 0
/-- hot(p) (R394). -/
def State.hotOf (s : State) (p : Nat) : Nat := maxOf ((s.sensedTiles p).map s.hotValue)
/-- The highest value of course c of a pier. -/
def State.courseOf (s : State) (p c : Nat) : Nat := maxOf ((s.sensedTiles p).map (fun x => s.courseValue x c))
/-- course(p) (R394). -/
def State.courseMax (s : State) (p : Nat) : Nat := maxOf ([0, 1, 2, 3].map (s.courseOf p))
/-- The highest B-die reading of a pier. -/
def State.dieOf (s : State) (p : Nat) : Nat := maxOf ((s.sensorsOn (dieSensors p)).map (s.rd F.THM_SENSOR_READING))

/-- The operating limit of the courses of a pier (R389): 105 °C where B2 is declared. -/
def State.courseLimit (s : State) (p : Nat) : Nat := if s.rd F.SLC_STATUS_DECL_BAND (13 * p) = 2 then 1680 else 1520
/-- The operating limit of logic and B-die sites. -/
def hotLimit : Nat := 1760
/-- The margin of THM_CFG. -/
def State.thmMargin (s : State) : Nat := 16 * s.rd F.THM_CFG_MARGIN_C 0

/-! ### Readings shown -/

/-- FLOW (R395), in units of 0.01 L/min: a free value where the outlet is not above the inlet or the quotient does not fit. -/
def State.showFlow (s : State) : State :=
  let d := s.rd F.THM_COOLANT_OUTLET 0 - s.rd F.THM_COOLANT_INLET 0
  let v := 96000 * s.rd F.PWR_STATUS_INPUT_W 0 / (s.rd F.THM_CFG_COOLANT_CV 0 * d)
  if d = 0 ∨ 4095 < v then (s.free.2).wr F.THM_COOLANT_FLOW 0 s.free.1 else s.wr F.THM_COOLANT_FLOW 0 v

/-- The coolant's values. -/
def State.showCoolant (s : State) : State :=
  ((s.wr F.THM_COOLANT_INLET 0 s.inlet).wr F.THM_COOLANT_OUTLET 0 s.outlet).showFlow

/-- Fast sampling of a pier (R390). -/
def State.showFast (s : State) (p : Nat) : State :=
  let hot := maxOf [s.rd F.THM_PIER_HOT p, s.rd F.THM_PIER_FORE_HOT p, s.dieOf p]
  let cs := max (s.rd F.THM_PIER_COURSE p) (s.rd F.THM_PIER_FORE_COURSE p)
  let lim := s.courseLimit p
  let at0 := s.power.coolFromAt.getD p 0
  let put (a : State) (n : Nat) : State := a.updPower (fun w => { w with coolFromAt := w.coolFromAt.set p n })
  if hotLimit ≤ hot + 128 ∨ lim ≤ cs + 128 then (put s 0).wrBit F.THM_STATUS_FAST 0 p true
  else if hot + 160 ≤ hotLimit ∧ cs + 160 ≤ lim then
    let from1 := if at0 = 0 then s.now + 1 else at0
    let s1 := put s from1
    if from1 + msCycles 100 ≤ s.now + 1 then s1.wrBit F.THM_STATUS_FAST 0 p false else s1
  else put s 0

/-- The values of a pier. -/
def State.showPier (s : State) (p : Nat) : State :=
  ((s.wr F.THM_PIER_HOT p (s.hotOf p)).wr F.THM_PIER_COURSE p (s.courseMax p)).showFast p

/-- The refresh band that a slice's courses call for (R181). -/
def bandFor (cur v : Nat) : Nat :=
  if 1520 ≤ v then 2
  else if cur = 2 ∧ 1488 ≤ v then 2
  else if 1360 ≤ v then 1
  else if 1 ≤ cur ∧ 1328 ≤ v then 1
  else 0

/-- A band change waits for its slot time. -/
def State.chooseBand (s : State) (x : Nat) : State :=
  let band := s.rd F.SLC_STATUS_BAND x
  let b := bandFor ((s.tile x).slice.bandDue.getD band) (maxOf ([0, 1, 2, 3].map (s.courseValue x)))
  s.updSlice x (fun l => { l with bandDue := if b = band then none else some b })

/-! ### Retirement of sensors (R392, R393) -/

/-- The spares that may stand in for a sensor. -/
def sparesFor (i : Nat) : List Nat :=
  match sensorSite i with
  | (0, _, _) => [12 * (i / 12) + 2, 12 * (i / 12) + 3]
  | (1, _, _) => [12 * (i / 12) + 8 + i % 4]
  | (2, p, _) => [1248 + 10 * p + 8, 1248 + 10 * p + 9]
  | _ => []

/-- A sensor is retired with reason 1 MODEL or 2 OPEN; a STANDBY spare takes its place at once, lower roster index first (R29, R391). -/
def State.retireSensor (s : State) (i why : Nat) : State :=
  let spare := (sparesFor i).find? (fun j => s.rd F.THM_SENSOR_STATE j == 1)
  let s1 := ((s.wr F.THM_SENSOR_STATE i 2).wr F.THM_SENSOR_STRIKES i 0).fpPushV 5 i 8 (why + 16 * (match spare with | some j => j + 1 | none => 0))
  let s2 := match spare with
    | some j => (s1.wr F.THM_SENSOR_STATE j 0).fpPush 5 j 0
    | none => s1
  let s3 := if s2.guarded then s2.attn F.ATT_PENDING_SENSOR else s2
  if i < 1248 ∧ (s3.sensorsOn (hotSensors (i / 12))).isEmpty then s3.retirePending (i / 12) 6 else s3

/-- The deviation of a sensor from its estimate. -/
def State.deviation (s : State) (i : Nat) : Int := (s.rd F.THM_SENSOR_READING i : Int) - (s.rd F.THM_SENSOR_ESTIMATE i : Nat)

/-- The hot-spot, course and B-die sensors of a pier. -/
def pierSensors (p : Nat) : List Nat := (List.range 156).map (fun k => 156 * p + k) ++ dieSensors p

/-- Whether another active sensor of the pier deviates the same way by more than 2.5 °C (R392). -/
def State.corroborated (s : State) (p i : Nat) : Bool :=
  let d := s.deviation i
  (pierSensors p).any (fun j => j != i && s.sensorOn j && s.rd F.THM_SENSOR_READING j != 0 &&
    decide (40 < (s.deviation j).natAbs) && (decide (0 < s.deviation j) == decide (0 < d)))

/-- The check of a sample (R392). -/
def State.modelCheck (s : State) (p i : Nat) : State :=
  if 80 < (s.deviation i).natAbs then
    (if s.corroborated p i then
      ((s.wrBit F.THM_STATUS_MODEL_ERR 0 p true).wr F.THM_SENSOR_STRIKES i 0).updPower (fun w => { w with errAt := w.errAt.set p (s.now + 1) })
    else if s.rd F.THM_SENSOR_STRIKES i = 2 then s.retireSensor i 1
    else s.wr F.THM_SENSOR_STRIKES i (s.rd F.THM_SENSOR_STRIKES i + 1))
  else s.wr F.THM_SENSOR_STRIKES i 0

/-! ### Power-down (R380, R403) -/

/-- The wear ledger written to flash (R386). -/
def State.ledgerSave (s : State) : State := s.updPower (fun w => { w with emFlash := w.em, tcFlash := w.tc })

/-- Rails are cut: what they carried is lost at once, the Scorebook flushes on hold-up energy, and the next power-up is a cold start with
the cause. `on` is what stays on. -/
def State.powerOff (s : State) (cause on : Nat) (trip : Bool) : State :=
  let s1 := (s.ledgerSave).moduleDown true
  let s2 := s1.scbTrigger (if trip then 2 else 3) trip
  ({ s2 with life := { s2.life with powered := false, cause := cause, wait := none, i3c := none } } : State).wr F.PWR_DOMAINS_ON 0 on

/-- A power fail (R380). -/
def State.powerFail (s : State) : State :=
  let s1 : State := { s with life := { s.life with absentFrom := s.life.absentFrom.or (some s.now) } }
  if s.life.powered then s1.powerOff 6 (2 ^ 25 + 2 ^ 23) false else s1

/-! ### Trips (R402 to R404) -/

/-- Whether a reading is at its trip point (R389). -/
def tripLevel (i r : Nat) : Bool :=
  match (sensorSite i).1 with
  | 0 => decide (1888 ≤ r)
  | 1 => decide (1728 ≤ r)
  | 2 => decide (1888 ≤ r)
  | _ => false

/-- The sensors whose nearness confirms a trip: the other member of the pair, or the course sensor above or below (R402). -/
def State.tripWitnesses (s : State) (i : Nat) : List Nat :=
  let x := i / 12
  match (sensorSite i).1 with
  | 0 => (s.sensorsOn (hotSensors x)).filter (fun j => j != i)
  | 1 => let c := i % 4
         s.sensorsOn ((if 0 < c then courseSensors x (c - 1) else []) ++ (if c < 3 then courseSensors x (c + 1) else []))
  | _ => []

/-- Whether a trip-level reading that holds is corroborated (R402). -/
def State.tripConfirmed (s : State) (i r : Nat) : Bool :=
  (s.tripWitnesses i).any (fun j => let v := s.rd F.THM_SENSOR_READING j; decide (max v r - min v r ≤ 48)) ||
    (let e := s.rd F.THM_SENSOR_ESTIMATE i; decide (max e r - min e r ≤ 80))

/-- A confirmed trip (R403): every rail but the always-on domain is cut, and the trip latches. -/
def State.trip (s : State) (i r : Nat) : State :=
  let s1 := (s.rampDrop).powerOff 5 (2 ^ 25) true
  ({ s1 with life := { s1.life with tripped := true } } : State).wrs 0
    [(F.THM_TRIP_SITE, i), (F.THM_TRIP_VALID, 1), (F.THM_TRIP_READING, r)]

/-! ### A sample -/

/-- The values that a sample bears on. -/
def State.showSite (s : State) (i : Nat) : State :=
  match sensorSite i with
  | (0, p, _) => (if (s.pairValue (hotSensors (i / 12)) 0).2 then s.noteFw 7 i else s).showPier p
  | (1, p, _) => (s.showPier p).chooseBand (i / 12)
  | (2, p, _) => s.showPier p
  | (3, _, _) => (if (s.pairValue [1328, 1329] 0).2 then s.noteFw 7 i else s).showCoolant
  | _ => (if (s.pairValue [1330, 1331] 0).2 then s.noteFw 7 i else s).showCoolant

/-- A sensor is sampled (R390 to R393, R402, R404): a trip first, then the check, then the values. -/
def State.sensorSample (s : State) (i : Nat) (reading : Option (BitVec 12)) : State :=
  let st := s.rd F.THM_SENSOR_STATE i
  let kind := (sensorSite i).1
  if st = 3 then s
  else match reading with
  | none =>
    let s1 := s.wr F.THM_SENSOR_READING i 0
    if st = 0 then (s1.retireSensor i 2).showSite i else s1
  | some v =>
    let r := v.toNat
    let prev := s.rd F.THM_SENSOR_READING i
    let s1 := s.wr F.THM_SENSOR_READING i r
    if st ≠ 0 then s1
    else
      let high := s.life.powered && tripLevel i prev && tripLevel i r
      if high && s1.tripConfirmed i r then s1.trip i r
      else
        let s2 := if high then s1.callClamp 2 0 else s1
        let s3 := if kind < 3 then s2.modelCheck (sensorSite i).2.1 i else s2
        s3.showSite i

/-- SENSOR_SAMPLE (R392). -/
def execSensorSample (t : Nat) (i : Fin 1332) (reading : Option (BitVec 12)) (s : State) : Result :=
  .next ((s.tick t).sensorSample i.val reading)

/-! ### The model (R397) -/

/-- The plan of the frames of the next 5 ms, in W; where there is none the current power is held. -/
def State.planAhead (s : State) (w : Nat) : List Nat :=
  let g := s.img s.activeSlot
  (s.framesAhead (ceilDiv (msBeats 5) s.frameLen) (s.frameNow + 1) (g.sched + 1)).map (fun e => (g.plan e.2).getD w)

/-- The highest forecast of a pier's courses. -/
def courseForecast (p : Nat) (m : List Nat) : Nat := maxOf ([1, 2, 3, 4].map (Config.thermalForecast p m))

/-- The model of a pier runs: observer, prediction, forecast. -/
def State.modelPier (s : State) (meas : ThermalMeas) (p : Nat) : State :=
  let w := meas.powers.getD p 0
  let m := Config.thermalStep p s.power.fitted (s.power.model.getD p [])
    (w :: meas.fillers.getD p 0 :: s.inlet :: s.hotOf p :: ([0, 1, 2, 3].map (s.courseOf p) ++ s.planAhead w))
  let s1 := s.updPower (fun pw => { pw with model := pw.model.set p m })
  let s2 := (s1.wr F.THM_PIER_FORE_HOT p (Config.thermalForecast p m 0)).wr F.THM_PIER_FORE_COURSE p (courseForecast p m)
  let s3 := (pierSensors p).foldl (fun a i => a.wr F.THM_SENSOR_ESTIMATE i (Config.thermalEstimate p m i)) s2
  let s4 := if (s3.power.errAt.getD p 0) + msCycles 100 ≤ s.now then s3.wrBit F.THM_STATUS_MODEL_ERR 0 p false else s3
  s4.showPier p

/-- Whether a forecast of a pier reaches its limit less an amount. -/
def State.foreAt (s : State) (less p : Nat) : Bool :=
  decide (hotLimit ≤ s.rd F.THM_PIER_FORE_HOT p + less) || decide (s.courseLimit p ≤ s.rd F.THM_PIER_FORE_COURSE p + less)

/-- Whether the clamp may be released (R400). -/
def State.mayRelease (s : State) : Bool :=
  decide (4 ≤ s.power.calm) && s.rd F.THM_STATUS_PRESSURE 0 == 1 && s.power.inputOk &&
    (match s.power.clampFrom with
    | some f => decide (f + msBeats 1 ≤ s.beatNow)
    | none => false)

/-- Every 250 µs (R397, R400): the model of every pier, then the clamp, a rest, or the clamp's release. -/
def State.thermalUpdate (s : State) (meas : ThermalMeas) : State :=
  let ps := [0, 1, 2, 3, 4, 5, 6, 7]
  let s1 := ps.foldl (fun a p => a.modelPier meas p) s
  let hot := ps.foldl (fun a p => a + bit (s1.foreAt 0 p) * 2 ^ p) 0
  if hot ≠ 0 then s1.callClamp 1 hot
  else if ps.any (s1.foreAt s1.thmMargin) then
    (if s1.rd F.THM_STATUS_CLAMPED 0 = 1 then s1.updPower (fun w => { w with calm := 0 })
    else (s1.sat F.PWR_COUNT_RESTS_THERMAL 0 1).issueRest)
  else if s1.power.own then
    let s2 := s1.updPower (fun w => { w with calm := w.calm + 1 })
    if s2.mayRelease then (s2.releaseClamp).heldResets else s2
  else s1

/-- THERMAL_MODEL_UPDATE (R397). -/
def execThermalModelUpdate (t : Nat) (meas : ThermalMeas) (s : State) : Result := .next ((s.tick t).thermalUpdate meas)

/-! ### Thermal resistance and caps (R394, R395) -/

/-- A resistance of a steady window in units of 0.0001 °C/W; a free value where the site is not warmer than the inlet. -/
def State.setRth (s : State) (f : Fld) (p hot inlet mean : Nat) : State :=
  if hot < inlet then (s.free.2).wr f p s.free.1 else s.wr f p ((hot - inlet) * 625 / mean)

/-- COOLING_DEGRADED (R395). -/
def State.checkCooling (s : State) : State :=
  let ps := [0, 1, 2, 3, 4, 5, 6, 7]
  let isOver (num den : Nat) (p : Nat) : Bool :=
    decide (num * s.rd F.THM_RTH_NOM_J p < den * s.rd F.THM_RTH_RTH_J p) || decide (num * s.rd F.THM_RTH_NOM_M p < den * s.rd F.THM_RTH_RTH_M p)
  if ps.any (isOver 3 2) then (s.wr F.THM_STATUS_COOLING_DEGRADED 0 1).attn F.ATT_PENDING_COOLING_DEGRADED
  else if ps.any (isOver 7 5) then s
  else s.wr F.THM_STATUS_COOLING_DEGRADED 0 0

/-- A window of one pier (R394). -/
def State.rthPier (s : State) (p : Nat) (w : RthWindow) : State :=
  if 10 * (w.pmax - w.pmin) ≤ w.pmean ∧ w.imax - w.imin ≤ 8 ∧ 100 ≤ w.pmean then
    (s.setRth F.THM_RTH_RTH_J p w.hot w.imean w.pmean).setRth F.THM_RTH_RTH_M p w.course w.imean w.pmean
  else s

/-- The windows of the piers. -/
def State.rthWindow (s : State) (win : List RthWindow) : State :=
  ((List.range 8).foldl (fun a p => match win[p]? with
    | some w => a.rthPier p w
    | none => a) s).checkCooling

/-- RTH_WINDOW (R394). -/
def execRthWindow (t : Nat) (win : List RthWindow) (s : State) : Result := .next ((s.tick t).rthWindow win)

/-- What a resistance allows, in W; a free value where it is 0. -/
def State.capLaw (s : State) (limit rth : Nat) : Nat × State :=
  if rth = 0 then s.free else ((limit - s.thmMargin - s.rd F.THM_COOLANT_INLET 0) * 625 / rth, s)

/-- The cap of a pier (R394); after a clamp it rises by at most 5 % at each update (R400). -/
def State.capPier (s : State) (p : Nat) : State :=
  let j := s.capLaw hotLimit (s.rd F.THM_RTH_RTH_J p)
  let m := j.2.capLaw (s.courseLimit p) (s.rd F.THM_RTH_RTH_M p)
  let law := min (min j.1 m.1) (s.rd F.PWR_RAIL_LIMIT_W p)
  let h := s.power.half.getD p 0
  let up := h * 21 / 20
  if h = 0 ∨ law ≤ up / 1024 then (m.2.updPower (fun w => { w with half := w.half.set p 0 })).wr F.THM_PIER_CAP p law
  else (m.2.updPower (fun w => { w with half := w.half.set p (max (h + 1) up) })).wr F.THM_PIER_CAP p (up / 1024)

/-- Every 10 ms: the caps, then the ramp's limit (R384). -/
def State.capUpdate (s : State) : State := (([0, 1, 2, 3, 4, 5, 6, 7].foldl (fun a p => a.capPier p) s)).rampLimit

/-- CAP_UPDATE (R394). -/
def execCapUpdate (t : Nat) (s : State) : Result := .next ((s.tick t).capUpdate)

/-- Keep-warm (R388): the need of each pier rises or falls by 10 W against the floor. -/
def State.keepWarm (s : State) : State :=
  let need (p : Nat) : Nat :=
    let old := s.power.warm.getD p 0
    let xs := s.sensedTiles p
    let sum := (xs.map s.hotValue).foldl (· + ·) 0
    if sum < 16 * s.rd F.THM_CFG_KEEP_WARM_C 0 * xs.length then min 80 (old + 10) else old - 10
  let live := s.rd F.THM_CFG_KEEP_WARM_EN 0 == 1 && decide (s.rd F.SYS_POWER_STATE 0 < 2)
  if s.rd F.THM_STATUS_CLAMPED 0 = 1 then s
  else
    let s1 := s.updPower (fun w => { w with warm := [0, 1, 2, 3, 4, 5, 6, 7].map (fun p => if live then need p else 0) })
    s1.setFiller (if s.rd F.BEAT_RAMP_ENABLE 0 = 1 then s.rd F.BEAT_RAMP_TARGET 0 - s.planNow else 0)

/-- KEEP_WARM_UPDATE (R388). -/
def execKeepWarmUpdate (t : Nat) (s : State) : Result := .next ((s.tick t).keepWarm)

/-! ### The wear ledger (R386) -/

/-- What a rail accrues in a second, in units of 2^-20: the square of its current ratio times 2 to the power of (t - 85) / 10. The product
is taken down to the unit (log entry 41). -/
def emStress (r : RailStress) : Nat :=
  let e : Int := (r.temp : Int) - 1360
  let v := r.ratio ^ 2 * 16 * fxExp ((e % 160).toNat * fxLn2 / 160)
  let q := e / 160
  if 0 ≤ q then v * 2 ^ q.toNat / fxOne else v / (fxOne * 2 ^ (-q).toNat)

/-- What a half cycle of an amplitude adds, in units of 2^-20: half of the fourth power of a / 60 °C, from 10 °C up. -/
def tcStress (a : Nat) : Nat := if a < 160 then 0 else a ^ 4 * 2 ^ 19 / 960 ^ 4

/-- The ledger's figures shown: used against plan, in units of 2^-24. -/
def State.ledgerShow (s : State) (hours : Nat) : State :=
  let w := s.power
  let used := max (maxOf w.em * 2 ^ 24 / Config.emLife.toNat) (w.tc * 2 ^ 24 / Config.tcLife.toNat)
  let plan := hours * 2 ^ 24 / 61320
  let bad : Bool := decide (plan < used)
  let s1 := s.wrs 0 [(F.PWR_LEDGER_USED, min used (2 ^ 24 - 1)), (F.PWR_LEDGER_PLAN, min plan (2 ^ 24 - 1)), (F.PWR_LEDGER_WITHHELD, bit bad),
    (F.PWR_STATUS_LEDGER_OK, bit (!bad))]
  (if bad then s1.attn F.ATT_PENDING_LEDGER else s1).rampLimit

/-- Every second: 16 rails and the half cycles closed. -/
def State.ledgerUpdate (s : State) (rails : List RailStress) (cycles : List Nat) (hours : Nat) : State :=
  (s.updPower (fun w => { w with
    em := (List.range 16).map (fun r => w.em.getD r 0 + (match rails[r]? with | some v => emStress v | none => 0)),
    tc := w.tc + (cycles.map tcStress).foldl (· + ·) 0 })).ledgerShow hours

/-- LEDGER_UPDATE (R386). -/
def execLedgerUpdate (t : Nat) (rails : List RailStress) (cycles : List Nat) (hours : Nat) (s : State) : Result :=
  .next ((s.tick t).ledgerUpdate rails cycles hours)
/-- LEDGER_WRITE_BACK (R386). -/
def execLedgerWriteBack (t : Nat) (s : State) : Result := .next ((s.tick t).ledgerSave)

/-! ### Hold-up, input and phases (R379 to R382) -/

/-- HOLDUP_CHECK (R381). -/
def execHoldupCheck (t : Nat) (energy : BitVec 12) (ok : Bool) (s : State) : Result :=
  let s1 := (s.tick t).wrs 0 [(F.PWR_HOLDUP_ENERGY, energy.toNat), (F.PWR_HOLDUP_OK, bit ok)]
  .next (if ok then s1 else s1.attn F.ATT_PENDING_HOLDUP)

/-- POWER_FAIL (R380). -/
def execPowerFail (t : Nat) (s : State) : Result := .next ((s.tick t).powerFail)

/-- The input voltage in units of 0.25 V (R380, R385): 44 V to 60 V is the operating range. -/
def State.inputRange (s : State) (v : Nat) : State :=
  let ok : Bool := decide (176 ≤ v) && decide (v ≤ 240)
  let s1 := (s.wr F.PWR_STATUS_INPUT_V 0 v).updPower (fun w => { w with inputOk := ok })
  let s2 : State := if 160 ≤ v then { s1 with life := { s1.life with absentFrom := none } } else s1
  if ok then s2 else (s2.attn F.ATT_PENDING_INPUT).rampLimit

/-- INPUT_RANGE_CHANGE (R385). -/
def execInputRangeChange (t : Nat) (volts : BitVec 8) (s : State) : Result := .next ((s.tick t).inputRange volts.toNat)

/-- INPUT_OVERPOWER (R380, R398). -/
def execInputOverpower (t : Nat) (s : State) : Result :=
  let s1 := s.tick t
  .next (if s1.life.powered then s1.callClamp 4 0 else s1)

/-- A phase fails (R29, R379): a spare replaces it, or the rail runs a phase short. -/
def State.phaseFail (s : State) (course : Bool) (p : Nat) : State :=
  let spare := s.sparePhases p course
  let s1 := s.fpPush 2 (if course then 8 + p else p) 9
  if spare ≠ 0 then s1
  else if course then (s1.wr F.PWR_RAIL_PHASES_COURSE p (s.rd F.PWR_RAIL_PHASES_COURSE p - 1)).attn F.ATT_PENDING_PHASE
  else
    let n := s.rd F.PWR_RAIL_PHASES_COMPUTE p - 1
    ((s1.wr F.PWR_RAIL_PHASES_COMPUTE p n).wr F.PWR_RAIL_LIMIT_W p (30 * n)).attn F.ATT_PENDING_PHASE

/-- PHASE_FAIL (R379). -/
def execPhaseFail (t : Nat) (course : Bool) (p : PierIx) (s : State) : Result := .next ((s.tick t).phaseFail course p.val)

/-! ### Coolant pressure and shutdown (R398, R401, R493) -/

/-- PRESSURE changes; its timers count from now. -/
def State.setPressure (s : State) (on : Bool) : State :=
  ({ s with life := { s.life with pressureAt := s.now } } : State).wr F.THM_STATUS_PRESSURE 0 (bit on)

/-- Pressure lets a start-up that waits proceed (R493). -/
def State.pressureOn (s : State) : State :=
  let s1 := s.setPressure true
  match s1.life.wait with
  | some b => ({ s1 with life := { s1.life with wait := none } } : State).bootOn b
  | none => s1

/-- COOLANT_PRESSURE_ASSERT (R493). -/
def execCoolantPressureAssert (t : Nat) (s : State) : Result := .next ((s.tick t).pressureOn)
/-- COOLANT_PRESSURE_DEASSERT (R493). -/
def execCoolantPressureDeassert (t : Nat) (s : State) : Result := .next ((s.tick t).setPressure false)

/-- Whether pressure has been deasserted for a number of milliseconds in a module that has started. -/
def State.dryFor (s : State) (ms : Nat) : Bool :=
  s.rd F.SYS_BOOT_STATUS_STAGE 0 == 0xA && s.rd F.THM_STATUS_PRESSURE 0 == 0 && decide (s.life.pressureAt + msCycles ms ≤ s.now)

/-- PRESSURE_CLAMP_TIMEOUT (R398). -/
def execPressureClampTimeout (t : Nat) (s : State) : Result :=
  let s1 := s.tick t
  .next (if s1.dryFor 1 then s1.callClamp 3 0 else s1)

/-- Whether a clamp has lasted 1 s from b_f (R401). -/
def State.clampLong (s : State) : Bool :=
  s.rd F.THM_STATUS_CLAMPED 0 == 1 && (match s.power.clampFrom with
    | some f => decide (f + msBeats 1000 ≤ s.beatNow)
    | none => false)

/-- Resets that a clamp held are dropped and counted (R405). -/
def State.dropResets (s : State) : State :=
  s.life.pendingResets.foldl (fun a k => (a.sat F.SYS_RESET_STATUS_ABSORBED 0 1).note 0x004 (resetCode k))
    ({ s with life := { s.life with pendingResets := [] } } : State)

/-- A coolant-loss shutdown (R401): HOLD and UNCLAMP to the domain, then what entry to standby loses. -/
def State.shutdown (s : State) : State :=
  if (!s.dryFor 200 && !s.clampLong) || s.rd F.THM_STATUS_SHUTDOWN 0 == 1 then s
  else
    let s1 := ((s.requestHold).dropResets).releaseClamp
    let s2 := ((s1.commissionStop).abandonLoad 3).rampDrop
    let s3 := (s2.abortSubs).wr F.SYS_POWER_MOVING 0 0
    let s4 : State := { s3 with life := { s3.life with moving := none } }
    let s5 := if s4.rd F.SYS_POWER_STATE 0 < 2 then s4.loseStandby.wr F.SYS_POWER_STATE 0 2 else s4
    (((s5.wr F.PWR_DOMAINS_ON 0 (domainsOn (s5.rd F.SYS_POWER_STATE 0))).setFiller 0).wr F.THM_STATUS_SHUTDOWN 0 1).evalLost

/-- COOLANT_LOSS_SHUTDOWN (R401). -/
def execCoolantLossShutdown (t : Nat) (s : State) : Result := .next ((s.tick t).shutdown)

/-! ### Boost (R382) -/

/-- BOOST_INTERVAL_END (R382): 2 s after the interval opened. -/
def execBoostIntervalEnd (t : Nat) (s : State) : Result :=
  let s1 := s.tick t
  .next (match s1.power.boostFrom with
    | some f => if f + msBeats 2000 ≤ s1.beatNow then (s1.boostEnd).rampLimit else s1
    | none => s1)
/-- COOLDOWN_END (R382): 8 s without a frame above SUSTAINED_W. -/
def execCooldownEnd (t : Nat) (s : State) : Result :=
  let s1 := s.tick t
  .next (if s1.power.coolFrom.isSome ∧ s1.power.lastHigh + msBeats 8000 ≤ s1.beatNow then
    (s1.updPower (fun w => { w with coolFrom := none })).showPower else s1)

/-! ### Commissioning (R396) -/

/-- The step test begins, or FAIL: no image may be loaded, no clamp in force, the compute rails on. -/
def State.commissionStart (s : State) : State :=
  if s.power.commission.isSome then s
  else if s.imgA.loaded ∨ s.imgB.loaded ∨ s.rd F.THM_STATUS_CLAMPED 0 = 1 ∨ 2 ≤ s.rd F.SYS_POWER_STATE 0 ∨ s.rd F.SYS_BOOT_STATUS_STAGE 0 ≠ 0xA ∨
      !s.life.resets.isEmpty ∨ s.rd F.BND_STATUS_STATE 0 ≠ 0 then s.wr F.THM_COMMISSION_FAIL 0 1
  else (s.updPower (fun w => { w with commission := some s.now })).wrs 0 [(F.THM_COMMISSION_START, 1), (F.THM_COMMISSION_RUNNING, 1)]

/-- COMMISSION_START (R396). -/
def execCommissionStart (t : Nat) (s : State) : Result := .next ((s.tick t).commissionStart)

/-- The step test ends: the first 16 numbers of `fit` are the nominal rth_j and rth_m of piers 0 to 7, the rest is the model. -/
def State.commissionDone (s : State) (fit : Option (List Nat)) : State :=
  if s.power.commission.isNone then s
  else match fit with
  | none => s.commissionStop
  | some l =>
    let s1 := (List.range 8).foldl (fun a p => (a.wr F.THM_RTH_NOM_J p (l.getD (2 * p) 0)).wr F.THM_RTH_NOM_M p (l.getD (2 * p + 1) 0)) s
    ((s1.updPower (fun w => { w with commission := none, fitted := l.drop 16 })).wrs 0 [(F.THM_STATUS_COMMISSIONED, 1), (F.THM_COMMISSION_START, 0),
      (F.THM_COMMISSION_RUNNING, 0), (F.THM_COMMISSION_DONE, 1)]).checkCooling

/-- COMMISSION_DONE (R396). -/
def execCommissionDone (t : Nat) (fit : Option (List Nat)) (s : State) : Result := .next ((s.tick t).commissionDone fit)

/-! ### The trip's record and latch (R403, R406) -/

/-- TRIP_RECORD_CLEAR (R406). -/
def execTripRecordClear (t : Nat) (s : State) : Result :=
  .next ((s.tick t).wrs 0 [(F.THM_TRIP_VALID, 0), (F.THM_TRIP_SITE, 0), (F.THM_TRIP_READING, 0)])

/-- TRIP_LATCH_RELEASE (R403): input power has been absent for 1 s. -/
def execTripLatchRelease (t : Nat) (s : State) : Result :=
  let s1 := s.tick t
  .next (match s1.life.absentFrom with
    | some c => if c + msCycles 1000 ≤ s1.now then { s1 with life := { s1.life with tripped := false } } else s1
    | none => s1)

end Sys2Proof.Machine
end

