-- ==== Sys2Proof/Machine/Connector.lean ====
section
/-! DEFINITION. The connector and its hot-swap controller (R487, R488), surprise removal (R355), and management over I3C (R497). -/

namespace Sys2Proof.Machine

/-- MATE_MAKE (R487): both contacts are made. -/
def execMateMake (t : Nat) (s : State) : Result :=
  let s1 := s.tick t
  .next { s1 with life := { s1.life with mate := s1.life.mate.or (some s1.now) } }

/-- PRECHARGE_START (R487): 50 ms after the contacts were made. -/
def execPrechargeStart (t : Nat) (s : State) : Result :=
  let s1 := s.tick t
  .next (match s1.life.mate with
    | some c => if c + msCycles 50 ≤ s1.now ∧ s1.life.precharge.isNone ∧ !s1.life.main then
        { s1 with life := { s1.life with precharge := some s1.now, absentFrom := none } } else s1
    | none => s1)

/-- PRECHARGE_END (R487): the main path closes. -/
def execPrechargeEnd (t : Nat) (s : State) : Result :=
  let s1 := s.tick t
  .next (if s1.life.precharge.isSome then { s1 with life := { s1.life with precharge := none, main := true } } else s1)

/-- The contacts break: both paths open, as a power fail (R487, R488). -/
def State.unmate (s : State) : State :=
  ({ s with life := { s.life with mate := none, precharge := none, main := false } } : State).powerFail

/-- MATE_BREAK (R488). -/
def execMateBreak (t : Nat) (s : State) : Result := .next ((s.tick t).unmate)
/-- SURPRISE_REMOVAL (R355): the contacts break; that host reads return all ones is the host's own port. -/
def execSurpriseRemoval (t : Nat) (s : State) : Result := .next ((s.tick t).unmate)

/-- The last step of start-up that is complete (R360). -/
def State.stageDone (s : State) : Nat :=
  if s.rd F.SYS_BOOT_STATUS_STAGE 0 = 0xF then s.rd F.SYS_BOOT_STATUS_FAIL_STAGE 0 else s.rd F.SYS_BOOT_STATUS_STAGE 0

/-- Whether the I3C target answers (R497). -/
def State.mgmtUp (s : State) : Bool := s.life.powered && decide (1 ≤ s.stageDone)

/-- ENTDAA (R497). -/
def execEntdaa (t : Nat) (addr : BitVec 7) (s : State) : Result :=
  let s1 := s.tick t
  .next (if s1.mgmtUp then { s1 with life := { s1.life with i3c := some addr.toNat } } else s1)

/-- What a monitoring sensor reads: a numeric one its register, a state sensor whether a cause of its class is set (R338, R497). -/
def State.pldmValue (s : State) : Pldm → Option Nat
  | .numeric n => some (match n.val with
    | 0 => s.rd F.THM_COOLANT_INLET 0
    | 1 => s.rd F.THM_COOLANT_OUTLET 0
    | 2 => s.rd F.THM_COOLANT_FLOW 0
    | 3 => s.rd F.PWR_STATUS_INPUT_V 0
    | 4 => s.rd F.PWR_STATUS_INPUT_W 0
    | k => if k < 13 then s.rd F.THM_PIER_HOT (k - 5) else s.rd F.THM_PIER_COURSE (k - 13))
  | .state c => some (match attnClasses.find? (fun e => e.1 == c.val) with
    | some e => bit (e.2.any (fun f => s.rd f 0 == 1))
    | none => 0)
  | .other _ => none

/-- The answer to a PLDM request: a completion code (0 success, 4 ERROR_NOT_READY, 5 for a command outside these), then the value (log entry
44). -/
def State.pldmAnswer (s : State) (req : Pldm) : Bytes :=
  if s.stageDone < 2 then [4]
  else match s.pldmValue req with
    | some v => 0 :: leBytes 2 v
    | none => [5]

/-- PLDM_REQUEST (R497). -/
def execPldmRequest (t : Nat) (req : Pldm) (s : State) : Result :=
  let s1 := s.tick t
  .next (if s1.mgmtUp then { s1 with out := s1.out ++ [.response 2 (s1.pldmAnswer req)] } else s1)

end Sys2Proof.Machine
end

