-- ==== Sys2Proof/Machine/HostOps.lean ====
section
/-! DEFINITION. The rings (R342 to R350) and what ends submissions at a reset of the PCIe function (R354). -/

namespace Sys2Proof.Machine

/-! ### Fields of a submission record (R344) -/

/-- OP. -/
def subOp (b : Bytes) : Nat := fieldAt b 0 1
/-- FENCE. -/
def subFence (b : Bytes) : Bool := (fieldAt b 1 1).testBit 0
/-- SEALED. -/
def subSealed (b : Bytes) : Bool := (fieldAt b 1 1).testBit 1
/-- SLOT. -/
def subSlot (b : Bytes) : Nat := bit ((fieldAt b 1 1).testBit 2)
/-- DEV_TS. -/
def subTs (b : Bytes) : Bool := (fieldAt b 1 1).testBit 3
/-- LTILE. -/
def subTile (b : Bytes) : Nat := fieldAt b 2 2
/-- LENGTH. -/
def subLen (b : Bytes) : Nat := fieldAt b 4 4
/-- HOST_ADDR. -/
def subHost (b : Bytes) : Nat := fieldAt b 16 8
/-- DEV_ADDR. -/
def subDev (b : Bytes) : Nat := fieldAt b 24 8
/-- FRAME. -/
def subFrame (b : Bytes) : Nat := fieldAt b 32 4
/-- KEY_ID. -/
def subKey (b : Bytes) : Nat := fieldAt b 36 4

/-- Whether an OP moves host memory (R354). -/
def opMoves (op : Nat) : Bool := op == 2 || op == 3 || op == 4 || op == 7 || op == 8
/-- Whether an OP runs alone (R346). -/
def opAlone (op : Nat) : Bool := decide (4 ≤ op) && decide (op ≤ 9)

/-- The field of a malformed submission that SUB_FORMAT names (R345, R348). -/
def State.subBad (s : State) (b : Bytes) : Option Nat :=
  let op := subOp b
  let copy := op == 2 || op == 3
  let n := if subSealed b then fieldAt b 4 4 else subLen b
  if op = 0 ∨ 9 < op then some 0
  else if fieldAt b 1 1 / 16 ≠ 0 ∨ (subSealed b ∧ op ≠ 2) ∨ (subSlot b = 1 ∧ !opAlone op) ∨ (subTs b ∧ !copy) ∨
      (subSealed b ∧ subTs b) then some 1
  else if (subTs b ∧ (95 < subTile b ∨ (s.tileOfLogical (subTile b)).isNone)) ∨ (!subTs b ∧ subTile b ≠ 0) then some 2
  else if copy ∧ subTs b ∧ (subDev b >>> 24 ≠ 0 ∨ tsSize < subDev b + n) then some 24
  else if copy ∧ !subTs b ∧ (subDev b >>> 40 ≠ 0 ∨ (!subSealed b ∧ 2 ^ 40 < subDev b + n)) then some 24
  else if (b.drop 40).any (fun v => v != 0) then some 40
  else none

/-! ### The reply ring -/

/-- Reply entries the host has returned. -/
def State.freeReplies (s : State) : Nat :=
  2 ^ s.rd F.FRONT_RQ_SIZE_LOG2 0 - (s.rd F.FRONT_RQ_PTRS_TAIL 0 + 2 ^ 32 - s.rd F.FRONT_RQ_PTRS_HEAD 0) % 2 ^ 32

/-- A ring error (R350). -/
def State.ringErr (s : State) (cause : Nat) : State :=
  let s1 := (s.wr F.FRONT_RING_CTL_RING_ERR 0 1).wr F.FRONT_RING_CTL_ERR_CAUSE 0 cause
  { s1 with front := { s1.front with stopped := true } }

/-- OPEN clears: replies that wait are dropped and counted (R343). -/
def State.ringClose (s : State) : State :=
  let s1 := s.front.replies.foldl (fun a r => a.note 0x007 r.op) s
  ({ s1 with front := { s1.front with replies := [] } } : State).wr F.FRONT_RING_CTL_OPEN 0 0

/-- A record of the reply ring (R347). -/
def State.replyBytes (s : State) (kind op seq tag code detail : Nat) : Bytes :=
  let i := s.rd F.FRONT_RQ_PTRS_TAIL 0
  let phase := 1 - (i >>> s.rd F.FRONT_RQ_SIZE_LOG2 0) % 2
  leBytes 2 (s.statusField code) ++ leBytes 1 kind ++ leBytes 1 op ++ leBytes 4 seq ++ leBytes 8 tag ++
    leBytes 8 (if s.beatHolds then s.beatNow else 0) ++ leBytes 4 detail ++ leBytes 3 0 ++ leBytes 1 phase

/-- A record written to the reply ring: `ok` says that PCIe took it (R347, R350). -/
def State.writeReply (s : State) (ok : Bool) (kind op seq tag code detail : Nat) : State :=
  if !ok then (s.ringErr 3).ringClose
  else
    let i := s.rd F.FRONT_RQ_PTRS_TAIL 0
    let a := s.rd F.FRONT_RQ_BASE 0 * 4096 + 32 * (i % 2 ^ s.rd F.FRONT_RQ_SIZE_LOG2 0)
    let s1 : State := { s with
      out := s.out ++ [.hostWrite a (s.replyBytes kind op seq tag code detail)]
      front := { s.front with lastClass := s.attnClass, lastAt := s.now } }
    let s2 := s1.wr F.FRONT_RQ_PTRS_TAIL 0 ((i + 1) % 2 ^ 32)
    if kind = 1 then s2.sat F.FRONT_COUNT_HEARTBEATS 0 1
    else s2.wr F.FRONT_COUNT_COMPLETED 0 ((s2.rd F.FRONT_COUNT_COMPLETED 0 + 1) % 2 ^ 32)

/-! ### Submissions in progress -/

/-- A submission that is in progress and may start (R344, R346): FENCE and lone operations wait for every earlier one, and the
later ones for them; a copy to or from a tile store that is being zeroed is held (R56). -/
def State.ready (s : State) (i op : Nat) : Option Sub :=
  match s.front.subs.find? (fun u => u.idx == i) with
  | none => none
  | some u =>
    let before := s.front.subs.takeWhile (fun v => v.idx != i)
    if subOp u.body ≠ op then none
    else if (opAlone op || subFence u.body) && !before.isEmpty then none
    else if before.any (fun v => opAlone (subOp v.body)) then none
    else if subTs u.body && ((s.tileOfLogical (subTile u.body)).any (fun x => (s.tile x).eng.zeroing)) then none
    else some u

/-- The frame a FRAME field names, if it lies at least two frames ahead (R348, LATE). -/
def State.frameNamed (s : State) (f : Nat) : Option Nat :=
  let ahead := (f + 2 ^ 32 - s.frameNow % 2 ^ 32) % 2 ^ 32
  if ahead < 2 ∨ 2 ^ 31 ≤ ahead then none else some (s.frameNow + ahead)

/-- START and STOP (R345, R348): the code, DETAIL, and the state. -/
def State.startStop (s : State) (slot frame : Nat) (start : Bool) : State × Nat × Nat :=
  let g := s.img slot
  if !g.loaded then (s, 0x033, 0xFFFF)
  else match (if start then (s.imageTiles g).find? (fun x => s.rd F.SEQ_CTL_CONFIGURED x == 0 || s.marginTile x) else none), s.frameNamed frame with
    | some x, _ => (s, 0x033, x)
    | none, none => (s, 0x036, s.frameNow % 2 ^ 32)
    | none, some f => (s.updImg slot (fun v => if start then { v with startAt := some f, stopAt := none } else { v with stopAt := some f }), 0, 0)

/-- A submission's effect when its replies no longer count: those that do not move host memory complete (R354). -/
def State.finishSub (s : State) (u : Sub) : State :=
  let b := u.body
  match subOp b with
  | 5 => (s.startStop (subSlot b) (subFrame b) true).1
  | 6 => (s.startStop (subSlot b) (subFrame b) false).1
  | 9 => s.emptySlot (subSlot b)
  | _ => s

/-- FLR, hot reset, PCIe link-down (R354): the rings close and clear, submissions that move host memory end with ABORTED, the others
complete; no reply is written. -/
def State.functionReset (s : State) : State :=
  let subs := s.front.subs
  let s1 := (s.front.replies.foldl (fun a r => a.note 0x007 r.op) s)
  let s2 := subs.foldl (fun a u => (if opMoves (subOp u.body) then a else a.finishSub u).note 0x007 (subOp u.body)) s1
  let s3 := { s2 with front := ⟨[], [], 0, s.now, false⟩, lanes := [] }
  [F.FRONT_RING_CTL_OPEN, F.FRONT_RING_CTL_RING_ERR, F.FRONT_RING_CTL_ERR_CAUSE, F.FRONT_RING_CTL_HB_US, F.FRONT_SQ_SIZE_LOG2,
    F.FRONT_SQ_BASE, F.FRONT_SQ_PTRS_TAIL, F.FRONT_SQ_PTRS_HEAD, F.FRONT_RQ_SIZE_LOG2, F.FRONT_RQ_BASE, F.FRONT_RQ_PTRS_HEAD,
    F.FRONT_RQ_PTRS_TAIL, F.FRONT_WIN_PRIORITY, F.FRONT_WIN_BASE, F.FRONT_WIN_LAST_CODE, F.FRONT_WIN_LAST_VALID,
    F.FRONT_WIN_LAST_MORE, F.FRONT_WIN_LAST_WRITE, F.FRONT_WIN_LAST_DPA, F.FRONT_COUNT_COMPLETED, F.FRONT_COUNT_HEARTBEATS,
    F.FRONT_COUNT_HB_SKIPPED].foldl (fun a f => a.wr f 0 (f.dflt 0).toNat) s3

end Sys2Proof.Machine
end

