-- ==== Sys2Proof/Machine/Host.lean ====
section
/-! DEFINITION. The rings, submissions, the data window and the resets of the PCIe function (R342 to R354). -/

namespace Sys2Proof.Machine

/-! ### Rings -/

/-- Whether a ring is unset (R343). -/
def State.ringUnset (s : State) : Bool :=
  decide (s.rd F.FRONT_SQ_SIZE_LOG2 0 < 4) || decide (s.rd F.FRONT_RQ_SIZE_LOG2 0 < 4) || s.rd F.FRONT_SQ_BASE 0 == 0 ||
    s.rd F.FRONT_RQ_BASE 0 == 0

/-- The fields of FRONT_RING_CTL beside OPEN take a write (R11, R350); 0x18 is the offset of its value. -/
def State.ringCtl (s : State) (v : Nat) : State :=
  let s1 := if v.testBit 1 then s.wr F.FRONT_RING_CTL_RING_ERR 0 0 else s
  let hb := bitsAt v 8 7
  if 10 ≤ hb ∧ hb ≤ 100 then s1.wr F.FRONT_RING_CTL_HB_US 0 hb else s1.noteWrite 0x18

/-- RING_OPEN (R343): the write of FRONT_RING_CTL that sets OPEN. The class that stands then is no rise (R342, log entry 133). -/
def execRingOpen (t : Nat) (value : Word64) (s : State) : Result :=
  let s1 := (s.tick t).ringCtl value.toNat
  .next (if s1.rd F.FRONT_RING_CTL_OPEN 0 = 1 then s1
    else if s1.ringUnset then ((s1.wr F.FRONT_RING_CTL_RING_ERR 0 1).wr F.FRONT_RING_CTL_ERR_CAUSE 0 4).noteWrite 0x18
    else
      let s2 : State := { s1 with front := ⟨s1.front.subs.map (fun u => { u with idx := u.idx + 2 ^ 32 }), [], s1.attnClass, s1.now, false⟩ }
      ((((s2.wr F.FRONT_RING_CTL_OPEN 0 1).wr F.FRONT_SQ_PTRS_HEAD 0 0).wr F.FRONT_SQ_PTRS_TAIL 0 0).wr
        F.FRONT_RQ_PTRS_HEAD 0 0).wr F.FRONT_RQ_PTRS_TAIL 0 0)

/-- RING_CLOSE (R343): the write of FRONT_RING_CTL that clears OPEN. -/
def execRingClose (t : Nat) (value : Word64) (s : State) : Result :=
  .next (((s.tick t).ringCtl value.toNat).ringClose)

/-- SQ_TAIL_WRITE (R350). -/
def execSqTailWrite (t : Nat) (value : Word32) (s : State) : Result :=
  let s1 := (s.tick t).wr F.FRONT_SQ_PTRS_TAIL 0 value.toNat
  let used := (value.toNat + 2 ^ 32 - s1.rd F.FRONT_SQ_PTRS_HEAD 0) % 2 ^ 32
  .next (if s1.rd F.FRONT_RING_CTL_OPEN 0 = 1 ∧ 2 ^ s1.rd F.FRONT_SQ_SIZE_LOG2 0 < used then s1.ringErr 1 else s1)

/-- RQ_HEAD_WRITE (R350). -/
def execRqHeadWrite (t : Nat) (value : Word32) (s : State) : Result :=
  let s1 := (s.tick t).wr F.FRONT_RQ_PTRS_HEAD 0 value.toNat
  let left := (s1.rd F.FRONT_RQ_PTRS_TAIL 0 + 2 ^ 32 - value.toNat) % 2 ^ 32
  .next (if s1.rd F.FRONT_RING_CTL_OPEN 0 = 1 ∧ 2 ^ s1.rd F.FRONT_RQ_SIZE_LOG2 0 < left then s1.ringErr 2 else s1)

/-! ### Submissions -/

/-- Whether LENGTH 0 ends a submission at once (R344). -/
def subEmpty (b : Bytes) : Bool := opMoves (subOp b) && subLen b == 0

/-- A submission is fetched (R344 to R346, R350); before READY all but NOP reply STATE (R361). -/
def State.fetchSub (s : State) (r : HostRead) : State :=
  let head := s.rd F.FRONT_SQ_PTRS_HEAD 0
  if s.rd F.FRONT_RING_CTL_OPEN 0 = 0 ∨ s.front.stopped ∨ head = s.rd F.FRONT_SQ_PTRS_TAIL 0 ∨ 8 ≤ s.front.subs.length ∨
      s.freeReplies < 2 then s
  else match r with
  | .fault _ _ => (s.ringErr 3).ringClose
  | .data b0 =>
    let b := (b0 ++ List.replicate 64 0).take 64
    let s1 := s.wr F.FRONT_SQ_PTRS_HEAD 0 ((head + 1) % 2 ^ 32)
    match s1.subBad b with
    | some off => s1.replyTo (subOp b) head (fieldAt b 8 8) 0x030 off
    | none =>
      if s1.rd F.SYS_BOOT_STATUS_STAGE 0 ≠ 0xA ∧ subOp b ≠ 1 then s1.replyTo (subOp b) head (fieldAt b 8 8) 0x033 0xFFFF
      else if subEmpty b then s1.replyTo (subOp b) head (fieldAt b 8 8) 0 0
      else { s1 with front := { s1.front with subs := s1.front.subs ++ [⟨head, b⟩] } }

/-- SUBMISSION_FETCH (R346). -/
def execSubmissionFetch (t : Nat) (rec : HostRead) (s : State) : Result := .next ((s.tick t).fetchSub rec)

/-- A submission that may start runs: its effect gives a code and DETAIL for its reply. -/
def State.runSub (s : State) (i op : Nat) (f : Bytes → State → State × Nat × Nat) : State :=
  match s.ready i op with
  | none => s
  | some u =>
    let r := f u.body s
    r.1.endSub u r.2.1 r.2.2

/-- NOP (R345). -/
def execSubNop (t : Nat) (i : Nat) (s : State) : Result := .next ((s.tick t).runSub i 1 (fun _ a => (a, 0, 0)))

/-- What a host read brings of LENGTH bytes, and the code and DETAIL of a failure. -/
def hostBytes (r : HostRead) (n : Nat) : Bytes × Option Nat :=
  match r with
  | .data b => ((b ++ List.replicate n 0).take n, none)
  | .fault m b => (b.take (min m n), some (min m n))

/-- A sealed copy in (R449 to R451, R454). -/
def State.sealedIn (s : State) (b : Bytes) (src : HostRead) : State × Nat × Nat :=
  if (s.rd F.QUO_DEBUG_SCOPE 0).testBit 2 then (s, 0x033, 0)
  else
    let r := hostBytes src (subLen b)
    let key := s.keySlot (subKey b)
    if r.1.length < 64 ∧ r.2.isSome then (s, 0x031, 0)
    else if !sealedHeaderOk (subLen b) r.1 then (s, 0x032, 0)
    else
      let n := fieldAt r.1 8 8
      let gs := ((piecesOf (subDev b) n).filterMap (fun (p : Nat × Nat) => s.physOf p.1)).map granuleOf
      let s1 := s.sealGranules gs
      let full := if r.2.isNone then ceilDiv n 4096 else (r.1.length - 64) / 4112
      let o := match key with
        | none => (([], false) : Bytes × Bool)
        | some k => if (r.1.drop 24).take 4 != keyCheck k then ([], false) else openSegments k r.1 full 0
      let m := s1.copyIn o.1 true (piecesOf (subDev b) o.1.length) 0
      if m.code ≠ 0 then (m.s, m.code, m.n)
      else if !o.2 then (m.s, 0x032, m.n)
      else if r.2.isSome then (m.s, 0x031, m.n)
      else (m.s, 0, m.n)

/-- A plain copy in (R345, R348). -/
def State.plainIn (s : State) (b : Bytes) (src : HostRead) : State × Nat × Nat :=
  let r := hostBytes src (subLen b)
  if subTs b then
    (match s.tileOfLogical (subTile b) with
    | none => (s, 0x030, 2)
    | some x => (s.tsWrite x (subDev b) r.1, (if r.2.isSome then 0x031 else 0), r.1.length))
  else
    let m := s.copyIn r.1 false (piecesOf (subDev b) r.1.length) 0
    if m.code ≠ 0 then (m.s, m.code, m.n)
    else (m.s, (if r.2.isSome then 0x031 else 0), m.n)

/-- COPY_IN (R345). -/
def execCopyIn (t : Nat) (i : Nat) (src : HostRead) (s : State) : Result :=
  .next ((s.tick t).runSub i 2 (fun b a => if subSealed b then a.sealedIn b src else a.plainIn b src))

/-- Bytes sent to host memory chunk by chunk. -/
def State.toHost (s : State) (addr : Nat) (bs : Bytes) : State :=
  { s with out := s.out ++ (piecesOf addr bs.length).map (fun (p : Nat × Nat) => Out.hostWrite p.1 ((bs.drop (p.1 - addr)).take p.2)) }

/-- COPY_OUT (R345, R348): `failAt` is where a host-memory access fails. -/
def State.outCopy (s : State) (b : Bytes) (failAt : Option Nat) (errs : List MemErr) : State × Nat × Nat :=
  let n := match failAt with
    | some k => min k (subLen b)
    | none => subLen b
  let m := if subTs b then
      (match s.tileOfLogical (subTile b) with
      | none => ⟨s, 0, 0x030, []⟩
      | some x => s.tsCopyOut x errs (piecesOf (subDev b) n) [])
    else s.copyOut (sliceErrs errs) (piecesOf (subDev b) n) []
  let s1 := m.s.toHost (subHost b) m.data
  if m.code ≠ 0 then (s1, m.code, m.n)
  else if n < subLen b then (s1, 0x031, n)
  else (s1, 0, n)

/-- COPY_OUT. -/
def execCopyOut (t : Nat) (i : Nat) (failAt : Option Nat) (errs : List MemErr) (s : State) : Result :=
  .next ((s.tick t).runSub i 3 (fun b a => a.outCopy b failAt errs))

/-- ACTIVATE (R345, R349). -/
def execActivate (t : Nat) (i : Nat) (src : HostRead) (s : State) : Result :=
  .next ((s.tick t).runSub i 4 (fun b a =>
    let r := hostBytes src (subLen b)
    match r.2 with
    | some n => if (a.img (subSlot b)).loaded then (a, 0x038, 0) else (a, 0x031, n)
    | none =>
      let w := a.activate (subSlot b) r.1
      (w.1, w.2, if w.2 = 0 then subLen b else 0)))

/-- START (R345). -/
def execSubStart (t : Nat) (i : Nat) (s : State) : Result :=
  .next ((s.tick t).runSub i 5 (fun b a => a.startStop (subSlot b) (subFrame b) true))

/-- STOP (R345). -/
def execSubStop (t : Nat) (i : Nat) (s : State) : Result :=
  .next ((s.tick t).runSub i 6 (fun b a => a.startStop (subSlot b) (subFrame b) false))

/-- Whether a slot stands at a pre-emption point: it does not run, or its frame just ended at one (R268). -/
def State.atPreempt (s : State) (slot : Nat) : Bool :=
  let g := s.img slot
  s.activeSlot != slot || !(List.range 104).any s.anyRunning ||
    (decide (0 < g.sched) && g.preempt (g.sched - 1) && s.now % 32 == 0 && s.beatNow % s.frameLen == 0)

/-- SAVE (R345, R348, R453). -/
def State.saveContext (s : State) (b : Bytes) (failAt : Option Nat) : State × Nat × Nat :=
  let g := s.img (subSlot b)
  let plain := s.contextBytes (subSlot b)
  let size := sealedLength plain.length
  if !g.loaded ∨ fieldAt g.header 20 2 = 0 then (s, 0x035, 0)
  else if subLen b < size then (s, 0x037, size)
  else match s.keySlot 63 with
    | none => (s, 0x032, 0)
    | some k =>
      let nonce := (Config.trng s.quoin.draws).toNat % 2 ^ 64
      let s1 := { s with quoin := { s.quoin with draws := s.quoin.draws + 1 } }
      let obj := sealBytes k nonce plain
      match failAt with
      | some n => if n < size then (s1.toHost (subHost b) (obj.take n), 0x031, n) else (s1.toHost (subHost b) obj, 0, size)
      | none => (s1.toHost (subHost b) obj, 0, size)

/-- SAVE: it waits for the slot's next pre-emption point, unless it fails at once. -/
def execSubSave (t : Nat) (i : Nat) (failAt : Option Nat) (s : State) : Result :=
  let s1 := s.tick t
  .next (match s1.ready i 7 with
    | none => s1
    | some u =>
      let g := s1.img (subSlot u.body)
      if g.loaded && fieldAt g.header 20 2 != 0 && !s1.atPreempt (subSlot u.body) then s1
      else s1.runSub i 7 (fun b a => a.saveContext b failAt))

/-- RESTORE (R345, R453). -/
def execSubRestore (t : Nat) (i : Nat) (src : HostRead) (s : State) : Result :=
  .next ((s.tick t).runSub i 8 (fun b a =>
    let r := hostBytes src (subLen b)
    if (a.img (subSlot b)).loaded then (a, 0x038, 0)
    else match r.2 with
      | some n => (a, 0x031, n)
      | none =>
        let o := openSealed (a.keySlot 63) (subLen b) r.1
        if !o.2 then (a, 0x032, 0)
        else
          let w := a.restoreContext (subSlot b) o.1
          (w.1, w.2, if w.2 = 0 then subLen b else 0)))

/-- UNLOAD (R345). -/
def execUnload (t : Nat) (i : Nat) (s : State) : Result :=
  .next ((s.tick t).runSub i 9 (fun b a => (a.emptySlot (subSlot b), 0, 0)))

/-! ### Replies -/

/-- REPLY_RECORD (R347, R350): the reply that has waited longest; without a free entry it waits on. -/
def execReplyRecord (t : Nat) (ok : Bool) (s : State) : Result :=
  let s1 := s.tick t
  .next (match s1.front.replies with
    | [] => s1
    | r :: rest =>
      if s1.rd F.FRONT_RING_CTL_OPEN 0 = 0 ∨ s1.freeReplies = 0 then s1
      else if ok then ({ s1 with front := { s1.front with replies := rest } } : State).writeReply true 0 r.op r.seq r.tag r.code r.detail
      else s1.writeReply false 0 r.op r.seq r.tag r.code r.detail)

/-- Whether a heartbeat is due (R342). -/
def State.heartbeatDue (s : State) : Bool :=
  s.rd F.FRONT_RING_CTL_OPEN 0 == 1 &&
    (decide (s.front.lastAt + 4000 * s.rd F.FRONT_RING_CTL_HB_US 0 ≤ s.now) || decide (s.front.lastClass < s.attnClass))

/-- HEARTBEAT (R342, R350). -/
def execHeartbeat (t : Nat) (ok : Bool) (s : State) : Result :=
  let s1 := s.tick t
  .next (if !s1.heartbeatDue then s1
    else if s1.freeReplies = 0 then
      ({ s1 with front := { s1.front with lastAt := s1.now, lastClass := s1.attnClass } } : State).sat F.FRONT_COUNT_HB_SKIPPED 0 1
    else s1.writeReply ok 1 0 0xFFFFFFFF 0 0 0)

/-! ### The data window (R351 to R353) -/

/-- One chunk of a window request goes to its slice, or fails at once. -/
def State.winSend (s : State) (tag base : Nat) (write : Bool) (data : Bytes) (p : Nat × Nat) : State :=
  if s.wins.all (fun w => w.tag != tag) then s
  else
    let acc : Acc := ⟨.host tag, if write then .write else .read, p.1, p.2, (data.drop (p.1 - base)).take p.2, s.gclk,
      !write && s.rd F.FRONT_WIN_PRIORITY 0 == 1, false, p.1 - base⟩
    if s.sealedAt p.1 then s.winPiece tag (p.1 - base) 0x013 []
    else match s.decodeDpa false p.1 with
      | .viol _ => s.winPiece tag (p.1 - base) 0x013 []
      | .slice x _ => s.enqueue x acc
      | .scratch q _ => s.enqueue (13 * q) acc

/-- A window request arrives (R351). -/
def State.winRequest (s : State) (off len : Nat) (write : Bool) (data : Bytes) : State :=
  if len = 0 then s
  else
    let dpa := s.rd F.FRONT_WIN_BASE 0 * 2 ^ 33 + off
    let ps := piecesOf dpa len
    let tag := s.wins.foldl (fun a w => max a (w.tag + 1)) 0
    let s1 : State := { s with wins := s.wins ++ [⟨tag, dpa, len, write, s.now, [], ps.length⟩] }
    ps.foldl (fun a p => a.winSend tag dpa write data p) s1

/-- WINDOW_READ (R351). -/
def execWindowRead (t : Nat) (off : BitVec 36) (len : Nat) (s : State) : Result :=
  .next ((s.tick t).winRequest off.toNat len false [])

/-- WINDOW_WRITE (R351). -/
def execWindowWrite (t : Nat) (off : BitVec 36) (data : Bytes) (s : State) : Result :=
  .next ((s.tick t).winRequest off.toNat data.length true data)

/-- WINDOW_READ_DEADLINE (R352): the i-th request in progress is a read that has waited 40 µs. -/
def execWindowReadDeadline (t : Nat) (i : Nat) (s : State) : Result :=
  let s1 := s.tick t
  .next (match s1.wins[i]? with
    | some w => if !w.write && decide (w.arrival + 160000 ≤ s1.now) then
        ({ (s1.winDrop w.tag) with out := s1.out ++ [.window w.tag 0x011 (List.replicate w.len 0xFF)] } : State).winFail false 0x011 w.dpa
      else s1
    | none => s1)

/-! ### Resets of the function (R354) -/

/-- FLR (R354). -/
def execFlr (t : Nat) (s : State) : Result := .next ((s.tick t).functionReset)
/-- HOT_RESET (R354). -/
def execHotReset (t : Nat) (s : State) : Result := .next ((s.tick t).functionReset)
/-- PCIE_LINK_DOWN (R354). -/
def execPcieLinkDown (t : Nat) (s : State) : Result := .next ((s.tick t).functionReset)

end Sys2Proof.Machine
end

