-- ==== Sys2Proof/Machine/Margin.lean ====
section
/-! DEFINITION. Margin runs of bond interfaces, bridges and Aelli lanes (R472 to R477), and of PCIe lanes (R478). -/

namespace Sys2Proof.Machine

/-! ### Starting a run (R472, R474) -/

/-- The position that MRG_TARGET names. -/
def State.marginPos (s : State) : Nat := 13 * s.rd F.MRG_TARGET_PIER 0 + s.rd F.MRG_TARGET_POSITION 0

/-- Why a run is refused, in the order of R474. -/
def State.marginRefusal (s : State) : Option Nat :=
  let kind := s.rd F.MRG_TARGET_KIND 0
  let x := s.marginPos
  let q := s.rd F.MRG_TARGET_PORT 0
  let b := s.rd F.MRG_TARGET_BRIDGE 0
  let lane := s.rd F.MRG_TARGET_LANE 0
  if s.rd F.SYS_POWER_STATE 0 ≠ 0 ∨ s.margin.isSome then some 2
  else if kind = 0 ∧ (3 ≤ (s.tile x).facts.health ∨ s.anyRunning x ∨ (s.tile x).units.any (fun u => u.2.st == .running)) then some 3
  else if kind = 1 ∧ (s.rd F.BRG_STATUS_WIDTH b ≠ 2 ∨ s.marginUsed 1 b) then some 4
  else if kind = 2 ∧ ((s.rd F.LNK_STATUS_STATE q ≠ 1 ∧ s.rd F.LNK_STATUS_STATE q ≠ 2) ∨ s.portRole q = 1 ∨ s.portRole q = 2 ∨
      s.beat.via = some q ∨ s.marginUsed 2 q) then some 4
  else if 3 ≤ kind ∨ 8 ≤ s.rd F.MRG_TARGET_PIER 0 ∨ 13 ≤ s.rd F.MRG_TARGET_POSITION 0 ∨ 5 ≤ s.rd F.MRG_TARGET_COURSE 0 ∨
      s.rd F.MRG_TARGET_AXIS 0 = 3 ∨ 5 ≤ lane ∨ 10 ≤ b ∨ (kind = 2 ∧ lane = 4 ∧ (s.port q).spare.isNone) then some 5
  else none

/-- Whether a target's timing steps are 1/64 UI. Port q lies on pier q / 2. -/
def State.marginFine (s : State) : Bool :=
  match s.rd F.MRG_TARGET_KIND 0 with
  | 0 => (s.rd F.FP_PIER_B_CAPS (s.rd F.MRG_TARGET_PIER 0)).testBit 1
  | 1 => (s.commonCaps (s.rd F.MRG_TARGET_BRIDGE 0)).testBit 1
  | _ => (s.rd F.FP_PIER_B_CAPS (s.rd F.MRG_TARGET_PORT 0 / 2)).testBit 1

/-- A run begins with its offsets at 0 (R475), or is refused. -/
def State.marginBegin (s : State) : State :=
  match s.marginRefusal with
  | some c => s.marginShow c
  | none =>
    let kind := s.rd F.MRG_TARGET_KIND 0
    let ext := (s.rd F.QUO_DEBUG_SCOPE 0).testBit 3
    let fine := s.marginFine
    let full := if kind = 2 then (if ext then 24 else 16) else if ext then 32 else 24
    let axis := s.rd F.MRG_TARGET_AXIS 0
    let run : MarginRun := ⟨kind, if kind = 0 then s.marginPos else if kind = 1 then s.rd F.MRG_TARGET_BRIDGE 0 else s.rd F.MRG_TARGET_PORT 0,
      s.rd F.MRG_TARGET_SET 0, if fine then full else full / 2, if ext then 32 else 20, axis == 2, false, if axis = 1 then 1 else 0, false, 1⟩
    ({ s with margin := some run } : State).wrs 0 [(F.MRG_CTL_START, 1), (F.MRG_STATUS_STATE, 1), (F.MRG_STATUS_CAUSE, 0),
      (F.MRG_STATUS_FINE, bit fine), (F.MRG_RESULT_EARLY, 0), (F.MRG_RESULT_LATE, 0), (F.MRG_RESULT_LOW, 0), (F.MRG_RESULT_HIGH, 0),
      (F.MRG_RESULT_WORST, 0), (F.MRG_RESULT_SPARE_ERRS, 0)]

/-- MARGIN_START. -/
def execMarginStart (t : Nat) (s : State) : Result := .next ((s.tick t).marginBegin)

/-! ### Steps (R475) -/

/-- The limit of the axis in progress. -/
def MarginRun.limit (r : MarginRun) : Nat := if r.axis = 0 then r.limT else r.limV

/-- The next side: minus before plus, timing before voltage. -/
def MarginRun.nextSide (r : MarginRun) : Option MarginRun :=
  if !r.plus then some { r with plus := true, k := 1 }
  else if r.axis = 0 ∧ r.both then some { r with axis := 1, plus := false, k := 1 }
  else none

/-- The result of the side in progress. -/
def MarginRun.field (r : MarginRun) : Fld :=
  if r.axis = 0 then (if r.plus then F.MRG_RESULT_LATE else F.MRG_RESULT_EARLY)
  else if r.plus then F.MRG_RESULT_HIGH else F.MRG_RESULT_LOW

/-- A run goes on to a step, or ends with cause none. -/
def State.marginGo (s : State) (r : Option MarginRun) : State :=
  match r with
  | some v => { s with margin := some v }
  | none => s.marginEnd 0

/-- A step is judged. -/
def State.marginStep (s : State) (pass : Bool) (worst spareErrs : Nat) : State :=
  match s.margin with
  | none => s
  | some r =>
    let s1 := s.sat F.MRG_RESULT_SPARE_ERRS 0 spareErrs
    let s2 := if pass then s1 else s1.wr F.MRG_RESULT_WORST 0 worst
    if !r.centre then
      (if pass then s2.marginGo (some { r with centre := true }) else s2.marginEnd 1)
    else if !pass then s2.marginGo r.nextSide
    else
      let s3 := s2.wr r.field 0 r.k
      if r.k < r.limit then s3.marginGo (some { r with k := r.k + 1 }) else s3.marginGo r.nextSide

/-- MARGIN_STEP. -/
def execMarginStep (t : Nat) (pass : Bool) (worst : BitVec 9) (spareErrs : Nat) (s : State) : Result :=
  .next ((s.tick t).marginStep pass worst.toNat spareErrs)

/-- MARGIN_ABORT (R477). -/
def execMarginAbort (t : Nat) (s : State) : Result := .next ((s.tick t).marginAbort 9 (fun _ => true))

/-! ### PCIe lanes (R478) -/

/-- The parameters a lane reports, by the payload that asks: capabilities, NumVoltageSteps, NumTimingSteps, MaxTimingOffset in % UI,
MaxVoltageOffset in 10 mV, SamplingRateVoltage, SamplingRateTiming, MaxLanes. -/
def laneReport (payload : Nat) : Option Nat :=
  match payload with
  | 0x88 => some 0x1F | 0x89 => some 32 | 0x8A => some 16 | 0x8B => some 20 | 0x8C => some 12 | 0x8D => some 63 | 0x8E => some 63
  | 0x90 => some 15 | _ => none

/-- The response of a lane: margin type and payload beside the receiver number. -/
def laneResponse (cmd payload : Nat) : Nat := cmd % 64 + 256 * payload

/-- A lane's error limit, 4 by default. -/
def State.laneLimit (s : State) (lane : Nat) : Nat := Tab.get (4 * 65536) s.lanes lane / 65536

/-- A lane's settings. -/
def State.setLane (s : State) (lane v : Nat) : State := { s with lanes := Tab.put (4 * 65536) s.lanes lane v }

/-- A Lane Margining at the Receiver command and its response (log entry 50): the error count of a step is what the sampler measures, a
free value. -/
def State.laneMargin (s : State) (lane cmd : Nat) : State :=
  let type := bitsAt cmd 3 3
  let v := bitsAt cmd 8 8
  let limit := s.laneLimit lane
  let say (a : State) (p : Nat) : State := { a with out := a.out ++ [.margin lane (laneResponse cmd p)] }
  let steps := if type = 3 then v % 64 else v % 128
  let most := if type = 3 then 16 else 32
  match type with
  | 1 => (match laneReport v with
    | some p => say s p
    | none => say s 0)
  | 2 =>
    if 0xC0 ≤ v then say (s.setLane lane ((v % 64) * 65536 + Tab.get (4 * 65536) s.lanes lane % 65536)) v
    else if v = 0x0F then say (s.setLane lane (limit * 65536)) v
    else say s v
  | 3 | 4 =>
    if most < steps then say s 0xC0
    else
      let f := s.free
      let errs := f.1 % 64
      let s1 := f.2.setLane lane (limit * 65536 + (if limit < errs then 0 else type * 256 + v))
      say s1 ((if limit < errs then 0 else 0x80) + errs)
  | 7 => say s v
  | _ => s

/-- PCIE_LANE_MARGIN. -/
def execPcieLaneMargin (t : Nat) (lane : Fin 16) (cmd : BitVec 16) (s : State) : Result :=
  .next ((s.tick t).laneMargin lane.val cmd.toNat)

end Sys2Proof.Machine
end

