-- ==== Sys2Proof/Machine/Quoin.lean ====
section
/-! DEFINITION. Quoin's commands (R434 to R457): keys, sealed granules, ownership, debug, measurements, firmware. -/

namespace Sys2Proof.Machine

/-! ### The command interface (R455, R456) -/

/-- A command ends with a code and DETAIL. -/
def State.quoDone (s : State) (code detail : Nat) : State :=
  ((s.wr F.QUO_CMD_STATUS_RESULT 0 code).wr F.QUO_CMD_STATUS_DETAIL 0 detail).sat F.QUO_CMD_STATUS_COMMANDS 0 1

/-- What a command that ends at once has come to: the state, its code and its DETAIL. -/
abbrev QuoRes := State × Nat × Nat

/-- A write to QUO_CMD starts a command unless one is in progress; 0x0004_0020 is its offset. -/
def State.quoCmd (s : State) (f : State → QuoRes) : State :=
  if s.rd F.QUO_CMD_STATUS_BUSY 0 = 1 then s.noteWrite 0x40020
  else
    let r := f s
    r.1.quoDone r.2.1 r.2.2

/-- A command whose input is read from host memory: LENGTH 0 completes with OK, a read that fails with READ. -/
def State.quoInput (s : State) (len : Nat) (src : HostRead) (f : Bytes → QuoRes) : QuoRes :=
  if len = 0 then (s, 0x00, 0)
  else match src with
    | .fault _ _ => (s, 0x0C, 0)
    | .data b => f ((b ++ List.replicate len 0).take len)

/-- The first check that fails: whether it does, its code, its DETAIL. -/
def firstFail (l : List (Bool × Nat × Nat)) : Option (Nat × Nat) := (l.find? (fun c => c.1)).map (fun c => c.2)

/-- The bytes of a record's range are all 0. -/
def zeroAt (b : Bytes) (off n : Nat) : Bool := fieldAt b off n == 0

/-- A signature and a public key as the numbers their big-endian bytes hold (R437). -/
def beAt (b : Bytes) (off : Nat) : BitVec 512 := BitVec.ofNat 512 (beVal ((b.drop off).take 64))

/-- The owner's signature over a digest. -/
def State.ownerSigned (s : State) (d : BitVec 256) (sig : BitVec 512) : Bool :=
  match s.quoin.owner with
  | none => false
  | some k => Config.sm2Verify k d sig

/-- Whether the scan chains are open to debug (R454). -/
def State.scanOpen (s : State) : Bool := (s.rd F.QUO_DEBUG_SCOPE 0).testBit 2

/-! ### Keys (R448, R455) -/

/-- Whether a submission in progress uses a key slot. -/
def State.keyInUse (s : State) (n : Nat) : Bool :=
  s.front.subs.any (fun u =>
    (subOp u.body == 2 && subSealed u.body && subKey u.body == n) || ((subOp u.body == 7 || subOp u.body == 8) && n == 63))

/-- LOAD_KEY of a package (R448). -/
def State.loadPackage (s : State) (b : Bytes) : QuoRes :=
  let id := fieldAt b 20 2
  let d := Config.sm3 (b.take 160)
  match firstFail [
    (s.scanOpen, 0x05, 0),
    (b.length != 224, 0x01, 0),
    (fieldAt b 0 4 != 0x594B5150, 0x01, 0),
    (fieldAt b 4 4 != 0x00010000, 0x01, 4),
    (decide (63 < id), 0x01, 20),
    (!zeroAt b 22 10, 0x01, 22),
    (!zeroAt b 145 15, 0x01, 145),
    (s.quoin.owner.isNone, 0x05, 0),
    (zeroAt b 8 8 || fieldAt b 8 8 != s.rd F.QUO_IDENT_IDENT 0, 0x03, 8),
    (fieldAt b 16 4 != s.rd F.QUO_OWNER_EPOCH 0, 0x04, 16),
    (!s.ownerSigned d (beAt b 160), 0x02, 160),
    (s.keyInUse id, 0x06, 20)] with
  | some e => (s, e)
  | none => match Config.sm2Unwrap Config.encryptionKey ((b.drop 32).take 113) with
    | none => (s, 0x01, 32)
    | some k =>
      let s1 : State := { s with quoin := { s.quoin with keys := Tab.put 0 s.quoin.keys id k } }
      ((s1.wrBit F.QUO_KEYS_LOADED 0 id true).extendMeas 10 (Config.sm3 b), 0x00, 0)

/-- LOAD_KEY. -/
def execLoadKey (t : Nat) (len : Nat) (src : HostRead) (s : State) : Result :=
  .next ((s.tick t).quoCmd (fun a => a.quoInput len src a.loadPackage))

/-- EVICT_KEY (R455). -/
def execEvictKey (t : Nat) (slot : BitVec 6) (s : State) : Result :=
  .next ((s.tick t).quoCmd (fun a =>
    if a.keyInUse slot.toNat then (a, 0x06, 0)
    else
      let a1 : State := { a with quoin := { a.quoin with keys := Tab.drop a.quoin.keys slot.toNat } }
      (a1.wrBit F.QUO_KEYS_LOADED 0 slot.toNat false, 0x00, 0)))

/-! ### Unsealing (R451) -/

/-- UNSEAL starts; QUO_CMD_ADDR holds the address of the first granule. A count of 0 completes at once. -/
def State.unsealBegin (s : State) (count : Nat) : State :=
  if s.rd F.QUO_CMD_STATUS_BUSY 0 = 1 then s.noteWrite 0x40020
  else if count = 0 then s.quoDone 0x00 0
  else
    (({ s with quoin := { s.quoin with zeroing := some (granuleOf (s.rd F.QUO_CMD_ADDR_ADDR 0), count) } } : State).wr
      F.QUO_CMD_STATUS_BUSY 0 1).wr F.QUO_SEAL_ZEROING 0 1

/-- UNSEAL. -/
def execQuoUnseal (t : Nat) (count : Nat) (s : State) : Result := .next ((s.tick t).unsealBegin (count % 2 ^ 32))

/-- Zeros with valid check codes written to a range of granules; older copies of them in the caches go. -/
def State.zeroGranules (s : State) (g n : Nat) : State :=
  let here (k unit : Nat) : Bool := decide (g ≤ k * unit / 2 ^ 21) && decide (k * unit / 2 ^ 21 < g + n)
  let s1 : State := { s with
    mem := Tab.dropWhere (fun k => here k 1) s.mem
    badLines := Tab.dropWhere (fun k => here k 64) s.badLines
    latent := Tab.dropWhere (fun k => here k 64) s.latent
    pch := s.pch.filter (fun c => !here c.line 128) }
  s1.tiles.foldl (fun a (e : Nat × Tile) =>
    let at' (c : CLine) : Bool := here (sliceBase e.1 / 512 + c.chunk) 512
    a.updSlice e.1 (fun c => { c with cache := c.cache.filter (fun l => !at' l.2), wbuf := c.wbuf.filter (fun l => !at' l) })) s1

/-- UNSEAL_DONE: the granules are zeros and their bits clear. -/
def State.unsealEnd (s : State) : State :=
  match s.quoin.zeroing with
  | none => s
  | some (g, n) =>
    let s1 := s.zeroGranules g n
    let s2 : State := { s1 with quoin := { s1.quoin with
      zeroing := none, granules := s1.quoin.granules.filter (fun k => decide (k < g) || decide (g + n ≤ k)) } }
    (((s2.showSeal).wr F.QUO_CMD_STATUS_BUSY 0 0).wr F.QUO_SEAL_ZEROING 0 0).quoDone 0x00 0

/-- UNSEAL_DONE. -/
def execUnsealDone (t : Nat) (s : State) : Result := .next ((s.tick t).unsealEnd)

/-! ### Ownership (R440, R441) -/

/-- The owner set or cleared, as the registers show it. -/
def State.setOwner (s : State) (k : Option (BitVec 512)) : State :=
  let d := match k with
    | some v => (Config.sm3 (beBytes 64 v.toNat)).toNat % 2 ^ 48
    | none => 0
  (({ s with quoin := { s.quoin with owner := k } } : State).wr F.QUO_STATUS_OWNED 0 (bit k.isSome)).wr F.QUO_OWNER_OWNER_DIGEST 0 d

/-- Ports whose last attempt failed for want of a session train again (R446). -/
def State.retrainSessions (s : State) : State :=
  (List.range 16).foldl (fun a q =>
    if (Tab.get PortState.idle a.ports q).noSession && a.rd F.LNK_CTL_DISABLE q == 0 then a.trainPort q else a) s

/-- ENROL of a key with proof of possession (R440). -/
def State.enrolKey (s : State) (b : Bytes) : QuoRes :=
  let d := Config.sm3 (b.take 64 ++ leBytes 8 (s.rd F.QUO_IDENT_IDENT 0))
  match firstFail [
    (b.length != 128, 0x01, 0),
    (s.quoin.owner.isSome, 0x05, 0),
    (!Config.sm2Verify (beAt b 0) d (beAt b 64), 0x02, 64)] with
  | some e => (s, e)
  | none =>
    let s1 := (s.setOwner (some (beAt b 0))).extendMeas 4 (Config.sm3 (b.take 64 ++ leBytes 4 (s.rd F.QUO_OWNER_EPOCH 0)))
    (s1.retrainSessions, 0x00, 0)

/-- ENROL. -/
def execEnrol (t : Nat) (len : Nat) (src : HostRead) (s : State) : Result :=
  .next ((s.tick t).quoCmd (fun a => a.quoInput len src a.enrolKey))

/-- RELEASE of a record (R441): the module reset it ends in records LAST_CAUSE 1. -/
def State.releaseRecord (s : State) (boot : Boot) (b : Bytes) : QuoRes :=
  match firstFail [
    (b.length != 80, 0x01, 0),
    (fieldAt b 0 4 != 0x4C455252, 0x01, 0),
    (s.quoin.owner.isNone, 0x05, 0),
    (fieldAt b 8 8 != s.rd F.QUO_IDENT_IDENT 0, 0x03, 8),
    (fieldAt b 4 4 != s.rd F.QUO_OWNER_EPOCH 0, 0x04, 4),
    (!Config.sm2Verify Config.serviceKey (Config.sm3 (b.take 16)) (beAt b 16), 0x02, 16),
    (s.rd F.QUO_KEYS_LOADED 0 != 0 || !s.quoin.granules.isEmpty, 0x07, 0),
    (decide (32 ≤ s.rd F.QUO_OWNER_EPOCH 0), 0x09, 0)] with
  | some e => (s, e)
  | none =>
    let s1 := (s.wr F.QUO_OWNER_EPOCH 0 (s.rd F.QUO_OWNER_EPOCH 0 + 1)).setOwner none
    ((s1.wr F.BND_FLOOR_FLOOR 0 0).moduleReset 1 boot, 0x00, 0)

/-- RELEASE. An accepted one ends in a module reset, which also clears QUO_CMD_STATUS. -/
def execQuoRelease (t : Nat) (len : Nat) (src : HostRead) (boot : Boot) (s : State) : Result :=
  let s1 := s.tick t
  .next (if s1.rd F.QUO_CMD_STATUS_BUSY 0 = 1 then s1.noteWrite 0x40020
    else
      let r := s1.quoInput len src (s1.releaseRecord boot)
      if len ≠ 0 ∧ r.2.1 = 0x00 then r.1 else r.1.quoDone r.2.1 r.2.2)

/-! ### Debug (R454) -/

/-- A nonce shown in QUO_NONCE, or 0 while none is valid. -/
def State.showNonce (s : State) (v : Nat) (ok : Bool) : State :=
  (List.range 4).foldl (fun (a : State) w => a.wr F.QUO_NONCE_NONCE w (bitsAt v (32 * w) 32)) { s with quoin := { s.quoin with nonceOk := ok } }

/-- DEBUG_NONCE (R454, R456). -/
def State.drawNonce (s : State) : QuoRes :=
  if s.rd F.QUO_STATUS_TRNG_OK 0 = 0 then (s, 0x0B, 0)
  else
    let v := (Config.trng s.quoin.draws).toNat % 2 ^ 128
    (({ s with quoin := { s.quoin with draws := s.quoin.draws + 1 } } : State).showNonce v true, 0x00, 0)

/-- DEBUG_NONCE. -/
def execDebugNonce (t : Nat) (s : State) : Result := .next ((s.tick t).quoCmd (fun a => a.drawNonce))

/-- The nonce as QUO_NONCE holds it. -/
def State.nonce (s : State) : Nat := (List.range 4).foldl (fun a w => a + s.rd F.QUO_NONCE_NONCE w * 2 ^ (32 * w)) 0

/-- DEBUG_OPEN of a token (R454): the nonce is used up whatever it comes to. -/
def State.openToken (s : State) (b : Bytes) : QuoRes :=
  let scope := fieldAt b 32 4
  let s0 := s.showNonce 0 false
  match firstFail [
    (b.length != 192, 0x01, 0),
    (fieldAt b 0 4 != 0x47424450, 0x01, 0),
    (fieldAt b 4 4 != 0x00010000, 0x01, 4),
    (decide (16 ≤ scope), 0x01, 32),
    (!zeroAt b 40 24, 0x01, 40),
    (s.quoin.owner.isNone, 0x05, 0),
    (fieldAt b 8 8 != s.rd F.QUO_IDENT_IDENT 0, 0x03, 8),
    (!s.quoin.nonceOk || fieldAt b 16 16 != s.nonce, 0x08, 16),
    (fieldAt b 36 4 != s.rd F.QUO_OWNER_EPOCH 0, 0x04, 36),
    (!s.ownerSigned (Config.sm3 (b.take 64)) (beAt b 64), 0x02, 64),
    (!Config.sm2Verify Config.serviceKey (Config.sm3 (b.take 128)) (beAt b 128), 0x02, 128),
    (scope.testBit 2 && (s.rd F.QUO_KEYS_LOADED 0 != 0 || !s.quoin.granules.isEmpty), 0x0D, 32)] with
  | some e => (s0, e)
  | none =>
    let s1 := (s0.extendMeas 5 (Config.sm3 b)).note 0x002 scope
    let open' := s1.rd F.QUO_DEBUG_SCOPE 0 ||| scope
    (((s1.wr F.QUO_DEBUG_SCOPE 0 open').wr F.QUO_STATUS_DEBUG_OPEN 0 (bit (open' != 0))).sat F.QUO_DEBUG_OPENINGS 0 1, 0x00, 0)

/-- DEBUG_OPEN. -/
def execDebugOpen (t : Nat) (len : Nat) (src : HostRead) (s : State) : Result :=
  .next ((s.tick t).quoCmd (fun a => a.quoInput len src a.openToken))

/-- DEBUG_CLOSE (R454). -/
def execDebugClose (t : Nat) (s : State) : Result :=
  .next ((s.tick t).quoCmd (fun a => ((a.wr F.QUO_DEBUG_SCOPE 0 0).wr F.QUO_STATUS_DEBUG_OPEN 0 0, 0x00, 0)))

/-! ### Measurements (R442) -/

/-- EXTEND: registers 12 to 15 only. -/
def execQuoExtend (t : Nat) (len : Nat) (reg : BitVec 6) (src : HostRead) (s : State) : Result :=
  .next ((s.tick t).quoCmd (fun a => a.quoInput len src (fun b =>
    if b.length ≠ 32 then (a, 0x01, 0)
    else if reg.toNat < 12 ∨ 15 < reg.toNat then (a, 0x05, 0)
    else (a.extendMeas reg.toNat (BitVec.ofNat 256 (leVal b)), 0x00, 0))))

/-! ### Firmware (R438, R439) -/

/-- What an image in flash is, read from its bytes. -/
def fwOf (b : Bytes) : FwImage :=
  let m := Config.bodyMcode (b.drop 128)
  ⟨BitVec.ofNat 16 (fieldAt b 8 2), fieldAt b 10 2, BitVec.ofNat 256 (fieldAt b 16 32), m.1, m.2⟩

/-- FW_STAGE (R439): image A becomes image B, and the new image becomes A. -/
def State.stageFw (s : State) (b : Bytes) : QuoRes :=
  match firstFail [
    (decide (b.length < 128), 0x01, 0),
    (fieldAt b 0 4 != 0x57465850, 0x01, 0),
    (fieldAt b 4 4 != 0x00010000, 0x01, 4),
    (decide (64 < fieldAt b 10 2), 0x01, 10),
    (decide (2 ^ 26 < fieldAt b 12 4) || fieldAt b 12 4 + 128 != b.length, 0x01, 12),
    (!zeroAt b 48 16, 0x01, 48),
    (Config.sm3 (b.drop 128) != BitVec.ofNat 256 (fieldAt b 16 32), 0x02, 16),
    (!Config.sm2Verify Config.firmwareKey (Config.sm3 (b.take 64)) (beAt b 64), 0x02, 64),
    (decide (fieldAt b 10 2 < s.rd F.QUO_FW_SVN_FUSED 0), 0x0A, 10)] with
  | some e => (s, e)
  | none =>
    let s1 : State := { s with life := { s.life with imageB := s.life.staged, staged := some (fwOf b) } }
    (s1.wr F.QUO_FW_SVN_B 0 ((s.life.staged.map (fun f => f.svn)).getD 0), 0x00, 0)

/-- FW_STAGE. -/
def execFwStage (t : Nat) (len : Nat) (src : HostRead) (s : State) : Result :=
  .next ((s.tick t).quoCmd (fun a => a.quoInput len src a.stageFw))

/-- COMMIT_SVN (R439). -/
def State.commitSvn (s : State) : QuoRes :=
  if s.rd F.SYS_FW_IMAGE 0 = 1 ∨ s.rd F.QUO_FW_SVN_RUNNING 0 ≤ s.rd F.QUO_FW_SVN_FUSED 0 then (s, 0x0A, 0)
  else if s.quoin.raisesLeft = 0 then (s, 0x09, 0)
  else
    let s1 : State := { s with quoin := { s.quoin with raisesLeft := s.quoin.raisesLeft - 1 } }
    (s1.wr F.QUO_FW_SVN_FUSED 0 (s.rd F.QUO_FW_SVN_RUNNING 0), 0x00, 0)

/-- COMMIT_SVN. -/
def execCommitSvn (t : Nat) (s : State) : Result := .next ((s.tick t).quoCmd (fun a => a.commitSvn))

/-- TRNG_HEALTH_FAIL (R456). -/
def execTrngHealthFail (t : Nat) (s : State) : Result := .next ((s.tick t).wr F.QUO_STATUS_TRNG_OK 0 0)

end Sys2Proof.Machine
end

