-- ==== Sys2Proof/Machine/Scorebook.lean ====
section
/-! DEFINITION. The Scorebook's own commands (R461 to R471): freeze, thaw, flush, clear, refill, and reads of the area. -/

namespace Sys2Proof.Machine

/-! ### Freeze and thaw (R464, R465) -/

/-- FREEZE: refused in the full layout. -/
def execScbFreeze (t : Nat) (s : State) : Result :=
  let s1 := s.tick t
  .next (if s1.rd F.SCB_STATUS_LAYOUT 0 = 1 then s1.note 0x0F0 0x1
    else (s1.wr F.SCB_CTL_FREEZE 0 1).wr F.SCB_STATUS_FROZEN 0 1)

/-- THAW. -/
def execScbThaw (t : Nat) (s : State) : Result :=
  let s1 := s.tick t
  .next (if s1.rd F.SCB_STATUS_FROZEN 0 = 1 then s1.scbThawNow false else s1)

/-- AUTO_THAW. -/
def execScbAutoThaw (t : Nat) (s : State) : Result :=
  let s1 := s.tick t
  .next (if s1.rd F.SCB_STATUS_FROZEN 0 = 1 then s1.scbThawNow true else s1)

/-! ### Flushes (R467, R468) -/

/-- FLUSH_REQUEST. -/
def execFlushRequest (t : Nat) (s : State) : Result := .next (((s.tick t).wr F.SCB_CTL_FLUSH 0 1).scbTrigger 4 false)

/-- FLUSH_TIMER: 600 s after the last completed flush; deferred while the area is frozen. -/
def execFlushTimer (t : Nat) (s : State) : Result :=
  let s1 := s.tick t
  .next (if s1.rd F.SCB_STATUS_FROZEN 0 = 1 ∨ s1.now < s1.scb.flushAt + 2400000000000 then s1 else s1.scbTrigger 1 false)

/-- An image in a slot that never held one. -/
def ScbImage.blank : ScbImage := ⟨0, 0, 0, [], false⟩

/-- A flush completes, or fails: while PWR_HOLDUP.OK is 1 a power-fail flush verifies. A flush that waited begins. -/
def State.flushDone (s : State) (ok : Bool) : State :=
  match s.scb.flushing with
  | none => s
  | some reason =>
    let good := ok || (reason == 3 && s.rd F.PWR_HOLDUP_OK 0 == 1)
    let n := (s.rd F.SCB_STATUS_FLUSHES 0 + 1) % 2 ^ 32
    let beat := s.scbBeat.1
    let img : ScbImage := ⟨n, beat, s.rd F.SCB_STATUS_LAYOUT 0, s.scb.recs, good⟩
    let flash := (s.scb.flash ++ List.replicate (2 - s.scb.flash.length) ScbImage.blank).set s.scb.slot img
    let s1 : State := { s with scb := { s.scb with
      flash := flash, flushing := none, flushAgain := none
      slot := if good then 1 - s.scb.slot else s.scb.slot
      flushAt := if good then s.now else s.scb.flushAt
      flushBeat := if good then beat else s.scb.flushBeat } }
    let s2 := s1.wr F.SCB_STATUS_FLUSHING 0 0
    let s3 := if good then ((s2.wr F.SCB_STATUS_FLUSHES 0 n).wr F.SCB_FLUSH_INFO_REASON 0 reason).wr F.SCB_FLUSH_INFO_BEAT 0 beat
      else s2.wr F.SCB_STATUS_FLUSH_FAIL 0 1
    match s.scb.flushAgain with
    | some r => s3.scbFlushBegin r
    | none => s3.wr F.SCB_CTL_FLUSH 0 0

/-- FLUSH_COMPLETE. -/
def execFlushComplete (t : Nat) (ok : Bool) (s : State) : Result := .next ((s.tick t).flushDone ok)

/-! ### Clearing (R470) -/

/-- A record in its empty state, FLAGS kept; the clear is an update, so the sequence words move on. -/
def ScbRec.clear (r : ScbRec) : ScbRec :=
  if r = ScbRec.empty then r
  else { ScbRec.empty with unlFirst := r.unlFirst, unlLast := r.unlLast, seq := (r.seq + 1) % 2 ^ 32 }

/-- CLEAR: refused while the area is frozen. -/
def execScbClear (t : Nat) (s : State) : Result :=
  let s1 := s.tick t
  .next (if s1.rd F.SCB_STATUS_FROZEN 0 = 1 then s1.note 0x0F0 0x8
    else { s1 with scb := { s1.scb with recs := Tab.upd ScbRec.empty s1.scb.recs (s1.rd F.SCB_RATE_SEL_CODE 0) ScbRec.clear } })

/-- CLEAR_ALL: refused while the area is frozen. -/
def execScbClearAll (t : Nat) (s : State) : Result :=
  let s1 := s.tick t
  .next (if s1.rd F.SCB_STATUS_FROZEN 0 = 1 then s1.note 0x0F0 0x10
    else { s1 with scb := { s1.scb with recs := s1.scb.recs.map (fun (e : Nat × ScbRec) => (e.1, e.2.clear)) } })

/-! ### Buckets (R461) -/

/-- The RATE and BURST of a code. -/
def State.scbRate (s : State) (code : Nat) : Nat × Nat :=
  let w := Tab.get rateDefault s.scb.rates code
  (bitsAt w 0 13, bitsAt w 16 8)

/-- A bucket gains what RATE has given it since it last gained, up to BURST. -/
def State.scbRefill (s : State) (code : Nat) : State :=
  let miss := Tab.get 0 s.scb.missing code
  let at' := Tab.get (0, 0) s.scb.since code
  let credit := (s.now - at'.1) * (s.scbRate code).1 + at'.2
  let left := miss - credit / 4000000000
  if miss = 0 then s
  else { s with scb := { s.scb with
    missing := Tab.put 0 s.scb.missing code left
    since := Tab.put (0, 0) s.scb.since code (if left = 0 then (0, 0) else (s.now, credit % 4000000000)) } }

/-- BUCKET_REFILL. -/
def execBucketRefill (t : Nat) (code : BitVec 12) (s : State) : Result := .next ((s.tick t).scbRefill code.toNat)

/-- A write of SCB_RATE for the selected code (R471): tokens held stay, up to the new BURST. -/
def State.scbSetRate (s : State) (rate burst : Nat) : State :=
  let code := s.rd F.SCB_RATE_SEL_CODE 0
  let s1 := s.scbRefill code
  let held := (s1.scbRate code).2 - Tab.get 0 s1.scb.missing code
  let miss := burst - min held burst
  { s1 with scb := { s1.scb with
    rates := Tab.put rateDefault s1.scb.rates code (rate + 65536 * burst)
    missing := Tab.put 0 s1.scb.missing code miss
    since := if miss = 0 then Tab.drop s1.scb.since code
      else if Tab.get 0 s1.scb.missing code = 0 then Tab.put (0, 0) s1.scb.since code (s1.now, 0) else s1.scb.since } }

/-! ### Reading the area (R459, R460, R463) -/

/-- FLAGS of a record. -/
def ScbRec.flags (code : Nat) (r : ScbRec) : Nat := scbFlags code + 8 * bit r.unlFirst + 16 * bit r.unlLast

/-- A compact record. -/
def ScbRec.compact (code : Nat) (r : ScbRec) : Bytes :=
  leBytes 2 code ++ leBytes 2 (r.flags code) ++ leBytes 4 r.count ++ leBytes 4 r.supp ++ leBytes 4 0 ++ leBytes 8 r.first ++ leBytes 8 r.last ++
    leBytes 4 r.min ++ leBytes 4 r.max ++ leBytes 8 0 ++ (List.range 16).flatMap (fun i => leBytes 3 (Tab.get 0 r.hist i))

/-- A full record. -/
def ScbRec.wide (code : Nat) (r : ScbRec) : Bytes :=
  leBytes 4 r.seq ++ leBytes 2 code ++ leBytes 2 (r.flags code) ++ leBytes 4 r.count ++ leBytes 4 r.supp ++ leBytes 8 r.first ++
    leBytes 8 r.last ++ leBytes 4 r.min ++ leBytes 4 r.max ++ leBytes 4 r.value ++ leBytes 4 0 ++
    (List.range 16).flatMap (fun i => leBytes 4 (Tab.get 0 r.hist i)) ++ leBytes 12 0 ++ leBytes 4 r.seq

/-- The header of the area. -/
def State.scbHeader (s : State) : Bytes :=
  let full := s.rd F.SCB_STATUS_LAYOUT 0 == 1
  leBytes 4 0x00010000 ++ leBytes 2 (bit full) ++ leBytes 2 (if full then 4096 else 1024) ++ leBytes 2 (if full then 128 else 96) ++
    leBytes 6 0 ++ leBytes 8 (s.rd F.SCB_STATUS_FLUSHES 0) ++ leBytes 8 s.scb.flushBeat ++ leBytes 32 0

/-- The 8 bytes of the area at a multiple of 8; none at or beyond its end. -/
def State.scbArea (s : State) (off : Nat) : Option Nat :=
  let full := s.rd F.SCB_STATUS_LAYOUT 0 == 1
  let size := if full then 128 else 96
  let codes := if full then 4096 else 1024
  if off < 64 then some (fieldAt s.scbHeader off 8)
  else
    let code := (off - 64) / size
    let r := Tab.get ScbRec.empty s.scb.recs code
    if codes ≤ code then none
    else some (fieldAt (if full then r.wide code else r.compact code) ((off - 64) % size) 8)

/-- A read of SCB_DATA: its size and offset; an 8-byte read and a 4-byte read of the low half advance the cursor. -/
def State.scbDataRead (s : State) (size off : Nat) : State :=
  let cur := s.rd F.SCB_CURSOR_OFFSET 0
  let give (v : Nat) (go : Bool) : State :=
    ({ s with out := s.out ++ [.scb v] } : State).wr F.SCB_CURSOR_OFFSET 0 (if go then cur + 8 else cur)
  match s.scbArea cur with
  | none => give 0 false
  | some v =>
    if size = 8 ∧ off = 0 then give v true
    else if size = 4 ∧ off = 0 then give (v % 2 ^ 32) true
    else if size = 4 ∧ off = 4 then give (v / 2 ^ 32) false
    else give 0 false

/-- SCB_DATA_READ. -/
def execScbDataRead (t : Nat) (size off : Nat) (s : State) : Result := .next ((s.tick t).scbDataRead size off)

end Sys2Proof.Machine
end

