-- ==== Sys2Proof/Machine/Registers.lean ====
section
/-! DEFINITION. Registers as the views show them (R6 to R11, R332 to R341): where an offset lies, what a read returns, and the writes that
have no row of their own. -/

namespace Sys2Proof.Machine

/-! ### Where an offset lies (R332 to R335) -/

/-- The copy of a register array that an offset from the array's start lies in, and the byte within it. -/
def idxAt : List (Nat × Nat) → Nat → Option (Nat × Nat)
  | [], r => some (0, r)
  | (c, d) :: ds, r =>
    if d = 0 ∨ c ≤ r / d then none
    else match idxAt ds (r % d) with
      | none => none
      | some (i, m) => some (r / d * (ds.map (fun e => e.1)).foldl (· * ·) 1 + i, m)

/-- A register found at an offset: its pier or tile, the copy within it, and the byte. -/
structure Hit where
  reg : Reg
  part : Nat
  idx : Nat
  byte : Nat
deriving DecidableEq, Repr

/-- A register at an offset from its part's base. -/
def Reg.hit (r : Reg) (part off : Nat) : Option Hit :=
  if off < r.off then none
  else match idxAt r.dims (off - r.off) with
    | some (i, m) => if m < r.bits / 8 then some ⟨r, part, i, m⟩ else none
    | none => none

/-- The register whose value a byte of the control view belongs to. -/
def controlAt (off : Nat) : Option Hit :=
  allRegs.findSome? (fun r =>
    if r.view ≠ .control then none
    else match r.scope with
      | .dev => r.hit 0 off
      | .pier => if 0x780000 ≤ off ∧ off < 0x788000 then r.hit ((off - 0x780000) / 0x1000) ((off - 0x780000) % 0x1000) else none
      | .tile => if 0x800000 ≤ off ∧ off < 0x868000 then r.hit ((off - 0x800000) / 0x1000) ((off - 0x800000) % 0x1000) else none)

/-- The register whose value a byte of the job view belongs to: bytes 8 to 15 of its 16. -/
def jobAt (off : Nat) : Option Hit :=
  if off % 16 < 8 then none
  else allRegs.findSome? (fun r => if r.view = .job ∧ r.off = off / 16 * 16 then some ⟨r, 0, 0, off % 8⟩ else none)

/-- The fields of a register. -/
def fieldsOf (r : Reg) : List Fld := allFields.filter (fun f => f.reg == r.id)

/-- The copy of a field that a hit names. -/
def Hit.copy (h : Hit) (f : Fld) : Nat :=
  match f.scope with
  | .dev _ => h.idx
  | .pier n => h.part * n + h.idx
  | .tile n => h.part * n + h.idx

/-! ### Reading (R6, R66, R333, R335) -/

/-- The clock-frame index of the nearest rest frame decided for a later frame. -/
def State.nextRestNow (s : State) : Option Nat := s.beat.nextRest (s.frameNow)

/-- STATE of an array partition (R132): 3 frozen, 1 before the span of its pass ends, 2 until its results are out. -/
def State.arrState (s : State) (x k : Nat) : Nat :=
  let p := s.part x k
  if s.gclk < p.streamEnd then (if s.frozen then 3 else 1)
  else if p.passes.isEmpty then 0 else if s.frozen then 3 else 2

/-- STATE of the MV path (R132). -/
def State.mvState (s : State) (x : Nat) : Nat :=
  let t := s.tile x
  if t.mv.any (fun m => decide (m.chunk < mdSpan m.desc)) then (if s.frozen then 3 else 1)
  else if t.mv.isEmpty then 0 else if s.frozen then 3 else 2

/-- Fields that show other state. -/
def State.shown (s : State) (f : Fld) (i : Nat) : Option Nat :=
  let c := s.ctx (i / 4) (i % 4)
  if f = F.FRONT_STATUS_STATUS then some (s.statusField 0)
  else if f = F.FRONT_STATUS_OPEN then some (s.rd F.FRONT_RING_CTL_OPEN 0)
  else if f = F.FRONT_STATUS_RING_ERR then some (s.rd F.FRONT_RING_CTL_RING_ERR 0)
  else if f = F.BEAT_COUNT_COUNT then some s.beatNow
  else if f = F.BEAT_HOLD_HOLDING then some (bit (s.beat.heldAt s.frameNow))
  else if f = F.BEAT_HOLD_OWN_HOLD then some (bit (s.beat.holders.any (fun h => h.1 == s.selfIndex)))
  else if f = F.BEAT_HOLD_HOLDERS then some (min 255 s.beat.holders.length)
  else if f = F.BEAT_HOLD_REST_DUE then some (bit s.nextRestNow.isSome)
  else if f = F.BEAT_HOLD_NEXT_REST then some (s.nextRestNow.getD 0 % 65536)
  else if f = F.ARR_STATUS_STATE then some (s.arrState (i / 4) (i % 4))
  else if f = F.ARR_MV_STATUS_STATE then some (s.mvState i)
  else if f = F.RNG_CTX_OPEN then some (bit c.opened)
  else if f = F.RNG_CTX_MODE then some (bit c.seq)
  else if f = F.RNG_CTX_K3 then some (bit c.k3)
  else if f = F.RNG_CTX_BUSY then some (bit c.busy)
  else if f = F.RNG_CTX_KEY_CHECK then some (if c.opened then plgDraw s.seed c.key 0 % 2 ^ 32 else 0)
  else if f = F.RNG_POS_E then some c.e
  else if f = F.SLC_STATUS_SC_DIRTY then some (((s.tile i).slice.cache.filter (fun l => l.2.dirty)).length)
  else if f = F.SEQ_CTL_POWER then
    some (if 3 ≤ (s.tile i).facts.health ∨ s.role i = 3 then 0 else if s.memOnly i then 1 else 2)
  else if f = F.PCH_STATUS_CACHE_WAYS then some (s.rd F.PCH_STATUS_IN_SERVICE i - s.rd F.PCH_CFG_SCR_WAYS i)
  else if f = F.SCB_RATE_RATE then some (s.scbRate (s.rd F.SCB_RATE_SEL_CODE 0)).1
  else if f = F.SCB_RATE_BURST then some (s.scbRate (s.rd F.SCB_RATE_SEL_CODE 0)).2
  else if f = F.SCB_DATA_DATA then some ((s.scbArea (s.rd F.SCB_CURSOR_OFFSET 0)).getD 0)
  else none

/-- What a read of a field returns: 0 for a write-only field. -/
def State.readField (s : State) (f : Fld) (i : Nat) : Nat :=
  if f.acc = .wo then 0 else (s.shown f i).getD (s.rd f i)

/-- Whether a register of a memory-only tile stays in service (R66): SEQ_CTL and the tile-scoped SLC_ registers. -/
def memOnlyServes (r : Reg) : Bool := r.scope != .tile || r.off == 0 || (decide (0x600 ≤ r.off) && decide (r.off < 0x700))

/-- The value of a register: its fields in their places, reserved bits 0. -/
def State.readReg (s : State) (h : Hit) : Nat :=
  if h.reg.scope = .tile ∧ s.memOnly h.part ∧ !memOnlyServes h.reg then 0
  else (fieldsOf h.reg).foldl (fun a f => a + (s.readField f (h.copy f) % 2 ^ f.w) <<< f.lo) 0

/-- A read of a view: 8 bytes if `wide`, else 4. An offset that holds no register reads 0; each job-view register begins with
FRONT_STATUS. -/
def State.readView (s : State) (view : View) (off : Nat) (wide : Bool) : Nat :=
  let n := if wide then 8 else 4
  let byteAt (o : Nat) : Nat :=
    match view with
    | .control => (match controlAt o with | some h => bitsAt (s.readReg h) (8 * h.byte) 8 | none => 0)
    | .job =>
      if o % 16 < 4 then bitsAt (s.statusField 0 + s.rd F.FRONT_RING_CTL_OPEN 0 * 2 ^ 16 + s.rd F.FRONT_RING_CTL_RING_ERR 0 * 2 ^ 17)
        (8 * (o % 16)) 8
      else (match jobAt o with | some h => bitsAt (s.readReg h) (8 * h.byte) 8 | none => 0)
  (List.range n).foldl (fun a k => a + byteAt (off + k) * 2 ^ (8 * k)) 0

/-! ### Writing (R6 to R11) -/

/-- The part of a write that falls on a register: the bits written and their values. -/
structure WriteBits where
  mask : Nat
  value : Nat
deriving DecidableEq, Repr

/-- The bits of a field in a write. -/
def WriteBits.hits (w : WriteBits) (f : Fld) : Bool := bitsAt w.mask f.lo f.w != 0
/-- A field's value with the written bits in place. -/
def WriteBits.merge (w : WriteBits) (f : Fld) (old : Nat) : Nat :=
  let m := bitsAt w.mask f.lo f.w
  (old &&& (2 ^ f.w - 1 - m)) ||| (bitsAt w.value f.lo f.w &&& m)
/-- The bits written as 1. -/
def WriteBits.ones (w : WriteBits) (f : Fld) : Nat := bitsAt w.value f.lo f.w &&& bitsAt w.mask f.lo f.w

/-- Whether a value is an encoding the field lists. -/
def Fld.listed (f : Fld) (v : Nat) : Bool := f.legal.isEmpty || f.legal.any (fun r => decide (r.1 ≤ v) && decide (v ≤ r.2))

/-- A setting written counts as rewritten; a group of SYS_CFG_LOST with nothing left to rewrite clears (R373, R377). -/
def State.rewritten (s : State) (f : Fld) : State :=
  if !s.life.rewrite.contains f.id then s
  else
    let left := s.life.rewrite.filter (fun i => i != f.id)
    let s1 : State := { s with life := { s.life with rewrite := left } }
    let none? (g : Grp) : Bool := !left.any (fun i => match allFields[i]? with | some e => e.grp == g | none => false)
    match f.grp with
    | .beat => if none? .beat then s1.wr F.SYS_CFG_LOST_BEAT 0 0 else s1
    | .thermal => if none? .thermal then s1.wr F.SYS_CFG_LOST_THERMAL 0 0 else s1
    | .other => if none? .other then s1.wr F.SYS_CFG_LOST_OTHER 0 0 else s1
    | _ => s1

/-- Fields whose write is a row of the table. -/
def ownRow : List Fld :=
  [F.SEQ_THREAD_CTL_START, F.SEQ_THREAD_CTL_STOP, F.SLC_FLIP_MASK_ARM, F.SLC_SCRUB_CTL_START, F.SLC_SCRUB_CTL_ABORT, F.PCH_INVAL_GO,
   F.BEAT_HOLD_REQ_REST, F.BEAT_HOLD_REQ_HOLD, F.BEAT_HOLD_REQ_RESUME, F.BND_CTL_LOAD, F.LNK_CTL_RETRAIN, F.LNK_CTL_DISABLE, F.BRG_CTL_RETRAIN,
   F.FRONT_RING_CTL_OPEN, F.FRONT_SQ_PTRS_TAIL, F.FRONT_RQ_PTRS_HEAD, F.SYS_RESET_KIND, F.SYS_RESET_PIER, F.SYS_RESET_POSITION, F.SYS_POWER_REQ,
   F.THM_TRIP_VALID, F.THM_COMMISSION_START, F.TWN_CTL_TAKEOVER, F.TWN_CTL_BACKFILL, F.TWN_CTL_RELEASE, F.QUO_CMD_OP, F.QUO_CMD_ARG,
   F.QUO_CMD_LENGTH, F.SCB_CTL_FREEZE, F.SCB_CTL_THAW, F.SCB_CTL_FLUSH, F.SCB_CTL_CLEAR, F.SCB_CTL_CLEAR_ALL, F.MRG_CTL_START, F.MRG_CTL_ABORT]

/-- A field takes a write under its access code; whether the write is recorded (R6, R9, R10, R11). -/
def State.fieldWrite (s : State) (h : Hit) (w : WriteBits) (f : Fld) : State × Bool :=
  let i := h.copy f
  if !w.hits f then (s, false)
  else if ownRow.contains f then (s, false)
  else match f.acc with
    | .ro => (s, f.recd)
    | .w1c => (s.wr f i (s.rd f i &&& (2 ^ f.w - 1 - w.ones f)), false)
    | .rw1s => (s.wr f i (s.rd f i ||| w.ones f), false)
    | .wo => (s, false)
    | .rw | .rwl =>
      let v := w.merge f (s.rd f i) / 2 ^ f.lowZero * 2 ^ f.lowZero
      if f.listed v then ((s.wr f i v).rewritten f, false) else (s, true)

/-- The fields of a register take a write, in order; whether it is recorded. -/
def State.fieldsWrite (h : Hit) (w : WriteBits) : List Fld → State → State × Bool
  | [], s => (s, false)
  | f :: r, s =>
    let a := s.fieldWrite h w f
    let b := State.fieldsWrite h w r a.1
    (b.1, a.2 || b.2)

/-- Whether a write places a reserved encoding in a write-only field, so that none of it acts (R11). -/
def badCommand (h : Hit) (w : WriteBits) : Bool :=
  (fieldsOf h.reg).any (fun f => f.acc == .wo && w.hits f && !f.listed (w.ones f))

/-- Whether the state of the block makes it ignore, and record, any write to the register: base registers of a running tile (R71, R131,
R225), the flip mask while armed (R195), an invalidation in progress (R200), rings while open (R343), maps of the running slot (R328), a
pattern for a frame less than two ahead (R278), and a map entry with a reserved encoding. -/
def State.ignores (s : State) (h : Hit) (w : WriteBits) : Bool :=
  let n := h.reg.id
  let i := h.idx
  if h.reg.scope = .tile ∧ s.memOnly h.part ∧ !memOnlyServes h.reg then true
  else if n = Rg.SEQ_PLAY_BASE then s.running h.part i
  else if n = Rg.SEQ_XCH_DESC_BASE ∨ n = Rg.ARR_DESC_BASE ∨ n = Rg.BKU_CMD_BASE then s.anyRunning h.part
  else if n = Rg.SLC_FLIP_MASK then s.rd F.SLC_FLIP_MASK_ARM h.part == 1
  else if n = Rg.PCH_INVAL then s.rd F.PCH_INVAL_GO h.part == 1
  else if n = Rg.FRONT_SQ ∨ n = Rg.FRONT_RQ then s.rd F.FRONT_RING_CTL_OPEN 0 == 1
  else if n = Rg.LNK_MAP then
    let v := w.merge F.LNK_MAP_ENTRY (s.rd F.LNK_MAP_ENTRY i)
    ((s.img s.activeSlot).loaded && i % 192 / 96 == s.activeSlot) || ((mapUse v == 1 || mapUse v == 2) && decide (96 ≤ mapTile v))
  else if n = Rg.BEAT_SLICE then (s.frameNamed (w.merge F.BEAT_SLICE_TARGET (s.rd F.BEAT_SLICE_TARGET 0))).isNone
  else false

/-- A base register counts as written (R70): its bit among those of `Tile.bases`. -/
def State.baseWritten (s : State) (x b : Nat) : State :=
  (s.updTile x (fun t => { t with bases := t.bases ||| 2 ^ b })).evalConfigured x

/-- W1C bits of ATT_TRAP0 and ATT_TRAP1 whose tile still holds a trap stay set (R341). -/
def State.attTrapAfresh (s : State) : State :=
  (List.range 104).foldl (fun a x => if a.rd F.SEQ_THREAD_CTL_TRAPPED x != 0 then a.setAttTrap x true else a) s

/-- Causes whose condition still holds are set again (R340). -/
def State.attAgain (s : State) : State := s.attConditions.foldl (fun a (c : Fld × Bool) => if c.2 then a.attn c.1 else a) s

/-- DISABLE cleared: the port is UNTRAINED again, and trains when it finds its partner (R322, R328). -/
def State.portEnable (s : State) (q : Nat) : State :=
  if s.rd F.LNK_CTL_DISABLE q = 0 then s
  else ((s.wr F.LNK_CTL_DISABLE q 0).wr F.LNK_STATUS_STATE q 3).wr F.LNK_STATUS_DOWN_REASON q 0

/-- What a write of a register brings about beside its fields. -/
def State.afterWrite (s : State) (h : Hit) (w : WriteBits) : State :=
  let n := h.reg.id
  if n = Rg.SEQ_PLAY_BASE then s.baseWritten h.part h.idx
  else if n = Rg.SEQ_XCH_DESC_BASE then s.baseWritten h.part 4
  else if n = Rg.ARR_DESC_BASE then s.baseWritten h.part 5
  else if n = Rg.BKU_CMD_BASE then s.baseWritten h.part 6
  else if n = Rg.BEAT_SLICE then s.wr F.BEAT_SLICE_PENDING 0 1
  else if n = Rg.ATT_PENDING then s.attAgain
  else if n = Rg.ATT_TRAP0 ∨ n = Rg.ATT_TRAP1 then s.attTrapAfresh
  else if n = Rg.LNK_MAP then s.wr F.LNK_MAP_ENTRY h.idx (s.rd F.LNK_MAP_ENTRY h.idx % 2 ^ 13)
  else if n = Rg.LNK_CTL then
    (if w.hits F.LNK_CTL_DISABLE && w.ones F.LNK_CTL_DISABLE == 0 then s.portEnable h.idx else s)
  else if n = Rg.SLC_ERR then
    (if s.rd F.SLC_ERR_VALID h.part = 0 then
      s.wrs h.part [(F.SLC_ERR_MORE, 0), (F.SLC_ERR_PATH, 0), (F.SLC_ERR_COURSE, 0), (F.SLC_ERR_LINE, 0)] else s)
  else if n = Rg.FRONT_WIN_LAST then
    (if s.rd F.FRONT_WIN_LAST_VALID 0 = 0 then s.wrs 0 [(F.FRONT_WIN_LAST_CODE, 0), (F.FRONT_WIN_LAST_WRITE, 0), (F.FRONT_WIN_LAST_DPA, 0)]
    else s)
  else s

/-- A write that falls on one register; whether it is recorded. -/
def State.regWrite (s : State) (h : Hit) (w : WriteBits) : State × Bool :=
  if badCommand h w || s.ignores h w then (s, true)
  else if h.reg.id = Rg.SCB_RATE then
    let c := s.rd F.SCB_RATE_SEL_CODE 0
    let rate := w.merge F.SCB_RATE_RATE (s.scbRate c).1
    let burst := w.merge F.SCB_RATE_BURST (s.scbRate c).2
    let ok := F.SCB_RATE_RATE.listed rate
    (((s.scbSetRate (if ok then rate else (s.scbRate c).1) burst).rewritten F.SCB_RATE_RATE), !ok)
  else
    let r := State.fieldsWrite h w (fieldsOf h.reg) s
    (r.1.afterWrite h w, r.2)

/-- The registers that the bytes of a write fall on, each once. -/
def hitsOf (view : View) (off n : Nat) : List Hit :=
  ((List.range n).filterMap (fun k => (match view with
    | .control => controlAt (off + k)
    | .job => jobAt (off + k)).map (fun h => (k, h)))).foldl (fun (a : List (Nat × Hit)) e =>
      if a.any (fun g => g.2.reg.id == e.2.reg.id && g.2.part == e.2.part && g.2.idx == e.2.idx) then a else a ++ [e]) []
    |>.map (fun e => { e.2 with byte := e.2.byte + 8 - e.1 })

/-- The bits of a write that fall on a register whose byte 0 lies at byte `h.byte` - 8 below the write. -/
def bitsFor (h : Hit) (n value : Nat) : WriteBits :=
  let sh (v : Nat) : Nat := v * 2 ^ (8 * h.byte) / 2 ^ 64 % 2 ^ h.reg.bits
  ⟨sh (2 ^ (8 * n) - 1), sh (value % 2 ^ (8 * n))⟩

/-- A register write (R6 to R11, R333, R335): an ignored one is recorded once, with its offset; one to an offset of the control view that
holds no register is ignored and recorded, one to such an offset of the job view is ignored. -/
def State.viewWrite (s : State) (view : View) (off : Nat) (wide : Bool) (value : Nat) : State :=
  let n := if wide then 8 else 4
  let hs := hitsOf view off n
  if hs.isEmpty then (if view = .control ∧ !(decide (0xA00000 ≤ off) && decide (off < 0xAD0000)) then s.noteWrite off else s)
  else
    let r := hs.foldl (fun (a : State × Bool) h =>
      let b := a.1.regWrite h (bitsFor h n value)
      (b.1, a.2 || b.2)) (s, false)
    if r.2 then r.1.noteWrite off else r.1

/-- REGISTER_WRITE. -/
def execRegisterWrite (t : Nat) (view : View) (off : Nat) (wide : Bool) (value : Word64) (s : State) : Result :=
  .next ((s.tick t).viewWrite view off wide value.toNat)

end Sys2Proof.Machine
end

