-- ==== Sys2Proof/Machine/Spdm.lean ====
section
/-! DEFINITION. Quoin as an SPDM 1.2 responder (R443 to R445). The form of the messages is that of DMTF DSP0274 1.2, which the spec names
and does not restate (log entry 49). A request within a session is given as the session's ID, 4 bytes, and the deciphered message. -/

namespace Sys2Proof.Machine

/-! ### Answers -/

/-- The number of a transport among the places a response leaves by. -/
def trCode : Transport → Nat
  | .doe => 0 | .mctp => 1

/-- A response leaves by its transport. -/
def State.sayTo (s : State) (tr : Transport) (b : Bytes) : State := { s with out := s.out ++ [.response (trCode tr) b] }

/-- The first four bytes of a message of version 1.2. -/
def spdmHead (code p1 p2 : Nat) : Bytes := [0x12, BitVec.ofNat 8 code, BitVec.ofNat 8 p1, BitVec.ofNat 8 p2]
/-- An ERROR with its code and data. -/
def spdmError (code data : Nat) : Bytes := spdmHead 0x7F code data

/-- Whether step 1 of a start-up has completed, so that Quoin answers otherwise than Busy (R443). -/
def State.spdmUp (s : State) : Bool :=
  let g := s.rd F.SYS_BOOT_STATUS_STAGE 0
  g != 0 && !(g == 0xF && s.rd F.SYS_BOOT_STATUS_FAIL_STAGE 0 == 0)

/-- The state of a connection. -/
def State.conn (s : State) (tr : Transport) : Conn := Tab.get Conn.none s.quoin.conns (trCode tr)
/-- A connection changed. -/
def State.updConn (s : State) (tr : Transport) (f : Conn → Conn) : State :=
  { s with quoin := { s.quoin with conns := Tab.upd Conn.none s.quoin.conns (trCode tr) f } }
/-- The open sessions, and their number in QUO_STATUS. -/
def State.setSessions (s : State) (l : List Session) : State :=
  ({ s with quoin := { s.quoin with sessions := l } } : State).wr F.QUO_STATUS_SESSIONS 0 l.length
/-- A draw from Quoin's generator. -/
def State.draw256 (s : State) : BitVec 256 × State :=
  (Config.trng s.quoin.draws, { s with quoin := { s.quoin with draws := s.quoin.draws + 1 } })

/-- A request of length `n` at least in a phase of its connection from `lo` to `hi`: Busy until step 1 completes, then the version, the
phase and the length are checked. A module without power answers nothing. -/
def State.spdmTake (s : State) (tr : Transport) (req : Bytes) (lo hi n : Nat) (f : State) : State :=
  if !s.life.powered then s
  else if !s.spdmUp then s.sayTo tr (spdmError 0x03 0)
  else if fieldAt req 0 1 ≠ 0x12 then s.sayTo tr (spdmError 0x41 0)
  else if (s.conn tr).phase < lo ∨ hi < (s.conn tr).phase then s.sayTo tr (spdmError 0x04 0)
  else if req.length < n then s.sayTo tr (spdmError 0x01 0)
  else f

/-! ### Negotiation (R443, R444) -/

/-- GET_VERSION: 1.2 only. The connection begins afresh, and its sessions end. -/
def State.spdmVersion (s : State) (tr : Transport) (req : Bytes) : State :=
  if !s.life.powered then s
  else if !s.spdmUp then s.sayTo tr (spdmError 0x03 0)
  else
    let rsp : Bytes := [0x10, 0x04, 0, 0, 0, 1, 0x00, 0x12]
    let s1 := s.setSessions (s.quoin.sessions.filter (fun v => v.tr != tr))
    let s2 : State := { s1 with quoin := { s1.quoin with deferred := s1.quoin.deferred.filter (fun d => d.tr != tr) } }
    (s2.updConn tr (fun _ => ⟨1, req ++ rsp, [], []⟩)).sayTo tr rsp

/-- The flags of the capabilities of R444: CERT, CHAL, MEAS with signatures, MEAS_FRESH, ENCRYPT, MAC, KEY_EX, HBEAT and KEY_UPD. -/
def spdmFlags : Nat := 0x2 + 0x4 + 0x10 + 0x20 + 0x40 + 0x80 + 0x200 + 0x2000 + 0x4000

/-- GET_CAPABILITIES, with CTExponent 16. -/
def State.spdmCapabilities (s : State) (tr : Transport) (req : Bytes) : State :=
  s.spdmTake tr req 1 1 20 (
    let rsp := spdmHead 0x61 0 0 ++ [0, 16, 0, 0] ++ leBytes 4 spdmFlags ++ leBytes 4 Config.spdmTransferSize.toNat ++
      leBytes 4 Config.spdmTransferSize.toNat
    (s.updConn tr (fun c => { c with phase := 2, vca := c.vca ++ req ++ rsp })).sayTo tr rsp)

/-- The algorithm tables of a NEGOTIATE_ALGORITHMS: type and what it offers. -/
def algTables : Nat → Bytes → List (Nat × Nat)
  | 0, _ => []
  | n + 1, b => (fieldAt b 0 1, fieldAt b 2 2) :: algTables n (b.drop (4 + 4 * (fieldAt b 1 1 % 16)))

/-- Whether a table offers what is selected: DHE SM2_P256, AEAD SM4_GCM, the SPDM key schedule. -/
def algOffered (ts : List (Nat × Nat)) (ty mask : Nat) : Bool := ts.any (fun t => t.1 == ty && t.2 &&& mask != 0)

/-- Whether a request offers every selection of R443: DMTF measurements, OpaqueDataFmt1, TPM_ALG_SM2_ECC_SM2_P256, TPM_ALG_SM3_256 and the
tables. -/
def algsOffered (req : Bytes) : Bool :=
  let ts := algTables (fieldAt req 2 1) (req.drop (32 + 4 * (fieldAt req 28 1 + fieldAt req 29 1)))
  (fieldAt req 6 1).testBit 0 && (fieldAt req 7 1).testBit 1 && (fieldAt req 8 4).testBit 9 && (fieldAt req 12 4).testBit 6 &&
    algOffered ts 2 0x40 && algOffered ts 3 0x08 && algOffered ts 5 0x01

/-- The ALGORITHMS response. -/
def algsRsp : Bytes :=
  spdmHead 0x63 3 0 ++ leBytes 2 48 ++ [1, 2] ++ leBytes 4 0x80 ++ leBytes 4 0x200 ++ leBytes 4 0x40 ++ List.replicate 16 0 ++
    [2, 0x20, 0x40, 0] ++ [3, 0x20, 0x08, 0] ++ [5, 0x20, 0x01, 0]

/-- NEGOTIATE_ALGORITHMS (R443). -/
def State.spdmAlgorithms (s : State) (tr : Transport) (req : Bytes) : State :=
  s.spdmTake tr req 2 2 32 (
    if !algsOffered req then s.sayTo tr (spdmError 0x01 0)
    else (s.updConn tr (fun c => { c with phase := 3, vca := c.vca ++ req ++ algsRsp })).sayTo tr algsRsp)

/-! ### Certificates (R444) -/

/-- The private alias key (R434). -/
def State.aliasKey (s : State) : BitVec 256 := Config.aliasKey Config.huk (s.quoin.meas.take 4)
/-- The chain of slot 0 or 1. -/
def State.chain (s : State) (slot : Nat) : Bytes := Config.certChain slot (Config.sm2Public s.aliasKey)
/-- The digest of a chain. -/
def State.chainDigest (s : State) (slot : Nat) : Bytes := digestBytes (Config.sm3 (s.chain slot))

/-- GET_DIGESTS: slots 0 and 1. -/
def State.spdmDigests (s : State) (tr : Transport) (req : Bytes) : State :=
  s.spdmTake tr req 3 3 4 (
    let rsp := spdmHead 0x01 0 3 ++ s.chainDigest 0 ++ s.chainDigest 1
    (s.updConn tr (fun c => { c with certs := c.certs ++ req ++ rsp })).sayTo tr rsp)

/-- GET_CERTIFICATE: a portion of the chain of slot 0 or 1. -/
def State.spdmCertificate (s : State) (tr : Transport) (req : Bytes) : State :=
  s.spdmTake tr req 3 3 8 (
    let slot := fieldAt req 2 1 % 16
    let off := fieldAt req 4 2
    let ch := s.chain slot
    if 1 < slot ∨ ch.length ≤ off then s.sayTo tr (spdmError 0x01 0)
    else
      let part := (ch.drop off).take (fieldAt req 6 2)
      let rsp := spdmHead 0x02 slot 0 ++ leBytes 2 part.length ++ leBytes 2 (ch.length - off - part.length) ++ part
      (s.updConn tr (fun c => { c with certs := c.certs ++ req ++ rsp })).sayTo tr rsp)

/-! ### Signed answers (R445) -/

/-- The bytes of a text. -/
def textBytes (t : String) : Bytes := t.toList.map (fun c => BitVec.ofNat 8 c.toNat)

/-- What the alias key signs for a context and a transcript. -/
def spdmDigest (context : String) (m : Bytes) : BitVec 256 :=
  let c := textBytes context
  let pre := (List.replicate 4 (textBytes "dmtf-spdm-v1.2.*")).flatten ++ List.replicate (36 - c.length) 0 ++ c
  Config.sm3 (pre ++ digestBytes (Config.sm3 m))

/-- A signature with the alias key, big-endian as R437 has it. -/
def State.aliasSign (s : State) (context : String) (m : Bytes) : Bytes × State :=
  let r := s.draw256
  (beBytes 64 (Config.sm2Sign s.aliasKey (spdmDigest context m) r.1).toNat, r.2)

/-- Measurement block n + 1: register n as a digest in the DMTF representation. -/
def State.measBlock (s : State) (n : Nat) : Bytes :=
  leBytes 1 (n + 1) ++ [1] ++ leBytes 2 35 ++ leBytes 1 (Config.measType n).toNat ++ leBytes 2 32 ++ digestBytes (s.measReg n)

/-- The measurement summary a request asks for: none, the trusted base, or all. -/
def State.measSummary (s : State) (kind : Nat) : Bytes :=
  if kind = 0 then []
  else digestBytes (Config.sm3 (((List.range 16).filter (fun n => kind == 0xFF || Config.measTcb n)).flatMap s.measBlock))

/-- CHALLENGE of slot 0, whose leaf signs. -/
def State.spdmChallengeNow (s : State) (tr : Transport) (req : Bytes) : State :=
  if fieldAt req 2 1 ≠ 0 then s.sayTo tr (spdmError 0x01 0)
  else
    let c := s.conn tr
    let n := s.draw256
    let body := spdmHead 0x03 0 3 ++ s.chainDigest 0 ++ digestBytes n.1 ++ s.measSummary (fieldAt req 3 1) ++ [0, 0]
    let g := n.2.aliasSign "responder-challenge_auth signing" (c.vca ++ c.certs ++ req ++ body)
    (g.2.updConn tr (fun v => { v with certs := [] })).sayTo tr (body ++ g.1)

/-- GET_MEASUREMENTS: the number of blocks, all of them or one; signed on request. -/
def State.spdmMeasurementsNow (s : State) (tr : Transport) (req : Bytes) : State :=
  let op := fieldAt req 3 1
  let signed := (fieldAt req 2 1).testBit 0
  if (16 < op ∧ op ≠ 0xFF) ∨ (signed ∧ (req.length < 37 ∨ fieldAt req 36 1 ≠ 0)) then s.sayTo tr (spdmError 0x01 0)
  else
    let blocks := if op = 0 then [] else if op = 0xFF then List.range 16 else [op - 1]
    let blk := blocks.flatMap s.measBlock
    let n := s.draw256
    let body := spdmHead 0x60 (if op = 0 then 16 else 0) 0 ++ leBytes 1 blocks.length ++ leBytes 3 blk.length ++ blk ++ digestBytes n.1 ++ [0, 0]
    let c := s.conn tr
    if signed then
      let g := n.2.aliasSign "responder-measurements signing" (c.vca ++ c.meas ++ req ++ body)
      (g.2.updConn tr (fun v => { v with meas := [] })).sayTo tr (body ++ g.1)
    else (n.2.updConn tr (fun v => { v with meas := v.meas ++ req ++ body })).sayTo tr body

/-- KEY_EXCHANGE: at most 4 sessions. -/
def State.spdmKeyExchangeNow (s : State) (tr : Transport) (req : Bytes) : State :=
  if 4 ≤ s.quoin.sessions.length then s.sayTo tr (spdmError 0x0A 0)
  else if fieldAt req 3 1 ≠ 0 then s.sayTo tr (spdmError 0x01 0)
  else
    let e := s.draw256
    let n := e.2.draw256
    let rsp := s.quoin.nextSession % 65536
    let op := Config.keyOpaque ((req.drop 106).take (fieldAt req 104 2))
    let body := spdmHead 0x64 Config.heartbeatPeriod.toNat 0 ++ leBytes 2 rsp ++ [0, 0] ++ digestBytes n.1 ++
      beBytes 64 (Config.sm2Public e.1).toNat ++ s.measSummary (fieldAt req 2 1) ++ leBytes 2 op.length ++ op
    let c := s.conn tr
    let m := c.vca ++ s.chainDigest 0 ++ req ++ body
    let g := n.2.aliasSign "responder-key_exchange_rsp signing" m
    let key := Config.sessionSecret e.1 ((req.drop 40).take 64) (m ++ g.1)
    let th := Config.sm3 (m ++ g.1)
    let verify := digestBytes (Config.hmac key (digestBytes th))
    let v : Session := ⟨fieldAt req 4 2 + 65536 * rsp, tr, false, key, Config.sm3 (m ++ g.1 ++ verify), 0, 0⟩
    let s1 := g.2.setSessions (s.quoin.sessions ++ [v])
    ({ s1 with quoin := { s1.quoin with nextSession := s.quoin.nextSession + 1 } } : State).sayTo tr (body ++ g.1 ++ verify)

/-- A request whose answer is signed: before the alias key is ready, Busy. -/
def State.spdmAnswer (s : State) (tr : Transport) (req : Bytes) : State :=
  if s.rd F.QUO_STATUS_ALIAS_READY 0 = 0 then s.sayTo tr (spdmError 0x03 0)
  else match fieldAt req 1 1 with
    | 0x83 => s.spdmChallengeNow tr req
    | 0xE0 => s.spdmMeasurementsNow tr req
    | _ => s.spdmKeyExchangeNow tr req

/-- A request whose answer may be put off with ResponseNotReady, naming its code and a token. -/
def State.spdmMayDefer (s : State) (tr : Transport) (req : Bytes) : State :=
  if Config.spdmDefers s.freeCtr then
    let tok := s.freeCtr % 256
    let d : Deferred := ⟨tr, tok, req⟩
    ({ s with
      freeCtr := s.freeCtr + 1
      quoin := { s.quoin with deferred := s.quoin.deferred.filter (fun e => e.tr != tr) ++ [d] } } : State).sayTo tr
        (spdmError 0x42 0 ++ [16, BitVec.ofNat 8 (fieldAt req 1 1), BitVec.ofNat 8 tok, 1])
  else ({ s with freeCtr := s.freeCtr + 1 } : State).spdmAnswer tr req

/-- RESPOND_IF_READY: the request it names is answered. -/
def State.spdmRespond (s : State) (tr : Transport) (req : Bytes) : State :=
  s.spdmTake tr req 3 3 4 (
    match s.quoin.deferred.find? (fun d => d.tr == tr && fieldAt d.req 1 1 == fieldAt req 2 1 && d.token == fieldAt req 3 1) with
    | none => s.sayTo tr (spdmError 0x04 0)
    | some d =>
      ({ s with quoin := { s.quoin with deferred := s.quoin.deferred.filter (fun e => e != d) } } : State).spdmAnswer tr d.req)

/-! ### Sessions (R444) -/

/-- A request within a session: the session is one of this transport, complete or not as the request needs. -/
def State.inSession (s : State) (tr : Transport) (req : Bytes) (done : Bool) (n : Nat) (f : Session → Bytes → State) : State :=
  let msg := req.drop 4
  s.spdmTake tr msg 3 3 n (
    match s.quoin.sessions.find? (fun v => v.tr == tr && v.id == fieldAt req 0 4) with
    | none => s.sayTo tr (spdmError 0x02 0)
    | some v => if v.done ≠ done then s.sayTo tr (spdmError 0x04 0) else f v msg)

/-- A session changed. -/
def State.updSession (s : State) (v : Session) : State :=
  s.setSessions (s.quoin.sessions.map (fun e => if e.id == v.id && e.tr == v.tr then v else e))

/-- FINISH: the requester's proof over the handshake. -/
def State.spdmFinish (s : State) (tr : Transport) (req : Bytes) : State :=
  s.inSession tr req false 36 (fun v m =>
    if (m.drop 4).take 32 = digestBytes (Config.hmac v.key (digestBytes v.th ++ m.take 4)) then
      (s.updSession { v with done := true, th := Config.sm3 (digestBytes v.th ++ m) }).sayTo tr (spdmHead 0x65 0 0)
    else s.sayTo tr (spdmError 0x06 0))

/-- HEARTBEAT. -/
def State.spdmBeat (s : State) (tr : Transport) (req : Bytes) : State :=
  s.inSession tr req true 4 (fun _ _ => s.sayTo tr (spdmHead 0x68 0 0))

/-- KEY_UPDATE: 1 updates the requester's direction, 2 both, 3 verifies. -/
def State.spdmKeyUpdate (s : State) (tr : Transport) (req : Bytes) : State :=
  s.inSession tr req true 4 (fun v m =>
    let op := fieldAt m 2 1
    if op = 0 ∨ 3 < op then s.sayTo tr (spdmError 0x01 0)
    else
      let v1 : Session := { v with
        updReq := v.updReq + (if op < 3 then 1 else 0), updRsp := v.updRsp + (if op = 2 then 1 else 0) }
      (s.updSession v1).sayTo tr (spdmHead 0x69 op (fieldAt m 3 1)))

/-- END_SESSION. -/
def State.spdmEnd (s : State) (tr : Transport) (req : Bytes) : State :=
  s.inSession tr req true 4 (fun v _ => (s.setSessions (s.quoin.sessions.filter (fun e => e != v))).sayTo tr (spdmHead 0x6C 0 0))

/-! ### The requests -/

/-- GET_VERSION. -/
def execGetVersion (t : Nat) (tr : Transport) (req : Bytes) (s : State) : Result := .next ((s.tick t).spdmVersion tr req)
/-- GET_CAPABILITIES. -/
def execGetCapabilities (t : Nat) (tr : Transport) (req : Bytes) (s : State) : Result := .next ((s.tick t).spdmCapabilities tr req)
/-- NEGOTIATE_ALGORITHMS. -/
def execNegotiateAlgorithms (t : Nat) (tr : Transport) (req : Bytes) (s : State) : Result := .next ((s.tick t).spdmAlgorithms tr req)
/-- GET_DIGESTS. -/
def execGetDigests (t : Nat) (tr : Transport) (req : Bytes) (s : State) : Result := .next ((s.tick t).spdmDigests tr req)
/-- GET_CERTIFICATE. -/
def execGetCertificate (t : Nat) (tr : Transport) (req : Bytes) (s : State) : Result := .next ((s.tick t).spdmCertificate tr req)
/-- CHALLENGE. -/
def execChallenge (t : Nat) (tr : Transport) (req : Bytes) (s : State) : Result :=
  let s1 := s.tick t
  .next (s1.spdmTake tr req 3 3 36 (s1.spdmMayDefer tr req))
/-- GET_MEASUREMENTS. -/
def execGetMeasurements (t : Nat) (tr : Transport) (req : Bytes) (s : State) : Result :=
  let s1 := s.tick t
  .next (s1.spdmTake tr req 3 3 4 (if (fieldAt req 2 1).testBit 0 then s1.spdmMayDefer tr req else s1.spdmMeasurementsNow tr req))
/-- KEY_EXCHANGE. -/
def execKeyExchange (t : Nat) (tr : Transport) (req : Bytes) (s : State) : Result :=
  let s1 := s.tick t
  .next (s1.spdmTake tr req 3 3 106 (s1.spdmMayDefer tr req))
/-- FINISH. -/
def execFinish (t : Nat) (tr : Transport) (req : Bytes) (s : State) : Result := .next ((s.tick t).spdmFinish tr req)
/-- HEARTBEAT of SPDM. -/
def execSpdmHeartbeat (t : Nat) (tr : Transport) (req : Bytes) (s : State) : Result := .next ((s.tick t).spdmBeat tr req)
/-- KEY_UPDATE. -/
def execKeyUpdate (t : Nat) (tr : Transport) (req : Bytes) (s : State) : Result := .next ((s.tick t).spdmKeyUpdate tr req)
/-- END_SESSION. -/
def execEndSession (t : Nat) (tr : Transport) (req : Bytes) (s : State) : Result := .next ((s.tick t).spdmEnd tr req)
/-- RESPOND_IF_READY. -/
def execRespondIfReady (t : Nat) (tr : Transport) (req : Bytes) (s : State) : Result := .next ((s.tick t).spdmRespond tr req)
/-- Any other request: ERROR with code UnsupportedRequest. -/
def execSpdmUnsupportedRequest (t : Nat) (tr : Transport) (req : Bytes) (s : State) : Result :=
  let s1 := s.tick t
  .next (if !s1.life.powered then s1
    else if !s1.spdmUp then s1.sayTo tr (spdmError 0x03 0)
    else s1.sayTo tr (spdmError 0x07 (fieldAt req 1 1)))

end Sys2Proof.Machine
end

