-- ==== Sys2Proof/Machine/Twins.lean ====
section
/-! DEFINITION. Twins: pairing, mirror records as received, heartbeats and loss, takeover, back-fill and handover (R411 to R430). -/

namespace Sys2Proof.Machine

/-! ### Pairing (R411) -/

/-- Whether every head with MIRROR set on one side has its twin head on the other: equal parameters, MIRROR clear. -/
def headsMatch (a b : List PairHead) : Bool :=
  a.all (fun g => !g.mirror || b.any (fun e => e.tile == g.tile && e.head == g.head + 2 && e.cfg == g.cfg && !e.mirror))

/-- The refusal reason of a pairing record, 0 if it passes. -/
def State.pairReason (s : State) (r : PairRec) : Nat :=
  let m := s.pairRec
  let partner := (s.twinRec.map (fun b => fieldAt b 4 2)).getD 0
  if m.units ≠ r.units ∨ m.units = 0 then 1
  else if !(m.tiles.all r.tiles.contains && r.tiles.all m.tiles.contains) then 2
  else if !(headsMatch m.heads r.heads && headsMatch r.heads m.heads) then 3
  else if m.frameLog2 ≠ r.frameLog2 ∨ m.modules ≠ r.modules ∨ r.index ≠ partner then 4
  else 0

/-- A pairing record of the partner arrives. Committed state is kept only if the checks pass unchanged (R430); a pair newly formed begins
with a resync (R429). -/
def State.pairWith (s : State) (r : PairRec) : State :=
  if !s.mirrorPorts.any s.mirrorUp ∨ (s.twinRec.map (fun b => fieldAt b 8 8)).getD 0 ≠ r.ident.toNat then s
  else
    let why := s.pairReason r
    if why ≠ 0 then
      (((({ s with twin := Twin.idle } : State).setTwin 10).wr F.TWN_STATUS_REFUSE_REASON 0 why).sat F.TWN_COUNT_REFUSALS 0 1).noteFw 5 why
    else if s.paired ∧ s.twin.peer = some (r, s.pairRec) then s
    else
      let w : Twin := { Twin.idle with walk := true, peer := some (r, s.pairRec), hbLast := s.beatNow }
      (({ s with twin := w } : State).setTwin 2).wrs 0
        [(F.TWN_STATUS_REFUSE_REASON, 0), (F.TWN_STATUS_RESYNC, 1), (F.TWN_STATUS_SILENT, 0), (F.TWN_STATUS_PARTNER_STATE, 0)]

/-- PAIRING_RECORD (R411). -/
def execPairingRecord (t : Nat) (rec : PairRec) (s : State) : Result := .next ((s.tick t).pairWith rec)

/-! ### Heartbeats (R423, R424) -/

/-- The sender's state in a heartbeat (R433). -/
def State.senderState (s : State) : Nat :=
  if !s.life.resets.isEmpty then 3
  else if [6, 7, 8].contains s.twinState then 5
  else if s.beat.holders.any (fun h => decide (h.2 ≤ s.frameNow)) then 2
  else if s.anyThread then 1 else 4

/-- The data of a heartbeat: sender state, clock frame, schedule frame, ACK_SEQ. -/
def State.heartbeat (s : State) : Bytes :=
  leBytes 4 s.senderState ++ leBytes 4 s.frameNow ++ leBytes 4 (s.img s.activeSlot).sched ++ leBytes 4 (s.twin.rxSeq + (2 ^ 32 - 1))

/-- A HEARTBEAT goes out on every trained mirror port at a beat that is a multiple of 256; the partner's own is awaited from then. -/
def State.sendHeartbeats (s : State) : State :=
  if s.beatNow % 256 ≠ 0 ∨ !s.paired then s
  else
    let s1 := (s.mirrorPorts.filter s.mirrorUp).foldl (fun a q => a.sendRecordOn q 0x01 0 0 0 0 a.heartbeat) s
    s1.updTwin (fun w => { w with hbDue := some s.beatNow, hbGated := s.beat.gated, hbCounted := false })

/-- MIRROR_HEARTBEAT_SEND (R423). -/
def execMirrorHeartbeatSend (t : Nat) (s : State) : Result := .next ((s.tick t).sendHeartbeats)

/-- No heartbeat by beat b + 128, which freezes move later (R423, R424). -/
def State.heartbeatLate (s : State) : State :=
  match s.twin.hbDue with
  | none => s
  | some b =>
    if s.frozen ∨ s.beatNow < b + 128 + (s.beat.gated - s.twin.hbGated) / 32 ∨ b ≤ s.twin.hbLast ∨ s.twin.hbCounted ∨ !s.paired then s
    else ((s.updTwin (fun w => { w with hbMissed := w.hbMissed + 1, hbCounted := true })).sat F.TWN_COUNT_HB_MISSED 0 1).checkLoss

/-- HEARTBEAT_MISSED (R424). -/
def execHeartbeatMissed (t : Nat) (s : State) : Result := .next ((s.tick t).heartbeatLate)

/-! ### Records received (R415, R416, R419 to R422) -/

/-- Whether the header of a record is sound for its KIND. -/
def mirrorSound (r : Bytes) : Bool :=
  let kind := fieldAt r 0 1
  let len := fieldAt r 4 4
  decide (32 ≤ r.length) && decide (1 ≤ kind) && decide (kind ≤ 9) && decide (fieldAt r 1 1 < 2) && decide (fieldAt r 2 1 < 96) &&
    decide (fieldAt r 3 1 < 4) && fieldAt r 28 4 == 0 && r.length == 32 + len &&
    (match kind with
    | 1 => len == 16
    | 2 => len % 512 == 0
    | 3 => len == 16
    | 4 => len == 32
    | 7 => len == 0
    | 8 => len == 0
    | 9 => len == 4
    | _ => true)

/-- The data of a record. -/
def mirrorData (r : Bytes) : Bytes := r.drop 32

/-- The mirror region's tables of partner head h: the page table, and the length table 2 MiB above it (R414). -/
def State.mirrorTable (s : State) (x h : Nat) : Nat := sliceBase x + s.mirrorOff x + 0x100000 + 0x300000 * (h % 2)

/-- A write under the open epoch, with the bytes before it copied to the undo log first if `log` (R419). A log that is full ends the
epoch (R421). -/
def State.mirrorWrite (s : State) (a : Nat) (data : Bytes) (log : Bool) : State :=
  if s.twin.rxBad then s
  else if !log || s.twin.undo.any (fun u => u.addr == a) then s.memWrite a data
  else if s.undoRoom < s.twin.undoBytes + data.length + 16 then s.updTwin (fun w => { w with rxBad := true })
  else (s.updTwin (fun w => { w with undo := ⟨a, s.memRead a data.length⟩ :: w.undo })).memWrite a data

/-- Whether the page-table entry at an address was VALID at the epoch's start. -/
def State.wasValid (s : State) (a : Nat) : Bool :=
  match s.twin.undo.find? (fun u => u.addr == a) with
  | some u => (ptOf (leVal u.old)).valid
  | none => (ptOf (leVal (s.memRead a 16))).valid

/-- A record applied: the mirror of the partner's state, or with BACKFILL the receiver's own (R419, R429). -/
def State.applyRecord (s : State) (r : Bytes) : State :=
  let kind := fieldAt r 0 1
  let back := fieldAt r 1 1 = 1
  let h := fieldAt r 3 1
  let addr := fieldAt r 16 8
  let d := mirrorData r
  match s.tileOfLogical (fieldAt r 2 1) with
  | none => if kind = 2 ∨ kind = 3 ∨ kind = 4 ∨ kind = 5 ∨ kind = 6 then s.updTwin (fun w => { w with rxBad := true }) else s
  | some x =>
    let i := addr % 2 ^ 20
    match kind with
    | 2 =>
      let off (g : Nat) : Nat := sliceBase x + s.pageOff x g i + 512 * bitsAt addr 24 8
      if back then s.memWrite (off h) d else s.mirrorWrite (off (h % 2 + 2)) d (s.wasValid (s.mirrorTable x h + 16 * i))
    | 3 => if back then s.tsWrite x (s.ptAt x h i) d else s.mirrorWrite (s.mirrorTable x h + 16 * i) d true
    | 4 => if back then s.tsWrite x (s.ltAt x h i) d else s.mirrorWrite (s.mirrorTable x h + 0x200000 + 32 * i) d true
    | 5 => if back then s.putSlotCopy 0 x (copyOf d)
           else s.mirrorWrite (sliceBase x + s.mirrorOff x + 0x10000 + 0x10000 * (1 - s.twin.bank)) d false
    | 6 => if back then s.tsWrite x (i % 0x10000) d
           else s.mirrorWrite (sliceBase x + s.mirrorOff x + 0x30000 + 0x10000 * (1 - s.twin.bank) + i % 0x10000) d false
    | _ => s

/-- The header of every mirror region (R414, R419). -/
def State.commitHeaders (s : State) (epoch : Nat) : State :=
  s.computeTiles.foldl (fun a x => a.memWrite (sliceBase x + s.mirrorOff x)
    (leBytes 4 0x10000 ++ leBytes 4 epoch ++ leBytes 4 s.twin.bank ++ leBytes 4 s.twin.frame ++ leBytes 4 0)) s

/-- The commit of an epoch (R419). The checkpoint frame is the one that ended before the frame the record names. -/
def State.commitEpoch (s : State) (r : Bytes) : State :=
  if s.twin.rxBad then s
  else
    let e := fieldAt r 24 4
    let s1 := s.updTwin (fun w => { w with
      bank := 1 - w.bank, frame := (fieldAt r 8 4 + (2 ^ 32 - 1)) % 2 ^ 32, undo := [], hasCommit := true, partnerResync := false })
    let s2 := ((s1.commitHeaders e).wr F.TWN_STATUS_EPOCH 0 e).wr F.TWN_MIRROR_COMMITS 0 (s.rd F.TWN_MIRROR_COMMITS 0 + 1)
    if s2.twinState = 2 then s2.setTwin 3 else s2

/-- The receiver rolls back to its last commit (R421): the oldest copy of each address governs. -/
def State.rollBack (s : State) : State :=
  (s.twin.undo.foldl (fun a u => a.memWrite u.addr u.old) s).updTwin (fun w => { w with undo := [] })

/-- A VOID (R421, R422). -/
def State.voidEpoch (s : State) : State :=
  ((s.rollBack).updTwin (fun w => { w with rxBad := false, partnerResync := true })).sat F.TWN_MIRROR_VOIDS 0 1

/-- HANDOVER (R428): slot A is armed to start at the frame named. -/
def State.takeHandover (s : State) (r : Bytes) : State :=
  let f := fieldAt (mirrorData r) 0 4
  ((s.updImg 0 (fun g => { g with sched := f, resume := some f, startAt := some (s.frameNow + 1) })).attn F.ATT_PENDING_REJOINED).sat
    F.TWN_COUNT_REJOINS 0 1

/-- A record in its turn. -/
def State.inTurn (s : State) (r : Bytes) : State :=
  let s1 := match fieldAt r 0 1 with
    | 1 => s
    | 7 => s.commitEpoch r
    | 8 => s.voidEpoch
    | 9 => if s.twin.rxBad then s else s.takeHandover r
    | _ => s.applyRecord r
  s1.updTwin (fun w => { w with rxSeq := (fieldAt r 12 4 + 1) % 2 ^ 32 })

/-- Records that came ahead of their turn follow in SEQ order. -/
def State.drainLate : Nat → State → State
  | 0, s => s
  | n + 1, s => match s.twin.late.find? (fun e => e.1 == s.twin.rxSeq) with
    | some e => State.drainLate n ((s.updTwin (fun w => { w with late := w.late.erase e })).inTurn e.2)
    | none => s

/-- How far a SEQ lies ahead of the one expected. -/
def State.seqAhead (s : State) (q : Nat) : Nat := (q + 2 ^ 32 - s.twin.rxSeq) % 2 ^ 32

/-- A record arrives (R416, R419): records are applied in SEQ order; one with a reserved field is discarded and counted, and its epoch ends;
a VOID acts at once, whatever was lost before it. -/
def State.recvRecord (s : State) (q kind : Nat) (r : Bytes) : State :=
  if !s.mirrorPorts.contains q ∨ !s.mirrorUp q ∨ !s.paired then s
  else if fieldAt r 0 1 ≠ kind ∨ !mirrorSound r then (s.noteFw 8 (fieldAt r 0 1)).updTwin (fun w => { w with rxBad := true })
  else
    let n := fieldAt r 12 4
    let ahead := s.seqAhead n
    if kind = 8 then
      State.drainLate 65536 ((s.updTwin (fun w => { w with late := w.late.filter (fun e => decide (ahead < s.seqAhead e.1)) })).inTurn r)
    else if ahead = 0 then State.drainLate 65536 (s.inTurn r)
    else if ahead < 2 ^ 31 then s.updTwin (fun w => { w with late := (n, r) :: w.late })
    else s

/-- MIRROR_DUE of a page clears when its record is confirmed (R158, R420). -/
def State.pageConfirmed (s : State) (e : Nat × Nat × Nat) : State :=
  if 104 ≤ e.1 then s
  else
    let a := s.ptAt e.1 e.2.1 e.2.2
    s.tsWrite e.1 a (leBytes 16 (ptVal { s.pt e.1 e.2.1 e.2.2 with due := false }))

/-- What a heartbeat says (R416, R420, R424). -/
def State.heardHeartbeat (s : State) (r : Bytes) : State :=
  let d := mirrorData r
  let ack := fieldAt d 12 4
  let done (u : Nat × Nat × Nat × Nat × Nat) : Bool := decide ((ack + 2 ^ 32 - u.1) % 2 ^ 32 < 2 ^ 31)
  let s1 := (s.twin.unacked.filter done).foldl (fun a u => a.pageConfirmed u.2.2) s
  let s2 := s1.updTwin (fun w => { w with unacked := w.unacked.filter (fun u => !done u), hbLast := s.beatNow, hbMissed := 0 })
  ((s2.wr F.TWN_STATUS_PARTNER_STATE 0 (fieldAt d 0 1 % 16)).wr F.TWN_STATUS_SILENT 0 0).showMirror

/-- MIRROR_HEARTBEAT (R416). -/
def execMirrorHeartbeat (t : Nat) (q : PortIx) (rec : Bytes) (s : State) : Result :=
  let s1 := s.tick t
  let ok : Bool := s1.mirrorPorts.contains q.val && s1.mirrorUp q.val && s1.paired && fieldAt rec 0 1 == 1 && mirrorSound rec
  .next ((if ok then s1.heardHeartbeat rec else s1).recvRecord q.val 1 rec)
/-- PAGE (R419). -/
def execMirrorPage (t : Nat) (q : PortIx) (rec : Bytes) (s : State) : Result := .next ((s.tick t).recvRecord q.val 2 rec)
/-- PTE (R419). -/
def execMirrorPte (t : Nat) (q : PortIx) (rec : Bytes) (s : State) : Result := .next ((s.tick t).recvRecord q.val 3 rec)
/-- LTE (R419). -/
def execMirrorLte (t : Nat) (q : PortIx) (rec : Bytes) (s : State) : Result := .next ((s.tick t).recvRecord q.val 4 rec)
/-- CONTEXT (R419). -/
def execMirrorContext (t : Nat) (q : PortIx) (rec : Bytes) (s : State) : Result := .next ((s.tick t).recvRecord q.val 5 rec)
/-- CARRY (R419). -/
def execMirrorCarry (t : Nat) (q : PortIx) (rec : Bytes) (s : State) : Result := .next ((s.tick t).recvRecord q.val 6 rec)
/-- END (R419). -/
def execMirrorEnd (t : Nat) (q : PortIx) (rec : Bytes) (s : State) : Result := .next ((s.tick t).recvRecord q.val 7 rec)
/-- VOID (R421). -/
def execMirrorVoid (t : Nat) (q : PortIx) (rec : Bytes) (s : State) : Result := .next ((s.tick t).recvRecord q.val 8 rec)
/-- HANDOVER (R428). -/
def execMirrorHandover (t : Nat) (q : PortIx) (rec : Bytes) (s : State) : Result := .next ((s.tick t).recvRecord q.val 9 rec)

/-! ### Takeover (R424 to R427) -/

/-- TAKEOVER (R424): the host declares the loss. -/
def execTakeover (t : Nat) (s : State) : Result := .next ((s.tick t).declareLoss)

/-- FREE_HEAD and FREE_COUNT derived from a page table (R426): the free slots chain by NEXT, and the first is the one to which no free slot
points. -/
def State.deriveFree (s : State) (x h : Nat) : State :=
  let ix := hIx x h
  let free := (List.range (s.kvPool x h)).filter (fun i => !(s.pt x h i).valid)
  let head := free.find? (fun i => !free.any (fun j => (s.pt x h j).nxt == i))
  (s.wr F.KVS_STATE_FREE_HEAD ix (head.getD noSlot)).wr F.KVS_STATE_FREE_COUNT ix free.length

/-- The committed tables of a partner head put into the twin head (R426). -/
def State.restoreTwin (s : State) (x h : Nat) : State :=
  let g := h + 2
  let ix := hIx x g
  let a := s.mirrorTable x h
  let s1 := (s.tsWrite x (s.rd F.KVS_TABLES_PT_BASE ix) (s.memRead a (16 * s.kvPool x g))).tsWrite x (s.rd F.KVS_TABLES_LT_BASE ix)
    (s.memRead (a + 0x200000) (32 * s.rd F.KVS_TABLES_LT_CAP ix))
  (s1.deriveFree x g).shadowWhole x g

/-- The committed context and carry bank of a tile put into slot B (R426). -/
def State.restoreSlotB (s : State) (x : Nat) : State :=
  let base := sliceBase x + s.mirrorOff x + 0x10000 * s.twin.bank
  (s.putSlotCopy 1 x (copyOf (s.memRead (base + 0x10000) 512))).tsWrite x 0x10000 (s.memRead (base + 0x30000) 0x10000)

/-- The partner's heads that the pairing mirrors here. -/
def State.mirroredHere (s : State) : List (Nat × Nat) :=
  match s.twin.peer with
  | none => []
  | some (r, _) => (r.heads.filter (fun g => g.mirror)).filterMap (fun g => (s.tileOfLogical g.tile).map (fun x => (x, g.head % 2)))

/-- The restore ends: DUTY_READY, or NO_RESUME (R426, R427). -/
def State.takeoverRestored (s : State) : State :=
  if s.twinState ≠ 4 ∨ s.frozen then s
  else
    let s1 := s.rollBack
    let duty := s1.imgB.loaded && (fieldAt s1.imgB.header 14 1).testBit 0
    if !duty ∨ !s1.twin.hasCommit ∨ s1.twin.partnerResync then s1.setTwin 9
    else
      let f := (s1.twin.frame + 1) % 2 ^ 32
      let s2 := s1.mirroredHere.foldl (fun a e => a.restoreTwin e.1 e.2) s1
      let s3 := s2.computeTiles.foldl (fun a x => a.restoreSlotB x) s2
      let s4 := s3.updImg 1 (fun g => { g with sched := f, resume := some f, startAt := some s.frameNow, ran := false })
      (s4.setTwin 5).wr F.TWN_TAKEOVER_RESUME_FRAME 0 f

/-- TAKEOVER_RESTORE_DONE (R426). -/
def execTakeoverRestoreDone (t : Nat) (s : State) : Result := .next ((s.tick t).takeoverRestored)

/-- Whether slot B has threads that run or wait to start. -/
def State.slotBRuns (s : State) : Bool :=
  s.imgB.startAt.isSome || (s.activeSlot == 1 && s.anyThread) || (s.activeSlot == 0 && s.imgB.ran)

/-- TWIN_RELEASE (R425): slot B stops at its next pre-emption point; where it does not run the module returns to WAITING at once. -/
def State.twinRelease (s : State) : State :=
  if ! [4, 5, 6, 7, 8, 9].contains s.twinState then s
  else if s.twinState = 5 ∨ !s.slotBRuns then (s.updImg 1 (fun g => { g with startAt := none })).setTwin 1
  else s.wr F.TWN_CTL_RELEASE 0 1

/-- TWIN_RELEASE. -/
def execTwinRelease (t : Nat) (s : State) : Result := .next ((s.tick t).twinRelease)

/-! ### Back-fill (R428, R429) -/

/-- BACKFILL (R429): back-fill of the replacement starts once the pair has formed. -/
def execBackfill (t : Nat) (s : State) : Result :=
  let s1 := s.tick t
  .next (if s1.twinState = 2 ∨ s1.twinState = 3 then
    ((s1.setTwin 7).wr F.TWN_CTL_BACKFILL 0 1).updTwin (fun w => { w with sent := [] }) else s1)

/-- The twin heads of a tile that back-fill sends. -/
def State.twinHeads (s : State) (x : Nat) : List Nat := [2, 3].filter (fun h => s.rd F.KVS_CFG_ENABLED (hIx x h) == 1)

/-- A pass over one tile: the most pages any tile has resent so far goes with it. -/
def State.passTile (s : State × Nat) (x : Nat) : State × Nat :=
  let r := (s.1.twinHeads x).foldl (fun (a : State × Nat) h =>
    let p := a.1.sendHead x h (h - 2) 1 a.1.twin.sent false
    (p.s.updTwin (fun w => { w with sent := p.marks }), a.2 + p.pages)) (s.1, 0)
  (r.1, max s.2 r.2)

/-- A pass of back-fill; one that resends at most 512 slots in every tile reaches CAUGHT_UP. -/
def State.backfillPass (s : State) : State :=
  if (s.twinState ≠ 7 ∧ s.twinState ≠ 8) ∨ s.mirrorPort.isNone then s
  else
    let r := s.computeTiles.foldl State.passTile (s, 0)
    if s.twinState = 7 ∧ r.2 ≤ 512 then r.1.setTwin 8 else r.1

/-- BACKFILL_PASS (R429). -/
def execBackfillPass (t : Nat) (s : State) : Result := .next ((s.tick t).backfillPass)

end Sys2Proof.Machine
end

