-- ==== Sys2Proof/Machine/Dispatch.lean ====
section
/-! DEFINITION. One arm per command: the command's meaning. -/

namespace Sys2Proof.Machine

/-- The effect of a command on everything but the queue. -/
def exec (i : Instr) (s : State) : Host.Outcome State Fault Refusal :=
  match i with
  | .registerWrite t view off wide value => Sys2Proof.Machine.execRegisterWrite t view off wide value s
  | .floorPlanChange t => Sys2Proof.Machine.execFloorPlanChange t s
  | .playIssue t x k fetch => Sys2Proof.Machine.execPlayIssue t x k fetch s
  | .threadStart t x mask => Sys2Proof.Machine.execThreadStart t x mask s
  | .threadStop t x mask => Sys2Proof.Machine.execThreadStop t x mask s
  | .vectorAdd t x => Sys2Proof.Machine.execVectorAdd t x s
  | .vectorMul t x => Sys2Proof.Machine.execVectorMul t x s
  | .vectorFma t x => Sys2Proof.Machine.execVectorFma t x s
  | .vectorMax t x => Sys2Proof.Machine.execVectorMax t x s
  | .vectorMin t x => Sys2Proof.Machine.execVectorMin t x s
  | .vectorCmplt t x => Sys2Proof.Machine.execVectorCmplt t x s
  | .vectorSel t x => Sys2Proof.Machine.execVectorSel t x s
  | .vectorCvt t x => Sys2Proof.Machine.execVectorCvt t x s
  | .vectorBcast t x => Sys2Proof.Machine.execVectorBcast t x s
  | .vectorExp2 t x => Sys2Proof.Machine.execVectorExp2 t x s
  | .vectorLog2 t x => Sys2Proof.Machine.execVectorLog2 t x s
  | .vectorRcp t x => Sys2Proof.Machine.execVectorRcp t x s
  | .vectorRsqrt t x => Sys2Proof.Machine.execVectorRsqrt t x s
  | .vectorTanh t x => Sys2Proof.Machine.execVectorTanh t x s
  | .vectorRedsum t x => Sys2Proof.Machine.execVectorRedsum t x s
  | .vectorResult t x => Sys2Proof.Machine.execVectorResult t x s
  | .storeToRegister t x errs => Sys2Proof.Machine.execStoreToRegister t x errs s
  | .registerToStore t x => Sys2Proof.Machine.execRegisterToStore t x s
  | .storeMoveComplete t x => Sys2Proof.Machine.execStoreMoveComplete t x s
  | .tstoreRemapCopyDone t x bank => Sys2Proof.Machine.execTstoreRemapCopyDone t x bank s
  | .tstoreZeroingDone t x => Sys2Proof.Machine.execTstoreZeroingDone t x s
  | .exchangeStart t x => Sys2Proof.Machine.execExchangeStart t x s
  | .exchangeChunkMove t x c errs => Sys2Proof.Machine.execExchangeChunkMove t x c errs s
  | .exchangeChannelHalt t x c => Sys2Proof.Machine.execExchangeChannelHalt t x c s
  | .trapRecord t x k => Sys2Proof.Machine.execTrapRecord t x k s
  | .arrayLoad t x errs => Sys2Proof.Machine.execArrayLoad t x errs s
  | .arrayPass t x => Sys2Proof.Machine.execArrayPass t x s
  | .arrayPassLoad t x errs => Sys2Proof.Machine.execArrayPassLoad t x errs s
  | .shadowLoadComplete t x k => Sys2Proof.Machine.execShadowLoadComplete t x k s
  | .arrayOutput t x k pass row col errs => Sys2Proof.Machine.execArrayOutput t x k pass row col errs s
  | .arrayPassFault t x k col parity => Sys2Proof.Machine.execArrayPassFault t x k col parity s
  | .weightParityIdle t x k => Sys2Proof.Machine.execWeightParityIdle t x k s
  | .sharedControlFault t x => Sys2Proof.Machine.execSharedControlFault t x s
  | .mvStart t x => Sys2Proof.Machine.execMvStart t x s
  | .mvChunkRead t x errs => Sys2Proof.Machine.execMvChunkRead t x errs s
  | .mvGroupOutput t x errs => Sys2Proof.Machine.execMvGroupOutput t x errs s
  | .mvFault t x vec => Sys2Proof.Machine.execMvFault t x vec s
  | .attend t x => Sys2Proof.Machine.execAttend t x s
  | .attendBudgetCheck t x errs => Sys2Proof.Machine.execAttendBudgetCheck t x errs s
  | .attendWriteBack t x => Sys2Proof.Machine.execAttendWriteBack t x s
  | .shadowWriteThrough t x h => Sys2Proof.Machine.execShadowWriteThrough t x h s
  | .kvShadowRestore t x h => Sys2Proof.Machine.execKvShadowRestore t x h s
  | .latchedWorkStart t x unit => Sys2Proof.Machine.execLatchedWorkStart t x unit s
  | .inboundAccess t x ix errs => Sys2Proof.Machine.execInboundAccess t x ix errs s
  | .unscheduledRequest t x req => Sys2Proof.Machine.execUnscheduledRequest t x req s
  | .openCycleServe t x errs => Sys2Proof.Machine.execOpenCycleServe t x errs s
  | .refreshSlot t x => Sys2Proof.Machine.execRefreshSlot t x s
  | .sliceReadDeliver t x => Sys2Proof.Machine.execSliceReadDeliver t x s
  | .sliceRead t x => Sys2Proof.Machine.execSliceRead t x s
  | .sliceWrite t x => Sys2Proof.Machine.execSliceWrite t x s
  | .sliceFlush t x => Sys2Proof.Machine.execSliceFlush t x s
  | .sliceInval t x => Sys2Proof.Machine.execSliceInval t x s
  | .sliceFlushInval t x => Sys2Proof.Machine.execSliceFlushInval t x s
  | .sliceSlotChunk t x errs => Sys2Proof.Machine.execSliceSlotChunk t x errs s
  | .scrubStart t x value => Sys2Proof.Machine.execScrubStart t x value s
  | .scrubAbort t x => Sys2Proof.Machine.execScrubAbort t x s
  | .flipMaskArm t x value => Sys2Proof.Machine.execFlipMaskArm t x value s
  | .pchInval t p value => Sys2Proof.Machine.execPchInval t p value s
  | .pchInvalDone t p => Sys2Proof.Machine.execPchInvalDone t p s
  | .bkuGo t x => Sys2Proof.Machine.execBkuGo t x s
  | .bkuProg t x => Sys2Proof.Machine.execBkuProg t x s
  | .bkuSync t x => Sys2Proof.Machine.execBkuSync t x s
  | .bkuAbort t x => Sys2Proof.Machine.execBkuAbort t x s
  | .bkuCommandAreaWrite t x => Sys2Proof.Machine.execBkuCommandAreaWrite t x s
  | .bkuSequenceBegin t x => Sys2Proof.Machine.execBkuSequenceBegin t x s
  | .progWordsWrite t x => Sys2Proof.Machine.execProgWordsWrite t x s
  | .bkuLd t x u e errs => Sys2Proof.Machine.execBkuLd t x u e errs s
  | .bkuSt t x u e => Sys2Proof.Machine.execBkuSt t x u e s
  | .bkuAdd t x u e => Sys2Proof.Machine.execBkuAdd t x u e s
  | .bkuMul t x u e => Sys2Proof.Machine.execBkuMul t x u e s
  | .bkuFma t x u e => Sys2Proof.Machine.execBkuFma t x u e s
  | .bkuMax t x u e => Sys2Proof.Machine.execBkuMax t x u e s
  | .bkuMin t x u e => Sys2Proof.Machine.execBkuMin t x u e s
  | .bkuScale t x u e => Sys2Proof.Machine.execBkuScale t x u e s
  | .bkuCvt t x u e => Sys2Proof.Machine.execBkuCvt t x u e s
  | .bkuCsel t x u e => Sys2Proof.Machine.execBkuCsel t x u e s
  | .bkuMov t x u e => Sys2Proof.Machine.execBkuMov t x u e s
  | .chout t x u e => Sys2Proof.Machine.execChout t x u e s
  | .chin t x u e => Sys2Proof.Machine.execChin t x u e s
  | .chadd t x u e => Sys2Proof.Machine.execChadd t x u e s
  | .bkuSet t x u e => Sys2Proof.Machine.execBkuSet t x u e s
  | .bkuSadd t x u e => Sys2Proof.Machine.execBkuSadd t x u e s
  | .bkuLoop t x u e => Sys2Proof.Machine.execBkuLoop t x u e s
  | .bkuEnd t x u e => Sys2Proof.Machine.execBkuEnd t x u e s
  | .bkuWait t x u e => Sys2Proof.Machine.execBkuWait t x u e s
  | .chainArrive t x u => Sys2Proof.Machine.execChainArrive t x u s
  | .segmentBoundary t x u => Sys2Proof.Machine.execSegmentBoundary t x u s
  | .bkuPauseEnd t x u => Sys2Proof.Machine.execBkuPauseEnd t x u s
  | .bkuIdle t x u => Sys2Proof.Machine.execBkuIdle t x u s
  | .randomOpen t x => Sys2Proof.Machine.execRandomOpen t x s
  | .randomSeek t x => Sys2Proof.Machine.execRandomSeek t x s
  | .randomDraw t x => Sys2Proof.Machine.execRandomDraw t x s
  | .openReady t x k => Sys2Proof.Machine.execOpenReady t x k s
  | .seekReady t x k => Sys2Proof.Machine.execSeekReady t x k s
  | .drawWrite t x => Sys2Proof.Machine.execDrawWrite t x s
  | .frameBoundary t meas => Sys2Proof.Machine.execFrameBoundary t meas s
  | .epochWord t w => Sys2Proof.Machine.execEpochWord t w s
  | .holdoverEnter t => Sys2Proof.Machine.execHoldoverEnter t s
  | .holdoverExpire t => Sys2Proof.Machine.execHoldoverExpire t s
  | .msgRest t src issuer value => Sys2Proof.Machine.execMsgRest t src issuer value s
  | .msgHold t src issuer value => Sys2Proof.Machine.execMsgHold t src issuer value s
  | .msgResume t src issuer value => Sys2Proof.Machine.execMsgResume t src issuer value s
  | .msgClamp t src issuer value => Sys2Proof.Machine.execMsgClamp t src issuer value s
  | .msgUnclamp t src issuer value => Sys2Proof.Machine.execMsgUnclamp t src issuer value s
  | .domainFreezeBegin t => Sys2Proof.Machine.execDomainFreezeBegin t s
  | .domainFreezeEnd t => Sys2Proof.Machine.execDomainFreezeEnd t s
  | .reqRest t => Sys2Proof.Machine.execReqRest t s
  | .reqHold t => Sys2Proof.Machine.execReqHold t s
  | .reqResume t => Sys2Proof.Machine.execReqResume t s
  | .rampBoundary t => Sys2Proof.Machine.execRampBoundary t s
  | .cellSlotSend t q => Sys2Proof.Machine.execCellSlotSend t q s
  | .cellReceive t q slot cell => Sys2Proof.Machine.execCellReceive t q slot cell s
  | .cellRelease t q => Sys2Proof.Machine.execCellRelease t q s
  | .cellNak t q slots => Sys2Proof.Machine.execCellNak t q slots s
  | .cellReceipt t q status => Sys2Proof.Machine.execCellReceipt t q status s
  | .partnerDetect t q => Sys2Proof.Machine.execPartnerDetect t q s
  | .trainingAttemptEnd t q res => Sys2Proof.Machine.execTrainingAttemptEnd t q res s
  | .portLockLoss t q => Sys2Proof.Machine.execPortLockLoss t q s
  | .sessionDrop t q => Sys2Proof.Machine.execSessionDrop t q s
  | .linkRetrain t q => Sys2Proof.Machine.execLinkRetrain t q s
  | .portDisable t q => Sys2Proof.Machine.execPortDisable t q s
  | .bridgeHandshakeTry t b low high govLow govHigh => Sys2Proof.Machine.execBridgeHandshakeTry t b low high govLow govHigh s
  | .bridgeRetrain t b => Sys2Proof.Machine.execBridgeRetrain t b s
  | .bridgeRetrainDone t b wires => Sys2Proof.Machine.execBridgeRetrainDone t b wires s
  | .bridgeFallback t b up => Sys2Proof.Machine.execBridgeFallback t b up s
  | .submissionFetch t rec => Sys2Proof.Machine.execSubmissionFetch t rec s
  | .subNop t ix => Sys2Proof.Machine.execSubNop t ix s
  | .copyIn t ix src => Sys2Proof.Machine.execCopyIn t ix src s
  | .copyOut t ix failAt errs => Sys2Proof.Machine.execCopyOut t ix failAt errs s
  | .activate t ix src => Sys2Proof.Machine.execActivate t ix src s
  | .subStart t ix => Sys2Proof.Machine.execSubStart t ix s
  | .subStop t ix => Sys2Proof.Machine.execSubStop t ix s
  | .subSave t ix failAt => Sys2Proof.Machine.execSubSave t ix failAt s
  | .subRestore t ix src => Sys2Proof.Machine.execSubRestore t ix src s
  | .unload t ix => Sys2Proof.Machine.execUnload t ix s
  | .replyRecord t ok => Sys2Proof.Machine.execReplyRecord t ok s
  | .heartbeat t ok => Sys2Proof.Machine.execHeartbeat t ok s
  | .ringOpen t value => Sys2Proof.Machine.execRingOpen t value s
  | .ringClose t value => Sys2Proof.Machine.execRingClose t value s
  | .sqTailWrite t value => Sys2Proof.Machine.execSqTailWrite t value s
  | .rqHeadWrite t value => Sys2Proof.Machine.execRqHeadWrite t value s
  | .windowRead t off len => Sys2Proof.Machine.execWindowRead t off len s
  | .windowWrite t off data => Sys2Proof.Machine.execWindowWrite t off data s
  | .windowReadDeadline t ix => Sys2Proof.Machine.execWindowReadDeadline t ix s
  | .flr t => Sys2Proof.Machine.execFlr t s
  | .hotReset t => Sys2Proof.Machine.execHotReset t s
  | .pcieLinkDown t => Sys2Proof.Machine.execPcieLinkDown t s
  | .powerGood t boot => Sys2Proof.Machine.execPowerGood t boot s
  | .microcodeChunk t x u rec => Sys2Proof.Machine.execMicrocodeChunk t x u rec s
  | .tileReset t p pos => Sys2Proof.Machine.execTileReset t p pos s
  | .pierReset t p => Sys2Proof.Machine.execPierReset t p s
  | .computeReset t => Sys2Proof.Machine.execComputeReset t s
  | .moduleReset t cause boot => Sys2Proof.Machine.execModuleReset t cause boot s
  | .coldStart t boot => Sys2Proof.Machine.execColdStart t boot s
  | .resetComplete t kind => Sys2Proof.Machine.execResetComplete t kind s
  | .watchdogExpiry t boot => Sys2Proof.Machine.execWatchdogExpiry t boot s
  | .reqRunning t => Sys2Proof.Machine.execReqRunning t s
  | .reqWarmIdle t => Sys2Proof.Machine.execReqWarmIdle t s
  | .reqStandby t => Sys2Proof.Machine.execReqStandby t s
  | .reqPark t => Sys2Proof.Machine.execReqPark t s
  | .powerStateChangeDone t retired => Sys2Proof.Machine.execPowerStateChangeDone t retired s
  | .sensorSample t ix reading => Sys2Proof.Machine.execSensorSample t ix reading s
  | .thermalModelUpdate t meas => Sys2Proof.Machine.execThermalModelUpdate t meas s
  | .rthWindow t win => Sys2Proof.Machine.execRthWindow t win s
  | .capUpdate t => Sys2Proof.Machine.execCapUpdate t s
  | .keepWarmUpdate t => Sys2Proof.Machine.execKeepWarmUpdate t s
  | .ledgerUpdate t rails cycles hours => Sys2Proof.Machine.execLedgerUpdate t rails cycles hours s
  | .ledgerWriteBack t => Sys2Proof.Machine.execLedgerWriteBack t s
  | .holdupCheck t energy ok => Sys2Proof.Machine.execHoldupCheck t energy ok s
  | .powerFail t => Sys2Proof.Machine.execPowerFail t s
  | .inputRangeChange t volts => Sys2Proof.Machine.execInputRangeChange t volts s
  | .inputOverpower t => Sys2Proof.Machine.execInputOverpower t s
  | .phaseFail t course p => Sys2Proof.Machine.execPhaseFail t course p s
  | .coolantPressureAssert t => Sys2Proof.Machine.execCoolantPressureAssert t s
  | .coolantPressureDeassert t => Sys2Proof.Machine.execCoolantPressureDeassert t s
  | .pressureClampTimeout t => Sys2Proof.Machine.execPressureClampTimeout t s
  | .coolantLossShutdown t => Sys2Proof.Machine.execCoolantLossShutdown t s
  | .boostIntervalEnd t => Sys2Proof.Machine.execBoostIntervalEnd t s
  | .cooldownEnd t => Sys2Proof.Machine.execCooldownEnd t s
  | .commissionStart t => Sys2Proof.Machine.execCommissionStart t s
  | .commissionDone t fit => Sys2Proof.Machine.execCommissionDone t fit s
  | .tripRecordClear t => Sys2Proof.Machine.execTripRecordClear t s
  | .bondStreamLoad t => Sys2Proof.Machine.execBondStreamLoad t s
  | .bondStreamRead t src => Sys2Proof.Machine.execBondStreamRead t src s
  | .substZeroingDone t => Sys2Proof.Machine.execSubstZeroingDone t s
  | .pairingRecord t rec => Sys2Proof.Machine.execPairingRecord t rec s
  | .mirrorHeartbeatSend t => Sys2Proof.Machine.execMirrorHeartbeatSend t s
  | .heartbeatMissed t => Sys2Proof.Machine.execHeartbeatMissed t s
  | .mirrorHeartbeat t q rec => Sys2Proof.Machine.execMirrorHeartbeat t q rec s
  | .mirrorPage t q rec => Sys2Proof.Machine.execMirrorPage t q rec s
  | .mirrorPte t q rec => Sys2Proof.Machine.execMirrorPte t q rec s
  | .mirrorLte t q rec => Sys2Proof.Machine.execMirrorLte t q rec s
  | .mirrorContext t q rec => Sys2Proof.Machine.execMirrorContext t q rec s
  | .mirrorCarry t q rec => Sys2Proof.Machine.execMirrorCarry t q rec s
  | .mirrorEnd t q rec => Sys2Proof.Machine.execMirrorEnd t q rec s
  | .mirrorVoid t q rec => Sys2Proof.Machine.execMirrorVoid t q rec s
  | .mirrorHandover t q rec => Sys2Proof.Machine.execMirrorHandover t q rec s
  | .takeover t => Sys2Proof.Machine.execTakeover t s
  | .takeoverRestoreDone t => Sys2Proof.Machine.execTakeoverRestoreDone t s
  | .backfill t => Sys2Proof.Machine.execBackfill t s
  | .backfillPass t => Sys2Proof.Machine.execBackfillPass t s
  | .twinRelease t => Sys2Proof.Machine.execTwinRelease t s
  | .loadKey t len src => Sys2Proof.Machine.execLoadKey t len src s
  | .evictKey t slot => Sys2Proof.Machine.execEvictKey t slot s
  | .quoUnseal t count => Sys2Proof.Machine.execQuoUnseal t count s
  | .unsealDone t => Sys2Proof.Machine.execUnsealDone t s
  | .enrol t len src => Sys2Proof.Machine.execEnrol t len src s
  | .quoRelease t len src boot => Sys2Proof.Machine.execQuoRelease t len src boot s
  | .debugNonce t => Sys2Proof.Machine.execDebugNonce t s
  | .debugOpen t len src => Sys2Proof.Machine.execDebugOpen t len src s
  | .debugClose t => Sys2Proof.Machine.execDebugClose t s
  | .quoExtend t len reg src => Sys2Proof.Machine.execQuoExtend t len reg src s
  | .fwStage t len src => Sys2Proof.Machine.execFwStage t len src s
  | .commitSvn t => Sys2Proof.Machine.execCommitSvn t s
  | .trngHealthFail t => Sys2Proof.Machine.execTrngHealthFail t s
  | .getVersion t tr req => Sys2Proof.Machine.execGetVersion t tr req s
  | .getCapabilities t tr req => Sys2Proof.Machine.execGetCapabilities t tr req s
  | .negotiateAlgorithms t tr req => Sys2Proof.Machine.execNegotiateAlgorithms t tr req s
  | .getDigests t tr req => Sys2Proof.Machine.execGetDigests t tr req s
  | .getCertificate t tr req => Sys2Proof.Machine.execGetCertificate t tr req s
  | .challenge t tr req => Sys2Proof.Machine.execChallenge t tr req s
  | .getMeasurements t tr req => Sys2Proof.Machine.execGetMeasurements t tr req s
  | .keyExchange t tr req => Sys2Proof.Machine.execKeyExchange t tr req s
  | .finish t tr req => Sys2Proof.Machine.execFinish t tr req s
  | .spdmHeartbeat t tr req => Sys2Proof.Machine.execSpdmHeartbeat t tr req s
  | .keyUpdate t tr req => Sys2Proof.Machine.execKeyUpdate t tr req s
  | .endSession t tr req => Sys2Proof.Machine.execEndSession t tr req s
  | .respondIfReady t tr req => Sys2Proof.Machine.execRespondIfReady t tr req s
  | .spdmUnsupportedRequest t tr req => Sys2Proof.Machine.execSpdmUnsupportedRequest t tr req s
  | .scbFreeze t => Sys2Proof.Machine.execScbFreeze t s
  | .scbThaw t => Sys2Proof.Machine.execScbThaw t s
  | .scbAutoThaw t => Sys2Proof.Machine.execScbAutoThaw t s
  | .flushRequest t => Sys2Proof.Machine.execFlushRequest t s
  | .flushTimer t => Sys2Proof.Machine.execFlushTimer t s
  | .flushComplete t ok => Sys2Proof.Machine.execFlushComplete t ok s
  | .scbClear t => Sys2Proof.Machine.execScbClear t s
  | .scbClearAll t => Sys2Proof.Machine.execScbClearAll t s
  | .bucketRefill t code => Sys2Proof.Machine.execBucketRefill t code s
  | .scbDataRead t size off => Sys2Proof.Machine.execScbDataRead t size off s
  | .marginStart t => Sys2Proof.Machine.execMarginStart t s
  | .marginStep t pass worst spareErrs => Sys2Proof.Machine.execMarginStep t pass worst spareErrs s
  | .marginAbort t => Sys2Proof.Machine.execMarginAbort t s
  | .pcieLaneMargin t lane cmd => Sys2Proof.Machine.execPcieLaneMargin t lane cmd s
  | .mateMake t => Sys2Proof.Machine.execMateMake t s
  | .prechargeStart t => Sys2Proof.Machine.execPrechargeStart t s
  | .prechargeEnd t => Sys2Proof.Machine.execPrechargeEnd t s
  | .mateBreak t => Sys2Proof.Machine.execMateBreak t s
  | .perstAssert t boot => Sys2Proof.Machine.execPerstAssert t boot s
  | .perstDeassert t => Sys2Proof.Machine.execPerstDeassert t s
  | .surpriseRemoval t => Sys2Proof.Machine.execSurpriseRemoval t s
  | .entdaa t addr => Sys2Proof.Machine.execEntdaa t addr s
  | .pldmRequest t req => Sys2Proof.Machine.execPldmRequest t req s
  | .resetEffecter t boot => Sys2Proof.Machine.execResetEffecter t boot s
  | .beatMark t q field => Sys2Proof.Machine.execBeatMark t q field s
  | .tripLatchRelease t => Sys2Proof.Machine.execTripLatchRelease t s

end Sys2Proof.Machine
end

