-- ==== Sys2Proof/Safety.lean ====
section
/-! DEFINITION. The words the statements use: what it is for a command to complete, what a command leaves unchanged, and the
canonical form of the memories. -/

namespace Sys2Proof.Machine

/-- Command c completes from state s: exec answers a next state, and it has a property. -/
def Completes (c : Instr) (s : State) (p : State → Prop) : Prop := ∃ s', exec c s = .next s' ∧ p s'

/-- Every copy of every register field reads as before, but for the listed copies. -/
def KeepsRegs (w : List (Fld × Nat)) (s s' : State) : Prop :=
  ∀ f i, f.key i ∉ w.map (fun g => g.1.key g.2) → s'.rd f i = s.rd f i

/-- The listed copies read the listed values, and every other copy of every register field reads as before. -/
def Sets (w : List (Fld × Nat × Nat)) (s s' : State) : Prop :=
  (∀ e ∈ w, s'.rd e.1 e.2.1 = e.2.2) ∧ KeepsRegs (w.map (fun e => (e.1, e.2.1))) s s'

/-- Every byte of every slice, scratchpad and tile store reads as before. -/
def KeepsMem (s s' : State) : Prop := (∀ a, s'.memByte a = s.memByte a) ∧ ∀ x a, s'.tsByte x a = s.tsByte x a

/-- Every other tile is as it was. -/
def KeepsTiles (x : Nat) (s s' : State) : Prop := ∀ y, y ≠ x → s'.tile y = s.tile y

/-- The memories are in their canonical form: addresses strictly rising, and no listed byte that an unlisted address reads as. -/
def State.memCanon (s : State) : Prop := Memory.wf s.mem = true ∧ Memory.wf s.ts = true

end Sys2Proof.Machine
end

