-- ==== Sys2Proof/Certificates/Slice0/Obligations.lean ====
section
/-! DEFINITION. The statements about the module, one for each group of commands and kinds of state. -/

namespace Sys2Proof
open Machine

/-- The vector operations of R49 and R50 with their opcodes. -/
def vectorCommands : List (Nat × (Nat → TileIx → Instr)) :=
  [(0x01, .vectorAdd), (0x02, .vectorMul), (0x03, .vectorFma), (0x04, .vectorMax), (0x05, .vectorMin), (0x06, .vectorCmplt),
   (0x07, .vectorSel), (0x09, .vectorBcast), (0x10, .vectorExp2), (0x11, .vectorLog2), (0x12, .vectorRcp), (0x13, .vectorRsqrt),
   (0x14, .vectorTanh), (0x18, .vectorRedsum)]

/-- The slice-slot operations of R172 with their OP. -/
def sliceSlotCommands : List (Nat × (Nat → TileIx → Instr)) :=
  [(1, .sliceRead), (2, .sliceWrite), (3, .sliceFlush), (4, .sliceInval), (5, .sliceFlushInval)]

/-- The elementwise words of a bank unit with their OP (R206). -/
def unitElementCommands : List (Nat × (Nat → TileIx → UnitIx → WordErr → Instr)) :=
  [(0x03, .bkuAdd), (0x04, .bkuMul), (0x05, .bkuFma), (0x06, .bkuMax), (0x07, .bkuMin), (0x08, .bkuScale), (0x0A, .bkuCsel)]

/-- One element of an elementwise word: form 2 is INT32, form 1 BF16, form 0 FP32 (R206, R208). -/
def unitElement (op form imm a b d : Nat) : Nat × Flags :=
  let f := if form = 1 then ffBf16 else ffFp32
  match op with
  | 0x03 => if form = 2 then ((a + b) % 2 ^ 32, 0) else ffAdd f a b
  | 0x04 => if form = 2 then (a * b % 2 ^ 32, 0) else ffMul f a b
  | 0x05 => if form = 2 then ((a * b + d) % 2 ^ 32, 0) else ffFma f a b d
  | 0x06 => if form = 2 then (if signed 32 a < signed 32 b then b else a, 0) else (maxMin f true a b, 0)
  | 0x07 => if form = 2 then (if signed 32 b < signed 32 a then b else a, 0) else (maxMin f false a b, 0)
  | 0x08 =>
    if form = 2 then (a * imm % 2 ^ 32, 0)
    else
      let r := mulV (ffDecode f a) (ffDecode ffFp32 imm)
      ((arithRound f r.1).1, r.2 ||| (arithRound f r.1).2)
  | _ => (if cselCond form (bitsAt imm 0 2) a b then a else d, 0)

/-- A unit after a word that is not END and does not branch: it goes on at the next word once the word's cycles end (R206, R213). -/
def afterWord (b : Bku) (w : Nat) : Bku :=
  { b with
    word := b.pc, pc := (b.pc + 1) % 1024, next := b.next + wordCycles w, segLen := b.segLen + wordCycles w, boundary := bwSegEnd w,
    ended := false }

/-- The numeric flags of a thread, by bit (R102). -/
def numFlags : List (Nat × Fld) :=
  [(0, F.SEQ_NUMFLAGS_LS_INEXACT), (1, F.SEQ_NUMFLAGS_NAN_MADE), (2, F.SEQ_NUMFLAGS_SATURATED), (3, F.SEQ_NUMFLAGS_CONV_SPECIAL),
   (4, F.SEQ_NUMFLAGS_OVERFLOW_INF)]

/-- The fields of a thread's trap record (R73). -/
def trapFlds : List Fld :=
  [F.SEQ_TRAP_CODE, F.SEQ_TRAP_MULTI, F.SEQ_TRAP_SHARED, F.SEQ_TRAP_INFO, F.SEQ_TRAP_PLAY_INDEX, F.SEQ_TRAP_BEAT_BEAT]

/-- Byte a of tile y's store lies outside the n bytes from address lo of tile x's store. -/
def outside (x lo n y a : Nat) : Prop := y * 2 ^ 25 + a < x * 2 ^ 25 + lo ∨ x * 2 ^ 25 + lo + n ≤ y * 2 ^ 25 + a

/-- No row that holds one of the n bytes from an address of a tile store, or the byte after them, reads as poisoned. -/
def goodRows (s : State) (x a n : Nat) : Prop := ∀ r, a / 64 ≤ r → r ≤ (a + n) / 64 → s.poisoned x r = false

/-- No slice line that holds one of the n bytes from an offset, or the byte after them, is uncorrectable or carries an armed flip. -/
def goodLines (s : State) (x off n : Nat) : Prop :=
  ∀ l, off / 64 ≤ l → l ≤ (off + n) / 64 → Tab.get 0 s.badLines (lineKey x l) = 0 ∧ Tab.get 0 s.latent (lineKey x l) = 0

/-- A thread with no trap recorded or waiting, and no START of this cycle to undo. -/
def Untrapped (s : State) (x k : Nat) : Prop :=
  (s.thread x k).trap = none ∧ (s.thread x k).save = none ∧ s.rd F.SEQ_TRAP_CODE (x * 4 + k) = 0

/-- A thread stopped with a fresh trap of a code and INFO, raised by its last play (R63, R73). -/
def TrapsWith (s s' : State) (x k code info : Nat) (shared : Bool) : Prop :=
  (s'.thread x k).trap = some ⟨code, info, shared, false, (s.thread x k).last, s.beatNow, s.now⟩ ∧
  s'.running x k = false ∧ s'.started x k = false

/-- The register fields of the Scorebook's own state, which an occurrence may change (R461, R464). -/
def scbFlds : List Fld :=
  [F.SCB_STATUS_FROZEN, F.SCB_CTL_FREEZE, F.SCB_STATUS_ASIDE, F.SCB_STATUS_AUTO_THAW, F.SCB_STATUS_UNHELD, F.SCB_STATUS_FLUSHING]

/-- Every other port is as it was. -/
def KeepsPorts (q : Nat) (s s' : State) : Prop := ∀ p, p ≠ q → s'.port p = s.port p

/-- Registers whose write does more than its fields say: base registers, BEAT_SLICE, attention, LNK_MAP, LNK_CTL, FRONT_WIN_LAST, SCB_RATE
(R70, R278, R315, R322, R340, R341, R461). -/
def sideEffects : List Nat :=
  [Rg.SEQ_PLAY_BASE, Rg.SEQ_XCH_DESC_BASE, Rg.ARR_DESC_BASE, Rg.BKU_CMD_BASE, Rg.BEAT_SLICE, Rg.ATT_PENDING, Rg.ATT_TRAP0, Rg.ATT_TRAP1,
   Rg.LNK_MAP, Rg.LNK_CTL, Rg.FRONT_WIN_LAST, Rg.SLC_ERR, Rg.SCB_RATE]

/-- Submission u ended and its reply waits (R346, R347). -/
def Replied (s s' : State) (u : Sub) (code detail : Nat) : Prop :=
  s'.front = { s.front with
    subs := s.front.subs.filter (fun w => w.idx != u.idx)
    replies := s.front.replies ++ [⟨subOp u.body, u.idx, fieldAt u.body 8 8, code, detail⟩] }

/-- The emergency clamp has been called from state v by a trigger (R398): it is shown, the domain is told or, without a beat, the module
gates at once. -/
def ClampCalled (v s' : State) (cause piers : Nat) : Prop :=
  s'.rd F.THM_STATUS_CLAMPED 0 = 1 ∧ s'.rd F.THM_STATUS_CLAMP_CAUSE 0 = cause ∧
  s'.rd F.THM_STATUS_CLAMPS 0 = satAdd 16 (v.rd F.THM_STATUS_CLAMPS 0) 1 ∧ s'.rd F.ATT_PENDING_CLAMP 0 = 1 ∧ s'.rd F.BEAT_RAMP_FILLER 0 = 0 ∧
  s'.power.own = true ∧ s'.power.callers = v.power.callers ||| piers ∧ s'.mem = v.mem ∧ s'.ts = v.ts ∧ s'.tiles = v.tiles ∧
  (v.beatHolds = true → s'.beat.send = v.beat.send ++ [⟨3, v.selfIndex, v.beatNow + v.propagation⟩]) ∧
  (v.beatHolds = false → s'.beat.freezeFrom = some v.now ∧ s'.power.clampFrom = some v.beatNow)

/-- Where a mirror record of a kind puts its data in the receiver's memory, and whether the bytes before it go to the undo log first (R414,
R419): a page of a twin head where the page was VALID at the last commit, entries of the mirrored tables always, the uncommitted context and
carry banks never. -/
def mirrorTarget (s : State) (kind x : Nat) (r : Bytes) : Nat × Bool :=
  let h := fieldAt r 3 1
  let i := fieldAt r 16 8 % 2 ^ 20
  let bank := sliceBase x + s.mirrorOff x + 0x10000 * (1 - s.twin.bank)
  match kind with
  | 2 => (sliceBase x + s.pageOff x (h % 2 + 2) i + 512 * bitsAt (fieldAt r 16 8) 24 8, s.wasValid (s.mirrorTable x h + 16 * i))
  | 3 => (s.mirrorTable x h + 16 * i, true)
  | 4 => (s.mirrorTable x h + 0x200000 + 32 * i, true)
  | 5 => (bank + 0x10000, false)
  | _ => (bank + 0x30000 + i % 0x10000, false)

/-- The weight columns and scale planes that a LOAD of descriptor d reads (R108, R114). -/
def loadWeights (s : State) (x d : Nat) : List Nat × List Nat :=
  let len := streamBytes (fmtD (pdW d)) (pdK d)
  let base := if pdSlice d then s.ownOff (pdWAddr d) else pdWAddr d
  ((List.range (pdN d)).map (fun n => leVal (if pdSlice d then s.dram x (base + n * pdWStride d) len else s.tsRead x (base + n * pdWStride d) len)),
   (List.range (pdN d)).map (fun n => leVal (s.tsRead x (pdWScale d + n * (pdK d / 32)) (if fmtIsMx (fmtD (pdW d)) then pdK d / 32 else 0))))

/-- Everything a LOAD of descriptor d reads can be read without an error. -/
def loadReadable (s : State) (x d : Nat) : Prop :=
  ∀ n < pdN d,
    (if pdSlice d then goodLines s x (s.ownOff (pdWAddr d) + n * pdWStride d) (streamBytes (fmtD (pdW d)) (pdK d))
      else goodRows s x (pdWAddr d + n * pdWStride d) (streamBytes (fmtD (pdW d)) (pdK d))) ∧
    (fmtIsMx (fmtD (pdW d)) = true → goodRows s x (pdWScale d + n * (pdK d / 32)) (pdK d / 32))

/-- A command to Quoin ended (R455, R456): QUO_CMD_STATUS as it reads, and every other register field that changed. -/
def QuoEnds (s s' : State) (code detail : Nat) (w : List (Fld × Nat × Nat)) : Prop :=
  Sets ([(F.QUO_CMD_STATUS_RESULT, 0, code), (F.QUO_CMD_STATUS_DETAIL, 0, detail),
    (F.QUO_CMD_STATUS_COMMANDS, 0, satAdd 16 (s.rd F.QUO_CMD_STATUS_COMMANDS 0) 1)] ++ w) s s'

/-- Measurement register n after its extension with a digest (R442). -/
def extended (s : State) (n : Nat) (d : BitVec 256) : BitVec 256 := Config.sm3 (digestBytes (s.quoin.meas.getD n 0) ++ digestBytes d)

/-- The words of QUO_MEAS that show measurement register n. -/
def measShown (n : Nat) (m : BitVec 256) : List (Fld × Nat × Nat) :=
  (List.range 8).map (fun w => (F.QUO_MEAS_VALUE, 8 * n + w, bitsAt m.toNat (32 * w) 32))

/-- The words of QUO_NONCE that show a number. -/
def nonceShown (v : Nat) : List (Fld × Nat × Nat) := (List.range 4).map (fun w => (F.QUO_NONCE_NONCE, w, bitsAt v (32 * w) 32))

/-- The commands that end at once and take no input from host memory, or none at LENGTH 0 (R455). -/
def quoCommands (t : Nat) : List Instr :=
  [.loadKey t 0 (.data []), .enrol t 0 (.data []), .debugOpen t 0 (.data []), .fwStage t 0 (.data [])]

/-- The record of a code in the Scorebook. -/
def scbLine (s : State) (code : Nat) : ScbRec := Tab.get ScbRec.empty s.scb.recs code

/-- The SPDM requests outside a session with the phase of the connection they need and their shortest length (R443). -/
def spdmRequests : List ((Nat → Transport → Bytes → Instr) × Nat × Nat) :=
  [(.getCapabilities, 1, 20), (.negotiateAlgorithms, 2, 32), (.getDigests, 3, 4), (.getCertificate, 3, 8), (.challenge, 3, 36),
   (.getMeasurements, 3, 4), (.keyExchange, 3, 106), (.respondIfReady, 3, 4)]

/-- An SPDM response has left by a transport. -/
def Says (s s' : State) (tr : Transport) (b : Bytes) : Prop := s'.out = s.out ++ [.response (trCode tr) b]

/-- The registers of a margin run's result (R475). -/
def marginResults : List Fld :=
  [F.MRG_RESULT_EARLY, F.MRG_RESULT_LATE, F.MRG_RESULT_LOW, F.MRG_RESULT_HIGH, F.MRG_RESULT_WORST, F.MRG_RESULT_SPARE_ERRS]

end Sys2Proof

open Sys2Proof Sys2Proof.Machine


/-- A step takes the command at the front of the queue and runs it with the rest of the queue; with an empty queue it changes nothing (log entry 1)
(R1, R6). -/
def Obligations.StepRunsFrontCommand : Prop :=
  (∀ (c : Instr) (r : List Instr) (s : State), step { s with pending := c :: r } = exec c { s with pending := r }) ∧
  (∀ s : State, s.pending = [] → step s = .next s)

/-- A write of START clears the trap record, the loop stack and the weights' VALID bits of the threads it arms; STOP marks threads to stop; a trap
is recorded in the thread's registers and in the attention words (R63, R65, R71, R73, R123). -/
def Obligations.ThreadCommands : Prop :=
  ∀ (t : Nat) (x : TileIx) (s : State),
    let u := s.tick t
    (∀ mask : BitVec 4, u.memOnly x = false → u.rd F.SEQ_CTL_CONFIGURED x = 1 → u.marginTile x = false →
      Completes (.threadStart t x mask) s fun s' =>
        (∀ k < u.threadCount x, mask.toNat.testBit k = true → u.started x k = false → u.trapNow x k = false →
          s'.started x k = true ∧ (∀ f ∈ trapFlds, s'.rd f (x.val * 4 + k) = 0) ∧
          (s'.rd F.SEQ_THREAD_CTL_TRAPPED x).testBit k = false ∧ s'.rd F.ARR_STATUS_ACTIVE_VALID (x.val * 4 + k) = 0 ∧
          s'.rd F.ARR_STATUS_SHADOW_VALID (x.val * 4 + k) = 0 ∧ (s'.thread x k).stack = [] ∧ (s'.thread x k).trap = none) ∧
        (∀ k < 4, (u.threadCount x ≤ k ∨ mask.toNat.testBit k = false ∨ u.started x k = true ∨ u.trapNow x k = true) →
          s'.thread x k = u.thread x k ∧ s'.started x k = u.started x k ∧ ∀ f ∈ trapFlds, s'.rd f (x.val * 4 + k) = u.rd f (x.val * 4 + k)) ∧
        s'.rd F.SEQ_THREAD_CTL_RUNNING x = u.rd F.SEQ_THREAD_CTL_RUNNING x ∧
        KeepsTiles x u s' ∧ s' = { u with fv := s'.fv, tiles := s'.tiles }) ∧
    (∀ mask : BitVec 4, u.memOnly x = false →
      Completes (.threadStop t x mask) s fun s' =>
        (∀ k < 4, s'.thread x k = if k < u.threadCount x ∧ mask.toNat.testBit k ∧ (u.running x k ∨ u.started x k) ∧ ¬ u.trapNow x k
          then { u.thread x k with stopReq := true } else u.thread x k) ∧
        KeepsTiles x u s' ∧ s' = { u with tiles := s'.tiles }) ∧
    (∀ (k : ThreadIx) (p : PendTrap), (u.thread x k).trap = some p →
      Completes (.trapRecord t x k) s fun s' =>
        s'.rd F.SEQ_TRAP_CODE (x.val * 4 + k) = p.code % 256 ∧ s'.rd F.SEQ_TRAP_MULTI (x.val * 4 + k) = bit p.multi ∧
        s'.rd F.SEQ_TRAP_SHARED (x.val * 4 + k) = bit p.shared ∧ s'.rd F.SEQ_TRAP_INFO (x.val * 4 + k) = p.info % 2 ^ 16 ∧
        s'.rd F.SEQ_TRAP_PLAY_INDEX (x.val * 4 + k) = p.idx % 2 ^ 24 ∧ s'.rd F.SEQ_TRAP_BEAT_BEAT (x.val * 4 + k) = p.beat % 2 ^ 64 ∧
        (s'.rd F.SEQ_THREAD_CTL_TRAPPED x).testBit k = true ∧ s'.rd F.ATT_PENDING_TRAP 0 = 1 ∧
        (if x.val < 64 then (s'.rd F.ATT_TRAP0_TILES 0).testBit x.val else (s'.rd F.ATT_TRAP1_TILES 0).testBit (x.val - 64)) = true ∧
        s'.thread x k = { u.thread x k with trap := none } ∧
        KeepsRegs (trapFlds.map (fun f => (f, x.val * 4 + k.val)) ++
          [(F.SEQ_THREAD_CTL_TRAPPED, x.val), (F.ATT_PENDING_TRAP, 0), (F.ATT_TRAP0_TILES, 0), (F.ATT_TRAP1_TILES, 0)]) u s' ∧
        KeepsTiles x u s' ∧ s' = { u with fv := s'.fv, tiles := s'.tiles })

/-- At its turn a thread whose play passes every check issues all of it: each slot goes to its unit or its latch, and the thread moves on by the
loop rules (R42, R43, R44, R45, R46, R48, R503). -/
def Obligations.PlayIssues : Prop :=
  ∀ (t : Nat) (x : TileIx) (k : ThreadIx) (s : State),
    let u := s.tick t
    let i := (u.thread x k).pos
    let a := u.rd F.SEQ_PLAY_BASE_BASE (x.val * 4 + k) + 64 * i
    let p := u.tsNat x a 64
    u.isTurn x k = true → a + 64 ≤ 0x1800000 → u.poisoned x (a / 64) = false → u.playDue x k p ≤ u.sclk →
    u.playChecks x k i p (u.free.1 % 65536) = [] →
    Completes (.playIssue t x k .clean) s fun s' =>
      (s'.tile x).eng.slots = (u.tile x).eng.slots ++ ((List.range 8).filter (fun n => plHas p n && (u.latchOf x k n (plSlot p n)).isNone)).map
        (fun n => ⟨n, k.val, u.gclk, i, plSlot p n⟩) ∧
      (∀ n < 8, ∀ l, plHas p n = true → u.latchOf x k n (plSlot p n) = some l →
        Tab.find (s'.tile x).eng.latch l = some ⟨n, k.val, u.gclk, i, plSlot p n⟩) ∧
      (let nx := nextPlay (u.thread x k) i p
       (s'.thread x k).pos = nx.2.1 ∧ (s'.thread x k).stack = nx.1 ∧ (s'.thread x k).last = i ∧
       (s'.thread x k).due = u.sclk + u.threadCount x ∧
       s'.running x k = !(nx.2.2 && plLast p) ∧ ((nx.2.2 && plLast p) = false → s'.fv = u.fv)) ∧
      (plHas p 2 = true → (s'.tile x).eng.vecFree = u.gclk + vecCycles (vOp (plSlot p 2))) ∧
      (∀ n < 4, n ≠ k.val → s'.thread x n = u.thread x n ∧ s'.running x n = u.running x n) ∧
      KeepsRegs [(F.SEQ_THREAD_CTL_RUNNING, x.val), (F.SEQ_THREAD_CTL_START, x.val)] u s' ∧
      KeepsTiles x u s' ∧ s' = { u with fv := s'.fv, tiles := s'.tiles }

/-- Each vector operation takes up its slot and gives its result to the destination register 4 or 8 cycles later, with its numeric flags; in the
INT32 form sum, product, maximum, minimum, comparison, selection, broadcast and reduction are the integer ones, lane by lane (R49, R50, R90, R102). -/
def Obligations.VectorOperations : Prop :=
  (∀ e ∈ vectorCommands, ∀ (t : Nat) (x : TileIx) (s : State) (sl : Slot),
     (s.tile x).eng.slots.find? (fun l => l.kind == 2 && vOp l.word == e.1) = some sl →
     let r := vecResult e.1 (vForm sl.word) (s.vreg x (vA sl.word)) (s.vreg x (vB sl.word)) (s.vreg x (vC sl.word)) (vImm sl.word)
     Completes (e.2 t x) s fun s' =>
       (s'.tile x).eng.vec = (s.tile x).eng.vec ++ [⟨vDst sl.word, sl.cyc + (if e.1 < 0x10 then 4 else 8), r.1⟩] ∧
       (s'.tile x).eng.slots = (s.tile x).eng.slots.erase sl ∧
       (s'.tile x).eng.vregs = (s.tile x).eng.vregs ∧
       (∀ g ∈ numFlags, s'.rd g.2 (x.val * 4 + sl.k) = if r.2.testBit g.1 then 1 else s.rd g.2 (x.val * 4 + sl.k)) ∧
       KeepsRegs (numFlags.map (fun g => (g.2, x.val * 4 + sl.k))) s s' ∧ KeepsTiles x s s' ∧
       s' = { s.tick t with fv := s'.fv, tiles := s'.tiles }) ∧
  (∀ (a b c : List Nat) (imm i : Nat), i < 512 →
     let lane (op : Nat) := (vecResult op 3 a b c imm).1.getD i 0
     let A := a.getD i 0 % 2 ^ 32
     let B := b.getD i 0 % 2 ^ 32
     let C := c.getD i 0
     lane 0x01 = (A + B) % 2 ^ 32 ∧ lane 0x02 = A * B % 2 ^ 32 ∧ lane 0x03 = (A * B + C) % 2 ^ 32 ∧
     (a.getD i 0 < 2 ^ 32 → b.getD i 0 < 2 ^ 32 →
       signed 32 (lane 0x04) = max (signed 32 A) (signed 32 B) ∧ signed 32 (lane 0x05) = min (signed 32 A) (signed 32 B) ∧
       lane 0x06 = (if signed 32 A < signed 32 B then 0xFFFFFFFF else 0) ∧
       lane 0x07 = if C = 0 then B else A) ∧
     (vecResult 0x09 3 a b c imm).1.getD i 0 = imm ∧
     (vecResult 0x18 3 a b c imm).1.getD i 0 = if i = 0 then a.sum % 2 ^ 32 else 0)

/-- CVT gives the converted stream to its destination 4 cycles later, its side stream beside it, and a stochastic one moves the context on by the
values converted (R88, R102, R237). -/
def Obligations.VectorConversions : Prop :=
  ∀ (t : Nat) (x : TileIx) (s : State) (sl : Slot) (src dst : Fmt),
    (s.tile x).eng.slots.find? (fun l => l.kind == 2 && vOp l.word == 0x08) = some sl →
    let imm := vImm sl.word
    cvtSrc (vForm sl.word) imm = some src → fmtOfCode (bitsAt imm 0 8) = some dst →
    let u := s.tick t
    let n := cvtCount src dst
    let round := bitsAt imm 17 2
    let side := if fmtHasSide src then regStream (s.vreg x (vA sl.word + 1)) else 0
    let r := cvt src dst (imm.testBit 16) (u.cvtModes x sl.k (if dst = .ls128 then 0 else round) n dst) (bitsAt imm 24 8)
      (regStream (s.vreg x (vA sl.word))) side
    r.ovf = none →
    Completes (.vectorCvt t x) s fun s' =>
      (s'.tile x).eng.vec = (s.tile x).eng.vec ++ ⟨vDst sl.word, sl.cyc + 4, streamLanes r.data⟩ ::
        (match r.side with
        | some sd => [⟨vDst sl.word + 1, sl.cyc + 4, streamLanes sd⟩]
        | none => []) ∧
      s'.ctx x sl.k = (if round = 2 then { s.ctx x sl.k with e := ((s.ctx x sl.k).e + n) % 2 ^ 64 } else s.ctx x sl.k) ∧
      (∀ g ∈ numFlags, s'.rd g.2 (x.val * 4 + sl.k) = if r.flags.testBit g.1 then 1 else s.rd g.2 (x.val * 4 + sl.k)) ∧
      KeepsRegs (numFlags.map (fun g => (g.2, x.val * 4 + sl.k))) s s' ∧ KeepsTiles x s s' ∧
      s' = { u with fv := s'.fv, tiles := s'.tiles }

/-- A result that is due is written to its vector register, and a store move that is due to its register or to its tile-store rows, and nothing
else changes (R51, R250). -/
def Obligations.RegisterResultsLand : Prop :=
  ∀ (t : Nat) (x : TileIx) (s : State),
    let u := s.tick t
    (∀ p : VecPend, (s.tile x).eng.vec.find? (fun p => decide (p.due ≤ u.gclk)) = some p →
      Completes (.vectorResult t x) s fun s' =>
        s'.vreg x p.dst = p.lanes ∧ (∀ r, r ≠ p.dst → s'.vreg x r = s.vreg x r) ∧ (s'.tile x).eng.vec = (s.tile x).eng.vec.erase p ∧
        KeepsTiles x s s' ∧ s' = { u with tiles := s'.tiles }) ∧
    (∀ p : StorePend, (s.tile x).eng.stores.find? (fun p => decide (p.due ≤ u.gclk)) = some p → u.gclk - p.due ≤ u.slack →
      Completes (.storeMoveComplete t x) s fun s' =>
        (s'.tile x).eng.stores = (s.tile x).eng.stores.erase p ∧
        (p.toReg = true → s'.vreg x p.vreg = p.lanes ∧ (∀ r, r ≠ p.vreg → s'.vreg x r = s.vreg x r) ∧ s'.ts = s.ts) ∧
        (p.toReg = false → (∀ r, s'.vreg x r = s.vreg x r) ∧
          s'.ts = (u.tsWrite x p.addr (lanesBytes p.lanes)).ts ∧
          (∀ r, (∀ j < 32, u.poisoned x (p.addr / 64 + j) = false) → p.addr % 64 = 0 → p.lanes.length = 512 → r < 2048 →
            s'.tsByte x (p.addr + r) = (lanesBytes p.lanes).getD r 0) ∧
          (∀ y a, outside x p.addr (lanesBytes p.lanes).length y a → s'.tsByte y a = s.tsByte y a)) ∧
        s'.fv = s.fv ∧ KeepsTiles x s s' ∧ s' = { u with ts := s'.ts, tiles := s'.tiles })

/-- A store move reads its rows or its register and completes 12 or 4 cycles later; a remap copy ends; zeroing leaves the whole tile store 0 and no
row poisoned (R51, R54, R56). -/
def Obligations.StoreMovesBegin : Prop :=
  (∀ (t : Nat) (x : TileIx) (s : State) (sl : Slot),
     let u := s.tick t
     (∀ (errs : List MemErr), (s.tile x).eng.slots.find? (fun l => l.kind == 3 && !l.word.testBit 0) = some sl →
       (∀ e ∈ errs, inRows (stAddr sl.word) 2048 e = false) → (∀ j < 33, u.poisoned x (stAddr sl.word / 64 + j) = false) →
       Completes (.storeToRegister t x errs) s fun s' =>
         (s'.tile x).eng.stores = (s.tile x).eng.stores ++ [⟨true, stVreg sl.word, stAddr sl.word, sl.k, sl.cyc + 12,
           lanesOf (s.tsRead x (stAddr sl.word) 2048)⟩] ∧
         (s'.tile x).eng.slots = (s.tile x).eng.slots.erase sl ∧ s'.ts = s.ts ∧ s'.fv = s.fv ∧ KeepsTiles x s s' ∧
         s' = { u with tiles := s'.tiles }) ∧
     ((s.tile x).eng.slots.find? (fun l => l.kind == 3 && l.word.testBit 0) = some sl →
       Completes (.registerToStore t x) s fun s' =>
         (s'.tile x).eng.stores = (s.tile x).eng.stores ++ [⟨false, stVreg sl.word, stAddr sl.word, sl.k, sl.cyc + 4,
           s.vreg x (stVreg sl.word)⟩] ∧
         (s'.tile x).eng.slots = (s.tile x).eng.slots.erase sl ∧ s'.ts = s.ts ∧ s'.fv = s.fv ∧ KeepsTiles x s s' ∧
         s' = { u with tiles := s'.tiles })) ∧
  (∀ (t : Nat) (x : TileIx) (s : State),
     let u := s.tick t
     (∀ (b : Fin 64) (c : Nat × Nat), (s.tile x).eng.copying.find? (fun c => c.1 == b.val) = some c →
       Completes (.tstoreRemapCopyDone t x b) s fun s' =>
         (s'.tile x).eng = { (s.tile x).eng with copying := (s.tile x).eng.copying.erase c } ∧ KeepsTiles x s s' ∧
         s' = { u with tiles := s'.tiles }) ∧
     ((s.tile x).eng.zeroing = true →
       Completes (.tstoreZeroingDone t x) s fun s' =>
         (∀ a < 2 ^ 25, s'.tsByte x a = 0) ∧ (∀ y, y ≠ x.val → ∀ a < 2 ^ 25, s'.tsByte y a = s.tsByte y a) ∧
         (s'.tile x).eng.zeroing = false ∧ (∀ r, s'.poisoned x r = false) ∧ s'.mem = s.mem ∧ s'.fv = s.fv ∧ KeepsTiles x s s' ∧
         s' = { u with ts := s'.ts, tiles := s'.tiles }))

/-- XCHG takes its descriptor and starts its channel; a chunk within one tile moves its bytes and nothing else; a channel that is to halt shows
HALTED and its code (R57, R58, R59, R60, R61). -/
def Obligations.ExchangeCommands : Prop :=
  ∀ (t : Nat) (x : TileIx) (s : State),
    let u := s.tick t
    (∀ sl : Slot, (s.tile x).eng.slots.find? (fun l => l.kind == 5) = some sl →
      let c := bitsAt sl.word 0 4
      let d := u.tsNat x (u.rd F.SEQ_XCH_DESC_BASE_BASE x + 32 * bitsAt sl.word 8 16) 32
      (xdTotal d ≠ 0 → xdMisaligned d = false ∧ (xdSrcSpace d = 2 → u.moduleKnown (bitsAt (xdSrc d) 40 9) = true) ∧
        (xdDstSpace d = 2 → u.moduleKnown (bitsAt (xdDst d) 40 9) = true) ∧ u.xdViol d = none) → u.gclk - sl.cyc ≤ u.slack →
      Completes (.exchangeStart t x) s fun s' =>
        Sets [(F.SEQ_XCH_STATUS_DESC_INDEX, x.val * 16 + c, bitsAt sl.word 8 16),
          (F.SEQ_XCH_STATUS_STATE, x.val * 16 + c, if xdTotal d = 0 then 0 else 1)] s s' ∧
        s'.chan x c = ⟨d, sl.k, sl.cyc, 0, 0, xdTotal d != 0, none⟩ ∧ (∀ n, n ≠ c → s'.chan x n = s.chan x n) ∧
        (s'.tile x).eng.slots = (s.tile x).eng.slots.erase sl ∧ KeepsTiles x s s' ∧ s' = { u with fv := s'.fv, tiles := s'.tiles }) ∧
    (∀ (c : ChanIx), let d := (u.chan x c).desc
      let j := (u.chan x c).next
      (u.chan x c).started = true → j < xdTotal d → u.chunkDue x c j ≤ u.gclk →
      u.gclk - chunkCycle (u.chan x c).origin c j ≤ u.slack → u.frozen = false →
      ((u.chan x c).halt = none ∨ j % xdPerRow d ≠ 0) → xdSrcSpace d = 0 → xdDstSpace d = 0 → xdAdd d = 0 →
      (∀ r, xdSrcAt d j / 64 ≤ r → r ≤ (xdSrcAt d j + xdSrcSize d j) / 64 → u.poisoned x r = false) →
      (∀ r, xdDstAt d j / 64 ≤ r → r ≤ (xdDstAt d j + xdSize d j) / 64 → u.poisoned x r = false) →
      Completes (.exchangeChunkMove t x c []) s fun s' =>
        (∀ n < xdSize d j, s'.tsByte x (xdDstAt d j + n) = s.tsByte x (xdSrcAt d j + n)) ∧
        (∀ y a, outside x (xdDstAt d j) (xdSize d j) y a → s'.tsByte y a = s.tsByte y a) ∧
        (∀ n, n ≠ c.val → s'.chan x n = s.chan x n) ∧ (s'.chan x c).next = j + 1 ∧ (s'.chan x c).served = (s.chan x c).served + 1 ∧
        (if (s.chan x c).served + 1 = xdTotal d then
          Sets [(F.SEQ_XCH_STATUS_STATE, x.val * 16 + c.val, 0)] s s' ∧ (s'.chan x c).started = false
        else s'.fv = s.fv ∧ (s'.chan x c).started = true) ∧ KeepsTiles x s s' ∧
        s' = { u with fv := s'.fv, ts := s'.ts, tiles := s'.tiles }) ∧
    (∀ (c : ChanIx) (code : Nat), (s.chan x c).halt = some code → (s.chan x c).started = true →
      (s.chan x c).next % xdPerRow (s.chan x c).desc = 0 → (s.chan x c).served = (s.chan x c).next →
      Completes (.exchangeChannelHalt t x c) s fun s' =>
        Sets [(F.SEQ_XCH_STATUS_STATE, x.val * 16 + c, 2), (F.SEQ_XCH_STATUS_HALT_CODE, x.val * 16 + c, code % 256)] s s' ∧
        s'.chan x c = { s.chan x c with started := false, halt := none } ∧ KeepsTiles x s s' ∧
        s' = { u with fv := s'.fv, tiles := s'.tiles })

/-- PASS begins with the descriptor it names, with SWAP on the weights of the shadow, and streams for its span (R105, R112, R113). -/
def Obligations.ArrayPasses : Prop :=
  ∀ (t : Nat) (x : TileIx) (s : State) (sl : Slot),
    (s.tile x).eng.slots.find? (fun l => l.kind == 0 && asCmd l.word == 2) = some sl →
    let u := s.tick t
    let i := x.val * 4 + sl.k
    let d := u.arrDesc x (asDesc sl.word)
    let p := u.part x sl.k
    let act := if asSwap sl.word then p.shadow else p.active
    let empty := pdRows d = 0 ∨ pdK d = 0 ∨ pdN d = 0
    Completes (.arrayPass t x) s fun s' =>
      s'.part x sl.k = { p with active := act, streamEnd := if empty then sl.cyc else sl.cyc + pdSpan d, passes := if empty then p.passes else p.passes ++ [⟨sl.cyc, d, asDesc sl.word, act, []⟩] } ∧
      (∀ n, n ≠ sl.k → s'.part x n = u.part x n) ∧
      Sets ((F.ARR_STATUS_DESC_INDEX, i, asDesc sl.word) ::
        (if asSwap sl.word then [(F.ARR_STATUS_SHADOW_VALID, i, 0), (F.ARR_STATUS_ACTIVE_VALID, i, 1)] else [])) s s' ∧
      (s'.tile x).eng = { (s.tile x).eng with slots := (s.tile x).eng.slots.erase sl } ∧ KeepsTiles x s s' ∧
      s' = { u with fv := s'.fv, tiles := s'.tiles }

/-- LOAD and PASS_LOAD read the weights their descriptor names, the shadow becomes valid 128 cycles later, and an output of a pass writes its bytes
at its place, sets its flags and ends the pass with the last one (R105, R108, R113, R114, R102). -/
def Obligations.ArrayLoads : Prop :=
  (∀ (t : Nat) (x : TileIx) (s : State) (sl : Slot),
     let u := s.tick t
     let i := x.val * 4 + sl.k
     let d := u.arrDesc x (asLoad sl.word)
     let w : Wts := ⟨(s.tile x).loads + 1, pdClass d, pdW d, pdK d, pdN d, (loadWeights u x d).1, (loadWeights u x d).2⟩
     pdK d ≠ 0 → pdN d ≠ 0 → loadReadable u x d →
     ((s.tile x).eng.slots.find? (fun l => l.kind == 0 && asCmd l.word == 1) = some sl →
       Completes (.arrayLoad t x []) s fun s' =>
         s'.part x sl.k = { u.part x sl.k with load := some ⟨sl.cyc, w, pdSlice d, false⟩ } ∧
         Sets [(F.ARR_STATUS_LOADING, i, 1), (F.ARR_STATUS_SHADOW_VALID, i, 0)] s s' ∧
         (s'.tile x).eng = { (s.tile x).eng with slots := (s.tile x).eng.slots.erase sl } ∧ KeepsTiles x s s' ∧
         s' = { u with fv := s'.fv, tiles := s'.tiles }) ∧
     ((s.tile x).eng.slots.find? (fun l => l.kind == 0 && asCmd l.word == 3) = some sl →
       let e := u.arrDesc x (asDesc sl.word)
       let p := u.part x sl.k
       let act := if asSwap sl.word then p.shadow else p.active
       let empty := pdRows e = 0 ∨ pdK e = 0 ∨ pdN e = 0
       Completes (.arrayPassLoad t x []) s fun s' =>
         s'.part x sl.k = { p with active := act, streamEnd := if empty then sl.cyc else sl.cyc + pdSpan e, passes := if empty then p.passes else p.passes ++ [⟨sl.cyc, e, asDesc sl.word, act, []⟩], load := some ⟨sl.cyc, w, pdSlice d, false⟩ } ∧
         Sets ([(F.ARR_STATUS_DESC_INDEX, i, asDesc sl.word), (F.ARR_STATUS_LOADING, i, 1), (F.ARR_STATUS_SHADOW_VALID, i, 0)] ++
           (if asSwap sl.word then [(F.ARR_STATUS_ACTIVE_VALID, i, 1)] else [])) s s' ∧
         (s'.tile x).eng = { (s.tile x).eng with slots := (s.tile x).eng.slots.erase sl } ∧ KeepsTiles x s s' ∧
         s' = { u with fv := s'.fv, tiles := s'.tiles })) ∧
  (∀ (t : Nat) (x : TileIx) (k : ThreadIx) (s : State),
     let u := s.tick t
     let i := x.val * 4 + k.val
     (∀ l : Load, (s.part x k).load = some l → l.origin + 128 ≤ u.gclk → u.gclk - (l.origin + 128) ≤ u.slack →
       (l.slice = false ∨ u.gclk = l.origin + 128) →
       Completes (.shadowLoadComplete t x k) s fun s' =>
         s'.part x k = { s.part x k with load := none, shadow := if l.bad then (s.part x k).shadow else l.w } ∧
         Sets [(F.ARR_STATUS_LOADING, i, 0), (F.ARR_STATUS_SHADOW_VALID, i, bit !l.bad)] s s' ∧ KeepsTiles x s s' ∧
         s' = { u with fv := s'.fv, tiles := s'.tiles }) ∧
     (∀ (pi row col : Nat) (p : Pass), (s.part x k).passes[pi]? = some p →
       let d := p.desc
       let eb := outBytes (fmtD (pdOut d))
       let due := p.origin + rowCycle (pdClass d) row + col + 137
       let dst := dsc d 32 4 + row * dsc d 36 4 + col * eb
       let o := u.arrayOut x p row col
       let q : Pass := { p with done := (row * 128 + col) :: p.done }
       row < pdRows d → col < pdN d → p.done.contains (row * 128 + col) = false → due ≤ u.gclk → u.gclk - due ≤ u.slack →
       goodRows u x (dsc d 24 4 + row * dsc d 28 4) (streamBytes (fmtD (pdIn d)) (pdK d)) →
       (fmtIsMx (fmtD (pdIn d)) = true → goodRows u x (pdInScale d + row * (pdK d / 32)) (pdK d / 32)) →
       (pdAccum d = true → goodRows u x (pdAccAt d row col eb) eb) → goodRows u x dst eb →
       (∀ a, o.acc = some a → a.overflows = false) →
       Completes (.arrayOutput t x k pi row col []) s fun s' =>
         (pdArg d = false → fmtD (pdOut d) ≠ .ls128 → (∀ b < eb, s'.tsByte x (dst + b) = (leBytes eb o.bits).getD b 0) ∧
           ∀ y a, outside x dst eb y a → s'.tsByte y a = s.tsByte y a) ∧
         (s'.part x k).passes = (if q.done.length = pdRows d * pdN d then (s.part x k).passes.erase p else (s.part x k).passes.set pi q) ∧
         (∀ g ∈ numFlags, s'.rd g.2 i = if o.flags.testBit g.1 then 1 else s.rd g.2 i) ∧
         KeepsRegs (numFlags.map (fun g => (g.2, i))) s s' ∧ KeepsTiles x s s' ∧
         s' = { u with fv := s'.fv, ts := s'.ts, tiles := s'.tiles }))

/-- A fault of a pass or a load stops it, clears the VALID bits, counts and traps its thread with code 3; parity while idle counts and traps
nobody; a shared fault traps every thread (R119, R122, R505). -/
def Obligations.ArrayFaults : Prop :=
  ∀ (t : Nat) (x : TileIx) (k : ThreadIx) (s : State),
    let u := s.tick t
    let i := x.val * 4 + k.val
    (∀ (col : Nat) (parity : Bool), u.partBusy x k = true → Untrapped u x k →
      Completes (.arrayPassFault t x k col parity) s fun s' =>
        TrapsWith u s' x k 3 ((if (s.part x k).passes.isEmpty then 0xFF else col % 256) + 256 * bit parity) false ∧
        s'.part x k = { s.part x k with passes := [], load := none } ∧
        s'.rd F.ARR_STATUS_ACTIVE_VALID i = 0 ∧ s'.rd F.ARR_STATUS_SHADOW_VALID i = 0 ∧ s'.rd F.ARR_STATUS_LOADING i = 0 ∧
        (let f := if parity then F.ARR_CHECK_PARITY_FAULTS else F.ARR_CHECK_RESIDUE_FAULTS
         s'.rd f x = satAdd f.w (s.rd f x) 1) ∧
        KeepsTiles x s s' ∧ s' = { u with fv := s'.fv, tiles := s'.tiles }) ∧
    (u.partBusy x k = false →
      Completes (.weightParityIdle t x k) s fun s' =>
        s'.rd F.ARR_STATUS_ACTIVE_VALID i = 0 ∧ s'.rd F.ARR_STATUS_SHADOW_VALID i = 0 ∧
        s'.rd F.ARR_CHECK_PARITY_FAULTS x = satAdd F.ARR_CHECK_PARITY_FAULTS.w (s.rd F.ARR_CHECK_PARITY_FAULTS x) 1 ∧
        s'.rd F.ARR_CHECK_RESIDUE_FAULTS x = s.rd F.ARR_CHECK_RESIDUE_FAULTS x ∧
        s'.tiles = s.tiles ∧ s' = { u with fv := s'.fv, scb := s'.scb }) ∧
    ((∀ n < u.threadCount x, (u.running x n || u.started x n || u.trapped x n) = true → Untrapped u x n) →
      Completes (.sharedControlFault t x) s fun s' =>
        (∀ n < u.threadCount x, s'.part x n = { s.part x n with passes := [], load := none } ∧
          s'.rd F.ARR_STATUS_ACTIVE_VALID (x.val * 4 + n) = 0 ∧ s'.rd F.ARR_STATUS_SHADOW_VALID (x.val * 4 + n) = 0 ∧
          ((u.running x n || u.started x n || u.trapped x n) = true → TrapsWith u s' x n 3 (0xFF + 256 * 2) true)) ∧
        KeepsTiles x s s' ∧ s' = { u with fv := s'.fv, tiles := s'.tiles })

/-- START begins a descriptor; a chunk is read from the slice a cycle after the one before; a group's outputs land 124 cycles after its last chunk;
a fault traps the thread (R124, R125, R126, R127, R129). -/
def Obligations.MvPath : Prop :=
  ∀ (t : Nat) (x : TileIx) (s : State),
    let u := s.tick t
    (∀ sl : Slot, (s.tile x).eng.slots.find? (fun l => l.kind == 1 && bitsAt l.word 0 4 == 1) = some sl →
      let j := bitsAt sl.word 4 16
      let d := u.arrDesc x j
      let empty := mdVectors d = 0 ∨ mdK d = 0 ∨ mdN d = 0
      Completes (.mvStart t x) s fun s' =>
        (s'.tile x).mv = (if empty then (s.tile x).mv else (s.tile x).mv ++ [⟨sl.k, j, d, sl.cyc, none, 0, 0, []⟩]) ∧
        (s'.tile x).mvEnd = (if empty then (s.tile x).mvEnd else sl.cyc + mdSpan d) ∧
        (s'.tile x).eng = { (s.tile x).eng with slots := (s.tile x).eng.slots.erase sl } ∧
        Sets [(F.ARR_MV_STATUS_DESC_INDEX, x.val, j), (F.ARR_MV_STATUS_THREAD, x.val, sl.k % 4)] s s' ∧ KeepsTiles x s s' ∧
        s' = { u with fv := s'.fv, tiles := s'.tiles }) ∧
    (∀ m : MvRun, (s.tile x).mv.find? (fun m => decide (m.chunk < mdSpan m.desc)) = some m →
      let off := u.ownOff (dsc m.desc 16 8) + 512 * m.chunk
      m.origin + m.chunk ≤ u.gclk → u.gclk - (m.origin + m.chunk) ≤ u.slack → u.ownHeld x off 512 = false → m.held = none →
      goodLines u x off 512 →
      Completes (.mvChunkRead t x []) s fun s' =>
        (s'.tile x).mv = (s.tile x).mv.map (fun n => if n = m then
          { m with held := none, chunk := m.chunk + 1, data := m.data ++ [leVal (s.dram x off 512)] } else n) ∧
        s'.fv = s.fv ∧ KeepsTiles x s s' ∧ s' = { u with tiles := s'.tiles }) ∧
    (∀ (m : MvRun) (r : List MvRun), (s.tile x).mv = m :: r →
      let d := m.desc
      let gc := mvGroupChunks (mdW d) (mdK d / 32)
      let g := mvG (mdW d)
      let f := fmtD (dsc d 3 1)
      let eb := outBytes f
      let due := m.origin + (m.group + 1) * gc - 1 + 124
      let dst := dsc d 36 4 + m.group * g * eb
      (m.group + 1) * gc ≤ m.chunk → due ≤ u.gclk → u.gclk - due ≤ u.slack → mdVectors d = 1 → f ≠ .ls128 →
      goodRows u x (dsc d 24 4) (streamBytes (mdX d) (mdK d)) → (fmtIsMx (mdX d) = true → goodRows u x (dsc d 32 4) (mdK d / 32)) →
      (pdAccum d = true → goodRows u x (dsc d 44 4 + 16 * (m.group * g)) (16 * g)) → goodRows u x dst (g * eb) →
      (∀ o < g, (u.mvSum x m 0 o).1.overflows = false) →
      Completes (.mvGroupOutput t x []) s fun s' =>
        (∀ o < g, ∀ b < eb, s'.tsByte x (dst + o * eb + b) =
          (leBytes eb (lsOut f (pdRound d) (pdNonsat d) (u.mvSum x m 0 o).2.1 (u.mvSum x m 0 o).1).bits).getD b 0) ∧
        (∀ y a, outside x dst (g * eb) y a → s'.tsByte y a = s.tsByte y a) ∧
        (mdN d ≤ m.group * g + g → (s'.tile x).mv = r) ∧
        (m.group * g + g < mdN d → (s'.tile x).mv.head? = some { m with group := m.group + 1, data := m.data.drop gc }) ∧
        KeepsRegs (numFlags.map (fun g => (g.2, x.val * 4 + m.k))) s s' ∧ KeepsTiles x s s' ∧
        s' = { u with fv := s'.fv, ts := s'.ts, tiles := s'.tiles }) ∧
    (∀ (m : MvRun) (r : List MvRun) (vec : Fin 16), (s.tile x).mv = m :: r → Untrapped u x m.k →
      Completes (.mvFault t x vec) s fun s' =>
        TrapsWith u s' x m.k 3 (vec.val + 768) false ∧ (s'.tile x).mv = r ∧
        s'.rd F.ARR_CHECK_RESIDUE_FAULTS x = satAdd F.ARR_CHECK_RESIDUE_FAULTS.w (s.rd F.ARR_CHECK_RESIDUE_FAULTS x) 1 ∧
        KeepsTiles x s s' ∧ s' = { u with fv := s'.fv, tiles := s'.tiles })

/-- ATTEND takes its descriptor and its bound; a bound above the budget traps with BUDGET and nothing is written; a step within it writes its
outputs and counts at its end; a row that sees no page gives zeros (R139, R140, R141, R145, R146, R148). -/
def Obligations.AttentionSteps : Prop :=
  (∀ (t : Nat) (x : TileIx) (s : State),
     let u := s.tick t
     (∀ sl : Slot, (s.tile x).eng.slots.find? (fun l => l.kind == 1 && bitsAt l.word 0 4 == 2) = some sl →
       let j := bitsAt sl.word 4 16
       let d := u.arrDesc x j
       let empty := adEntries d = 0 ∨ adBudget d = 0
       Completes (.attend t x) s fun s' =>
         (s'.tile x).attends = (if empty then (s.tile x).attends else
           (s.tile x).attends ++ [⟨sl.k, j, d, sl.cyc, u.attendBound x (adHead d) (adEntries d), false, false, [], []⟩]) ∧
         (s'.tile x).mvEnd = sl.cyc + (if empty then 1 else adBudget d) ∧
         (s'.tile x).eng = { (s.tile x).eng with slots := (s.tile x).eng.slots.erase sl } ∧
         Sets ([(F.ARR_MV_STATUS_DESC_INDEX, x.val, j), (F.ARR_MV_STATUS_THREAD, x.val, sl.k % 4)] ++
           (if empty then [] else [(F.KVS_STATE_BUSY, hIx x (adHead d), 1)])) s s' ∧
         ((empty ∨ adNoScore d = true) → (s'.tile x).score = (s.tile x).score) ∧
         (¬ empty → adNoScore d = false → ∀ q, Tab.get 0 (s'.tile x).score q =
           if q % 16384 / 4096 = adHead d then 0 else Tab.get 0 (s.tile x).score q) ∧
         KeepsTiles x s s' ∧ s' = { u with fv := s'.fv, tiles := s'.tiles }) ∧
     (∀ a : Attend, (s.tile x).attends.find? (fun a => !a.ran) = some a →
       let d := a.desc
       let h := adHead d
       let es := (List.range (adEntries d)).map (fun e => ltOf (u.ltRaw x h e))
       (∀ e < adEntries d, ltIllegal (u.ltRaw x h e) = false) → u.kvGroup x h * (es.map (fun e => e.new)).sum ≤ 65536 →
       u.attendReach x h d es = false →
       (a.bound ≤ adBudget d → Completes (.attendBudgetCheck t x []) s fun s' => a ∉ (s'.tile x).attends) ∧
       (adBudget d < a.bound → Untrapped u x a.k →
         Completes (.attendBudgetCheck t x []) s fun s' =>
           TrapsWith u s' x a.k 0x25 (min (ceilDiv a.bound 256) 0xFFFF) false ∧ s'.ts = s.ts ∧ s'.mem = s.mem ∧
           (s'.tile x).attends = (s.tile x).attends.map (fun m => if m = a then { a with ran := true } else m) ∧
           KeepsTiles x s s' ∧ s' = { u with fv := s'.fv, tiles := s'.tiles })) ∧
     (∀ a : Attend, (s.tile x).attends.find? (fun a => a.ran) = some a →
       Completes (.attendWriteBack t x) s fun s' =>
         (s'.tile x).attends = (s.tile x).attends.erase a ∧
         (s'.tile x).shadows = (if a.ok then (s.tile x).shadows ++ [⟨adHead a.desc, a.shadow⟩] else (s.tile x).shadows) ∧
         s'.ts = (a.writes.foldl (fun z w => z.tsWrite x w.1 w.2) u).ts ∧
         Sets ((F.KVS_STATE_BUSY, hIx x (adHead a.desc), 0) ::
           (if a.ok then [(F.KVS_COUNT_STEPS, hIx x (adHead a.desc), (s.rd F.KVS_COUNT_STEPS (hIx x (adHead a.desc)) + 1) % 2 ^ 32)]
             else [])) s s' ∧
         KeepsTiles x s s' ∧ s' = { u with fv := s'.fv, ts := s'.ts, tiles := s'.tiles })) ∧
  (∀ (d dim ctr : Nat) (q : List Val) (pages : List PageView) (holes : Bool), (∀ p ∈ pages, p.vis = []) →
     let r := attendRow d dim ctr q pages holes
     r.o = List.replicate (dim * (fmtBits (fmtD (dsc d 2 1)) / 8)) 0 ∧ r.lse = 0xFF800000 ∧ r.status.testBit 0 = true ∧ r.terms = [])

/-- A step's records go to the shadow in the slice, and after a reset the tables come back from it if the step words agree; otherwise the head is
LOST (R155, R156, R157). -/
def Obligations.AttentionShadow : Prop :=
  ∀ (t : Nat) (x : TileIx) (h : HeadIx) (s : State),
    let u := s.tick t
    (∀ d : ShadowDue, (s.tile x).shadows.find? (fun d => d.head == h.val) = some d →
      Completes (.shadowWriteThrough t x h) s fun s' =>
        (s'.tile x).shadows = (s.tile x).shadows.erase d ∧ s'.mem = (d.writes.foldl (fun z w => z.ownWrite x w.1 w.2) u).mem ∧
        s'.ts = s.ts ∧ (s'.tile x).eng = (s.tile x).eng) ∧
    ((s.tile x).restore.contains h.val = true → (s.tile x).eng.zeroing = false →
      let ix := hIx x h
      let b := u.ownOff (u.rd F.KVS_SHADOW_SHADOW_BASE ix)
      let pool := u.kvPool x h
      let len := 64 + 16 * pool + 32 * u.rd F.KVS_TABLES_LT_CAP ix
      let hd := u.dram x b 64
      Completes (.kvShadowRestore t x h) s fun s' =>
        (s'.tile x).restore = (s.tile x).restore.filter (fun k => k != h.val) ∧ s'.mem = s.mem ∧ KeepsTiles x s s' ∧
        ((u.badRange (sliceBase x + b) len || fieldAt hd 8 8 != fieldAt hd 16 8) = true →
          Sets [(F.KVS_STATE_LOST, ix, 1), (F.SYS_CFG_LOST_KV, 0, 1), (F.ATT_PENDING_KV_LOST, 0, 1), (F.ATT_PENDING_CONFIG_LOST, 0, 1)] s s' ∧ s'.ts = s.ts) ∧
        ((u.badRange (sliceBase x + b) len || fieldAt hd 8 8 != fieldAt hd 16 8) = false →
          Sets [(F.KVS_STATE_FREE_HEAD, ix, fieldAt hd 24 4 % 2 ^ 20), (F.KVS_STATE_FREE_COUNT, ix, fieldAt hd 28 4 % 2 ^ F.KVS_STATE_FREE_COUNT.w)] s s' ∧
          s'.ts = ((u.tsWrite x (u.rd F.KVS_TABLES_PT_BASE ix) (u.dram x (b + 64) (16 * pool))).tsWrite x
            (u.rd F.KVS_TABLES_LT_BASE ix) (u.dram x (b + 64 + 16 * pool) (32 * u.rd F.KVS_TABLES_LT_CAP ix))).ts) ∧
        s' = { u with fv := s'.fv, ts := s'.ts, tiles := s'.tiles })

/-- A slice slot takes up its chunk run, and work that was latched starts in its unit with the shift it carries (R172, R173, R254). -/
def Obligations.SliceSlotStarts : Prop :=
  (∀ e ∈ sliceSlotCommands, ∀ (t : Nat) (x : TileIx) (s : State) (sl : Slot),
     (s.tile x).eng.slots.find? (fun l => l.kind == 4 && slOp l.word == e.1) = some sl →
     Completes (e.2 t x) s fun s' =>
       (s'.tile x).slice = (if slCount sl.word = 0 then (s.tile x).slice
         else { (s.tile x).slice with slot := some ⟨sl.k, sl.word, sl.cyc, 0, false, none⟩ }) ∧
       (s'.tile x).sliceEnd = (if slCount sl.word = 0 then (s.tile x).sliceEnd else sl.cyc + slCount sl.word) ∧
       (s'.tile x).eng = { (s.tile x).eng with slots := (s.tile x).eng.slots.erase sl } ∧ KeepsTiles x s s' ∧
       s' = { s.tick t with tiles := s'.tiles }) ∧
  (∀ (t : Nat) (x : TileIx) (unit : Nat) (s : State) (sl : Slot),
     let u := s.tick t
     Tab.find (s.tile x).eng.latch unit = some sl → u.unitFree x unit = true → u.gclk - sl.cyc ≤ u.slack →
     Completes (.latchedWorkStart t x unit) s fun s' =>
       (s'.tile x).eng.slots = (s.tile x).eng.slots ++ [sl] ∧ Tab.find (s'.tile x).eng.latch unit = none ∧
       Tab.get 0 (s'.tile x).eng.shift unit = u.gclk - sl.cyc ∧ KeepsTiles x s s' ∧ s' = { u with tiles := s'.tiles })

/-- READ, WRITE, FLUSH and INVAL act on one chunk: bytes between slice and tile store, a dirty line written back, lines dropped, and nothing else
(R172, R173, R186). -/
def Obligations.SliceSlotChunks : Prop :=
  ∀ (t : Nat) (x : TileIx) (s : State) (r : SliceRun),
    let u := s.tick t
    let ch := slChunk r.word r.next
    let a := slTs r.word r.next
    let rest := if r.next + 1 = slCount r.word then none else some { r with next := r.next + 1, held := none }
    (s.tile x).slice.slot = some r → r.held = none → r.origin + r.next ≤ u.gclk → u.gclk - (r.origin + r.next) ≤ u.slack →
    u.ownHeld x (ch * 512) 512 = false →
    (slOp r.word = 1 → slCached r.word = false → (s.tile x).slice.held ch = none → goodLines u x (ch * 512) 512 →
      Completes (.sliceSlotChunk t x []) s fun s' =>
        (s'.tile x).slice.deliver = (s.tile x).slice.deliver ++
          [⟨u.gclk + 96, ⟨.own r.k r.next a, .read, sliceBase x + ch * 512, 512, [], u.gclk, false, false, 0⟩, s.dram x (ch * 512) 512, false⟩] ∧
        (s'.tile x).slice.slot = rest ∧ s'.fv = s.fv ∧ KeepsTiles x s s' ∧ s' = { u with tiles := s'.tiles }) ∧
    (slOp r.word = 2 → slCached r.word = false → goodRows u x a 512 →
      Completes (.sliceSlotChunk t x []) s fun s' =>
        (∀ n < 512, s'.memByte (sliceBase x + ch * 512 + n) = s.tsByte x (a + n)) ∧
        (∀ n, (n < sliceBase x + ch * 512 ∨ sliceBase x + ch * 512 + 512 ≤ n) → s'.memByte n = s.memByte n) ∧ s'.ts = s.ts ∧
        (∀ l, ch * 8 ≤ l → l < ch * 8 + 8 → Tab.get 0 s'.badLines (lineKey x l) ≠ 1) ∧
        (s'.tile x).slice.slot = rest ∧ KeepsRegs [(F.SLC_FLIP_MASK_ARM, x.val)] s s' ∧ KeepsTiles x s s') ∧
    (slOp r.word = 3 → ∀ (i : Nat) (c : CLine), (s.tile x).slice.cacheFind ch = some i → Tab.find (s.tile x).slice.cache i = some c →
      c.dirty = true → c.bad = false → c.data.length = 512 → (∀ w ∈ (s.tile x).slice.wbuf, w.chunk ≠ ch) →
      Completes (.sliceSlotChunk t x []) s fun s' =>
        s'.dram x (ch * 512) 512 = c.data ∧ Tab.find (s'.tile x).slice.cache i = some { c with dirty := false } ∧
        (∀ n, (n < sliceBase x + ch * 512 ∨ sliceBase x + ch * 512 + 512 ≤ n) → s'.memByte n = s.memByte n) ∧
        (s'.tile x).slice.slot = rest ∧ s'.ts = s.ts ∧ KeepsTiles x s s') ∧
    (slOp r.word = 4 →
      Completes (.sliceSlotChunk t x []) s fun s' =>
        (∀ i, (s.tile x).slice.cacheFind ch = some i → Tab.find (s'.tile x).slice.cache i = none) ∧
        s'.pch = s.pch.filter (fun p => !(decide ((sliceBase x + ch * 512) / 128 ≤ p.line) && decide (p.line < (sliceBase x + ch * 512) / 128 + 4))) ∧
        (s'.tile x).slice.slot = rest ∧ s'.fv = s.fv ∧ KeepsTiles x s s' ∧ s' = { u with pch := s'.pch, tiles := s'.tiles })

/-- An inbound access that meets the tile's own access or a hold waits; otherwise a read gives its bytes 96 cycles later and a write is done at its
cycle (R167, R169, R170). -/
def Obligations.InboundAccesses : Prop :=
  ∀ (t : Nat) (x : TileIx) (i : Nat) (s : State) (a : Acc),
    let u := s.tick t
    (s.tile x).slice.inbound[i]? = some a →
    (u.gclk < a.due → Completes (.inboundAccess t x i []) s fun s' => s' = u) ∧
    (a.due ≤ u.gclk → (a.due = u.gclk ∨ ∀ y c, a.src ≠ .tile y c) → u.sliceShut x = false →
    ((u.ownCycle x || u.ownHeld x (a.dpa % 2 ^ 33) a.len) = true →
      Completes (.inboundAccess t x i []) s fun s' =>
        (s'.tile x).slice = { (s.tile x).slice with
          inbound := (s.tile x).slice.inbound.eraseIdx i, defer := (s.tile x).slice.defer ++ [{ a with due := u.gclk, late := true }] } ∧
        s'.fv = s.fv ∧ KeepsTiles x s s' ∧ s' = { u with tiles := s'.tiles }) ∧
    (∀ (off : Nat), u.ownCycle x = false → u.ownHeld x (a.dpa % 2 ^ 33) a.len = false →
      u.decodeDpa (a.src == .mirror) a.dpa = .slice x off →
      (a.kind = .read → (s.tile x).slice.held (off / 512) = none → goodLines u x off a.len →
        Completes (.inboundAccess t x i []) s fun s' =>
          (s'.tile x).slice = { (s.tile x).slice with
            inbound := (s.tile x).slice.inbound.eraseIdx i, deliver := (s.tile x).slice.deliver ++ [⟨u.gclk + 96 + u.wayBack a, a, s.dram x off a.len, false⟩] } ∧
          s'.fv = s.fv ∧ KeepsTiles x s s' ∧ s' = { u with tiles := s'.tiles }) ∧
      (∀ (q tag : Nat), a.kind = .write → a.src = .port q tag → goodLines u x off a.data.length →
        Completes (.inboundAccess t x i []) s fun s' =>
          (∀ n < a.data.length, s'.memByte (sliceBase x + off + n) = a.data.getD n 0) ∧
          (∀ n, (n < sliceBase x + off ∨ sliceBase x + off + a.data.length ≤ n) → s'.memByte n = s.memByte n) ∧ s'.ts = s.ts ∧
          (s'.tile x).slice.inbound = (s.tile x).slice.inbound.eraseIdx i ∧
          s'.answers = s.answers ++ [⟨.port q tag, a.job, 0, []⟩] ∧ KeepsRegs [(F.SLC_FLIP_MASK_ARM, x.val)] s s' ∧ KeepsTiles x s s')))

/-- Unscheduled requests queue by class, an open cycle serves the one that is next, and a read's data reach the tile store or the port that asked
(R167, R168, R169, R171, R173, R177). -/
def Obligations.OpenCycles : Prop :=
  ∀ (t : Nat) (x : TileIx) (s : State),
    let u := s.tick t
    (∀ a : Acc,
      Completes (.unscheduledRequest t x a) s fun s' =>
        (s'.tile x).slice = (if a.prio then { (s.tile x).slice with prio := (s.tile x).slice.prio ++ [{ a with due := u.gclk, late := false }] }
          else { (s.tile x).slice with norm := (s.tile x).slice.norm ++ [{ a with due := u.gclk, late := false }] }) ∧
        s'.fv = s.fv ∧ KeepsTiles x s s' ∧ s' = { u with tiles := s'.tiles }) ∧
    (∀ (a : Acc) (pr : Bool) (off q tag : Nat), u.refreshing x = false → u.ownCycle x = false → u.sliceShut x = false →
      (s.tile x).slice.defer = [] → (s.tile x).slice.pickRequest (fun b => !u.unitHeld x (b.dpa % 2 ^ 33) b.len) = some (a, pr) →
      a.kind = .write → a.src = .port q tag → u.decodeDpa false a.dpa = .slice x off → goodLines u x off a.data.length →
      Completes (.openCycleServe t x []) s fun s' =>
        (∀ n < a.data.length, s'.memByte (sliceBase x + off + n) = a.data.getD n 0) ∧
        (∀ n, (n < sliceBase x + off ∨ sliceBase x + off + a.data.length ≤ n) → s'.memByte n = s.memByte n) ∧ s'.ts = s.ts ∧
        (s'.tile x).slice.prio = (if pr then (s.tile x).slice.prio.erase a else (s.tile x).slice.prio) ∧
        (s'.tile x).slice.norm = (if pr then (s.tile x).slice.norm else (s.tile x).slice.norm.erase a) ∧
        s'.answers = s.answers ++ [⟨.port q tag, a.job, 0, []⟩] ∧ KeepsRegs [(F.SLC_FLIP_MASK_ARM, x.val)] s s' ∧ KeepsTiles x s s') ∧
    (∀ d : Deliver, (s.tile x).slice.deliver.find? (fun d => decide (d.due ≤ u.gclk)) = some d → d.bad = false →
      (∀ k chunk addr, d.acc.src = .own k chunk addr → goodRows u x addr d.data.length →
        Completes (.sliceReadDeliver t x) s fun s' =>
          (∀ n < d.data.length, s'.tsByte x (addr + n) = d.data.getD n 0) ∧
          (∀ y a, outside x addr d.data.length y a → s'.tsByte y a = s.tsByte y a) ∧
          (s'.tile x).slice.deliver = (s.tile x).slice.deliver.erase d ∧ s'.fv = s.fv ∧ s'.mem = s.mem ∧ KeepsTiles x s s' ∧
          s' = { u with ts := s'.ts, tiles := s'.tiles }) ∧
      (∀ q tag, d.acc.src = .port q tag → d.acc.late = false →
        Completes (.sliceReadDeliver t x) s fun s' =>
          s'.answers = s.answers ++ [⟨.port q tag, d.acc.job, 0, d.data⟩] ∧
          (s'.tile x).slice = { (s.tile x).slice with deliver := (s.tile x).slice.deliver.erase d } ∧ KeepsTiles x s s' ∧
          s' = { u with answers := s'.answers, tiles := s'.tiles }))

/-- A scrub takes its range, FLIP_MASK arms, a pier-cache invalidation drops its lines, and a refresh slot of the band is done or owed (R182, R183,
R190, R191, R200). -/
def Obligations.SliceMaintenance : Prop :=
  (∀ (t : Nat) (x : TileIx) (s : State),
     let u := s.tick t
     (∀ value : Word32, value.toNat.testBit 0 = true → s.rd F.SLC_SCRUB_CTL_RUNNING x = 0 →
       let base := s.rd F.SLC_SCRUB_RANGE_BASE_LINE x
       let n := s.rd F.SLC_SCRUB_RANGE_LINES x
       base + n ≤ 2 ^ 27 → 0 < n →
       Completes (.scrubStart t x value) s fun s' =>
         (s'.tile x).slice = { (s.tile x).slice with scrub := some ⟨base, base + n, value.toNat.testBit 1⟩ } ∧
         Sets ([(F.SLC_SCRUB_CTL_WRITEBACK, x.val, bitsAt value.toNat 5 1), (F.SLC_SCRUB_CTL_START, x.val, 1),
           (F.SLC_SCRUB_CTL_RUNNING, x.val, 1), (F.SLC_SCRUB_CTL_DONE, x.val, 0), (F.SLC_SCRUB_SUM_CORR, x.val, 0),
           (F.SLC_SCRUB_SUM_UNCORR, x.val, 0), (F.SLC_SCRUB_ADDR_FIRST, x.val, 0), (F.SLC_SCRUB_ADDR_LAST, x.val, 0),
           (F.SLC_SCRUB_EXT_CORR_COURSE0, x.val, 0), (F.SLC_SCRUB_EXT_CORR_COURSE1, x.val, 0),
           (F.SLC_SCRUB_EXT_CORR_COURSE2, x.val, 0), (F.SLC_SCRUB_EXT_CORR_COURSE3, x.val, 0)] ++
           (if value.toNat.testBit 4 then [(F.SLC_SCRUB_CTL_RANGE_ERR, x.val, 0)] else [])) s s' ∧
         KeepsTiles x s s' ∧ s' = { u with fv := s'.fv, tiles := s'.tiles }) ∧
     (∀ b : Scrub, (s.tile x).slice.scrub = some b →
       Completes (.scrubAbort t x) s fun s' =>
         (s'.tile x).slice = { (s.tile x).slice with scrub := some { b with abort := true } } ∧ KeepsTiles x s s' ∧
         s' = { u with tiles := s'.tiles }) ∧
     (∀ value : Word64, s.rd F.SLC_FLIP_MASK_ARM x = 0 → let v := value.toNat
       Completes (.flipMaskArm t x value) s fun s' =>
         Sets ([(F.SLC_FLIP_MASK_PATH, x.val, bitsAt v 1 2), (F.SLC_FLIP_MASK_DIE, x.val, bitsAt v 3 1), (F.SLC_FLIP_MASK_SYM_A, x.val, bitsAt v 8 5),
           (F.SLC_FLIP_MASK_EN_B, x.val, bitsAt v 13 1), (F.SLC_FLIP_MASK_SYM_B, x.val, bitsAt v 16 5),
           (F.SLC_FLIP_MASK_PATTERN, x.val, bitsAt v 32 16)] ++ (if v.testBit 0 then [(F.SLC_FLIP_MASK_ARM, x.val, 1)] else [])) s s' ∧
         s' = { u with fv := s'.fv }) ∧
     (∀ (p : PierIx) (value : Word64), s.rd F.PCH_INVAL_GO p = 0 → let v := value.toNat
       Completes (.pchInval t p value) s fun s' =>
         Sets ([(F.PCH_INVAL_ALL, p.val, bitsAt v 1 1), (F.PCH_INVAL_LINE, p.val, bitsAt v 4 30), (F.PCH_INVAL_COUNT, p.val, bitsAt v 34 30)] ++
           (if v.testBit 0 ∧ (v.testBit 1 ∨ bitsAt v 34 30 ≠ 0) then [(F.PCH_INVAL_GO, p.val, 1)] else [])) s s' ∧
         s' = { u with fv := s'.fv }) ∧
     (∀ p : PierIx, s.rd F.PCH_INVAL_GO p = 1 →
       Completes (.pchInvalDone t p) s fun s' =>
         s'.pch = s.pch.filter (fun l => !s.inInval p l) ∧ Sets [(F.PCH_INVAL_GO, p.val, 0)] s s' ∧
         s' = { u with fv := s'.fv, pch := s'.pch })) ∧
  (∀ (t : Nat) (x : TileIx) (s : State),
     let u := s.tick t
     let onBand (k : Nat) : Bool := ((u.beatNow : Int) - 4 * (u.homeField x : Nat)) % (1024 / 2 ^ k : Nat) == 0
     (s.tile x).slice.bandDue = none → onBand (u.rd F.SLC_STATUS_BAND x) = true →
     (onBand (u.rd F.SLC_STATUS_DECL_BAND x) = true →
       Completes (.refreshSlot t x) s fun s' =>
         (s'.tile x).slice = { (s.tile x).slice with refreshEnd := u.now + 128 } ∧ s'.fv = s.fv ∧ KeepsTiles x s s' ∧
         s' = { u with tiles := s'.tiles }) ∧
     (onBand (u.rd F.SLC_STATUS_DECL_BAND x) = false → s.beat.rest = false → (s.tile x).slice.owed < 7 →
       Completes (.refreshSlot t x) s fun s' =>
         (s'.tile x).slice = { (s.tile x).slice with owed := (s.tile x).slice.owed + 1 } ∧
         Sets [(F.SLC_STATUS_DEFICIT, x.val, (s.tile x).slice.owed + 1)] s s' ∧ KeepsTiles x s s' ∧
         s' = { u with fv := s'.fv, tiles := s'.tiles }))

/-- Each elementwise word gives its result element by element, with its flags, and the unit goes on at the next word (R206, R208, R209, R102). -/
def Obligations.UnitElementWords : Prop :=
  ∀ c ∈ unitElementCommands, ∀ (t : Nat) (x : TileIx) (u : UnitIx) (e : WordErr) (s : State) (w : Nat),
    let v := s.tick t
    let b := s.bku x u
    v.wordRun x u c.1 e = .run w →
    let n := if bwForm w = 1 then 16 else 32
    let r (i : Nat) := unitElement c.1 (bwForm w) (bwImm w) (streamElem (b.reg (bwA w)) n i) (streamElem (b.reg (bwB w)) n i)
      (streamElem (b.reg (bwDst w)) n i)
    Completes (c.2 t x u e) s fun s' =>
      s'.bku x u = { afterWord b w with w := Tab.put 0 b.w (bwDst w) (packStream n ((List.range (1024 / n)).map (fun i => (r i).1)) % 2 ^ 1024) } ∧
      (∀ m, m ≠ u.val → s'.bku x m = s.bku x m) ∧
      (∀ g ∈ numFlags, s'.rd g.2 (x.val * 4 + b.k) =
        if ((List.range (1024 / n)).any (fun i => (r i).2.testBit g.1)) then 1 else s.rd g.2 (x.val * 4 + b.k)) ∧
      KeepsRegs (numFlags.map (fun g => (g.2, x.val * 4 + b.k))) s s' ∧ KeepsTiles x s s' ∧ s' = { v with fv := s'.fv, tiles := s'.tiles }

/-- MOV, SET, SADD, LOOP, END and WAIT act on the unit's own registers and its word counter alone (R206, R213). -/
def Obligations.UnitControlWords : Prop :=
  ∀ (t : Nat) (x : TileIx) (u : UnitIx) (e : WordErr) (s : State) (w : Nat),
    let v := s.tick t
    let b := s.bku x u
    let only (c : Instr) (after : Bku) : Prop := Completes c s fun s' =>
      s'.bku x u = after ∧ (∀ m, m ≠ u.val → s'.bku x m = s.bku x m) ∧ KeepsTiles x s s' ∧ s' = { v with tiles := s'.tiles }
    (v.wordRun x u 0x0B e = .run w → only (.bkuMov t x u e) { afterWord b w with w := Tab.put 0 b.w (bwDst w) (b.reg (bwA w) % 2 ^ 1024) }) ∧
    (v.wordRun x u 0x18 e = .run w → only (.bkuSet t x u e) { afterWord b w with s := Tab.put 0 b.s (bwSreg w) (bwImm w % 2 ^ 32) }) ∧
    (v.wordRun x u 0x19 e = .run w →
      only (.bkuSadd t x u e) { afterWord b w with s := Tab.put 0 b.s (bwSreg w) ((b.sreg (bwSreg w) + bwImm w) % 2 ^ 32) }) ∧
    (v.wordRun x u 0x1A e = .run w →
      only (.bkuLoop t x u e) (if b.sreg (bwSreg w) = 0 then afterWord b w
        else { afterWord b w with s := Tab.put 0 b.s (bwSreg w) ((b.sreg (bwSreg w) - 1) % 2 ^ 32), pc := bitsAt (bwImm w) 0 10 })) ∧
    (v.wordRun x u 0x1B e = .run w → only (.bkuEnd t x u e) { afterWord b w with boundary := true, ended := true }) ∧
    (v.wordRun x u 0x1C e = .run w → only (.bkuWait t x u e) (afterWord b w))

/-- LD reads a block of the slice, ST writes one and leaves the caches alone, CVT converts a register (R206, R207, R208). -/
def Obligations.UnitMemoryWords : Prop :=
  ∀ (t : Nat) (x : TileIx) (u : UnitIx) (e : WordErr) (s : State) (w : Nat),
    let v := s.tick t
    let b := s.bku x u
    (∀ off : Nat, v.wordRun x u 0x01 e = .run w → v.bkuBlock x u w = some off → goodLines v x off 128 →
      Completes (.bkuLd t x u e []) s fun s' =>
        s'.bku x u = { afterWord b w with w := Tab.put 0 b.w (bwDst w) (leVal (s.dram x off 128) % 2 ^ 1024) } ∧
        (∀ m, m ≠ u.val → s'.bku x m = s.bku x m) ∧ KeepsTiles x s s' ∧ s' = { v with tiles := s'.tiles }) ∧
    (∀ off : Nat, v.wordRun x u 0x02 e = .run w → v.bkuBlock x u w = some off →
      Completes (.bkuSt t x u e) s fun s' =>
        (∀ n < 128, s'.memByte (sliceBase x + off + n) = (leBytes 128 (b.reg (bwA w))).getD n 0) ∧
        (∀ n, (n < sliceBase x + off ∨ sliceBase x + off + 128 ≤ n) → s'.memByte n = s.memByte n) ∧ s'.ts = s.ts ∧ s'.pch = s.pch ∧
        (s'.tile x).slice.cache = (s.tile x).slice.cache ∧ s'.bku x u = afterWord b w ∧ (∀ m, m ≠ u.val → s'.bku x m = s.bku x m) ∧
        KeepsRegs [(F.SLC_FLIP_MASK_ARM, x.val)] s s' ∧ KeepsTiles x s s') ∧
    (∀ (f g : Fmt) (width regs : Nat), v.wordRun x u 0x09 e = .run w → cvtPlan w = some (f, g, width, regs) →
      let r (i : Nat) : Nat × Flags :=
        let y := cvtElem f width (b.reg (bwA w)) (b.reg (bwB w)) (bitsAt (bwImm w) 16 8) i
        match fmtFloat g with
        | some ff => convFloat ff ((bwImm w).testBit 24) .rne y
        | none => convInt 32 .rne y
      let data := packStream (fmtBits g) ((List.range (1024 / width)).map (fun i => (r i).1))
      Completes (.bkuCvt t x u e) s fun s' =>
        (∀ i < regs, (s'.bku x u).reg (bwDst w + i) = bitsAt data (1024 * i) 1024) ∧
        (∀ q, (q < bwDst w ∨ bwDst w + regs ≤ q) → (s'.bku x u).reg q = b.reg q) ∧
        s'.bku x u = { afterWord b w with w := (s'.bku x u).w } ∧ (∀ m, m ≠ u.val → s'.bku x m = s.bku x m) ∧
        KeepsRegs (numFlags.map (fun g => (g.2, x.val * 4 + b.k))) s s' ∧ KeepsTiles x s s' ∧ s' = { v with fv := s'.fv, tiles := s'.tiles })

/-- CHOUT sends a value that arrives 8 cycles for each hop later, CHIN takes the one that has come, CHADD adds to it and sends it on (R203, R206). -/
def Obligations.UnitChainWords : Prop :=
  ∀ (t : Nat) (x : TileIx) (u : UnitIx) (e : WordErr) (s : State) (w : Nat),
    let v := s.tick t
    let b := s.bku x u
    let toward := s.successor x u
    (v.wordRun x u 0x10 e = .run w → (s.bku x toward.1).chain = none →
      Completes (.chout t x u e) s fun s' =>
        (s'.tile x).chain = (s.tile x).chain ++ [⟨toward.1, b.next + 8 * toward.2, b.reg (bwA w)⟩] ∧ s'.bku x u = afterWord b w ∧
        (∀ m, m ≠ u.val → s'.bku x m = s.bku x m) ∧ KeepsTiles x s s' ∧ s' = { v with tiles := s'.tiles }) ∧
    (∀ i : Nat, v.wordRun x u 0x11 e = .run w → b.chain = some i →
      Completes (.chin t x u e) s fun s' =>
        s'.bku x u = { afterWord b w with w := Tab.put 0 b.w (bwDst w) (i % 2 ^ 1024), chain := none } ∧
        (∀ m, m ≠ u.val → s'.bku x m = s.bku x m) ∧ KeepsTiles x s s' ∧ s' = { v with tiles := s'.tiles }) ∧
    (∀ i : Nat, v.wordRun x u 0x12 e = .run w → b.chain = some i → (s.bku x toward.1).chain = none →
      let n := if bwForm w = 1 then 16 else 32
      let sum := packStream n ((List.range (1024 / n)).map (fun j =>
        (unitElement 0x03 (bwForm w) 0 (streamElem (b.reg (bwA w)) n j) (streamElem i n j) 0).1))
      Completes (.chadd t x u e) s fun s' =>
        (s'.tile x).chain = (s.tile x).chain ++ [⟨toward.1, b.next + 8 * toward.2, sum⟩] ∧
        s'.bku x u = { afterWord b w with w := Tab.put 0 b.w (bwDst w) (sum % 2 ^ 1024), chain := none } ∧
        (∀ m, m ≠ u.val → s'.bku x m = s.bku x m) ∧
        KeepsRegs (numFlags.map (fun g => (g.2, x.val * 4 + b.k))) s s' ∧ KeepsTiles x s s' ∧ s' = { v with fv := s'.fv, tiles := s'.tiles }) ∧
    (∀ h : ChainHop, (s.tile x).chain.find? (fun h => h.toward == u.val && decide (h.due ≤ v.now)) = some h → b.chain = none →
      Completes (.chainArrive t x u) s fun s' =>
        (s'.tile x).chain = (s.tile x).chain.erase h ∧ s'.bku x u = { b with chain := some h.value } ∧
        (∀ m, m ≠ u.val → s'.bku x m = s.bku x m) ∧ KeepsTiles x s s' ∧ s' = { v with tiles := s'.tiles })

/-- A word that faults stops its unit and traps its thread with code 6; a segment boundary aborts, pauses or goes on; END leaves the unit idle with
its outputs in its command area (R206, R211, R213, R214, R215, R216). -/
def Obligations.UnitFaults : Prop :=
  (∀ (t : Nat) (x : TileIx) (u : UnitIx) (e : WordErr) (s : State) (cause : Nat),
     let v := s.tick t
     let b := s.bku x u
     v.wordRun x u 0x1C e = .fault cause → Untrapped v x b.k →
     Completes (.bkuWait t x u e) s fun s' =>
       (s'.bku x u).st = .faulted ∧ (s'.bku x u).word = b.pc ∧ (s'.rd F.BKU_READY_READY x).testBit u.val = true ∧
       (s'.rd F.BKU_FAULTED_FAULTED x).testBit u.val = true ∧
       s'.rd F.BKU_COUNT_FAULTS x = satAdd F.BKU_COUNT_FAULTS.w (s.rd F.BKU_COUNT_FAULTS x) 1 ∧
       TrapsWith v s' x b.k 6 (u.val + 256 * cause) false ∧ (∀ m, m ≠ u.val → s'.bku x m = s.bku x m) ∧
       s'.mem = s.mem ∧ s'.ts = s.ts ∧ KeepsTiles x s s' ∧ s' = { v with fv := s'.fv, tiles := s'.tiles }) ∧
  (∀ (t : Nat) (x : TileIx) (u : UnitIx) (s : State),
     let v := s.tick t
     let b := s.bku x u
     (b.st = .running → b.begun = true → b.boundary = true → b.pauseEnd = 0 → b.ended = false → b.next ≤ v.now →
       (b.abort = true →
         Completes (.segmentBoundary t x u) s fun s' =>
           (s'.bku x u).st = .idle ∧ (s'.bku x u).begun = false ∧ (s'.rd F.BKU_READY_READY x).testBit u.val = true ∧
           (∀ m, m ≠ u.val → s'.bku x m = s.bku x m) ∧ KeepsRegs [(F.BKU_READY_READY, x.val)] s s' ∧ KeepsTiles x s s' ∧
           s' = { v with fv := s'.fv, tiles := s'.tiles }) ∧
       (b.abort = false → s.frozen = false →
         let held := v.heldFor x u
         let refs := v.slotsBetween x b.segStart b.next
         let pause := (if held = 0 then 0 else 16) + 128 * (refs + b.owed)
         Completes (.segmentBoundary t x u) s fun s' =>
           (pause = 0 → s'.bku x u = { b with boundary := false, segStart := b.next, segLen := 0 }) ∧
           (pause ≠ 0 → s'.bku x u = { b with
             pauseEnd := b.next + pause, refPauses := b.refPauses + refs, holdPauses := b.holdPauses + (if held = 0 then 0 else 1), owed := 0 }) ∧
           Sets [(F.BKU_COUNT_HOLDS, x.val, satAdd F.BKU_COUNT_HOLDS.w (s.rd F.BKU_COUNT_HOLDS x) held),
             (F.BKU_COUNT_REFRESH_PAUSES, x.val, satAdd F.BKU_COUNT_REFRESH_PAUSES.w (s.rd F.BKU_COUNT_REFRESH_PAUSES x) refs),
             (F.SLC_COUNT_INTRUSIONS, x.val, satAdd F.SLC_COUNT_INTRUSIONS.w (s.rd F.SLC_COUNT_INTRUSIONS x) b.owed)] s s' ∧
           (∀ m, m ≠ u.val → s'.bku x m = s.bku x m) ∧ KeepsTiles x s s' ∧ s' = { v with fv := s'.fv, tiles := s'.tiles })) ∧
     (b.st = .running → b.boundary = true → b.pauseEnd ≠ 0 → b.pauseEnd ≤ v.now → v.heldFor x u = 0 →
       Completes (.bkuPauseEnd t x u) s fun s' =>
         s'.bku x u = { b with boundary := false, pauseEnd := 0, next := v.now, segStart := v.now, segLen := 0 } ∧
         (∀ m, m ≠ u.val → s'.bku x m = s.bku x m) ∧ KeepsTiles x s s' ∧ s' = { v with tiles := s'.tiles }) ∧
     (b.st = .running → b.ended = true → b.next + 4 ≤ v.now → b.area.length = 128 →
       Completes (.bkuIdle t x u) s fun s' =>
         (s'.bku x u).st = .idle ∧ (s'.bku x u).ended = false ∧ (s'.rd F.BKU_READY_READY x).testBit u.val = true ∧
         fieldAt (s'.bku x u).area 68 4 = fieldAt b.area 4 4 ∧ fieldAt (s'.bku x u).area 72 4 = min (b.next - b.first) 0xFFFFFFFF ∧
         fieldAt (s'.bku x u).area 80 4 = b.sreg 0 % 2 ^ 32 ∧ (∀ m, m ≠ u.val → s'.bku x m = s.bku x m) ∧
         KeepsRegs [(F.BKU_READY_READY, x.val)] s s' ∧ KeepsTiles x s s' ∧ s' = { v with fv := s'.fv, tiles := s'.tiles }))

/-- The bank slots name their units and their image, a SYNC on a busy unit traps, and the command area, the start and the program words reach the
units at their cycles (R211, R212). -/
def Obligations.BankSlots : Prop :=
  (∀ (t : Nat) (x : TileIx) (s : State),
     let v := s.tick t
     (∀ e ∈ [(1, Instr.bkuGo t x), (2, Instr.bkuProg t x)], ∀ sl : Slot,
       (s.tile x).eng.slots.find? (fun l => l.kind == 6 && bsOp l.word == e.1) = some sl → v.marginTile x = false →
       Completes e.2 s fun s' =>
         (s'.tile x).cmds = (s.tile x).cmds ++ [⟨e.1 == 1, sl.k, sl.cyc, bsFirst sl.word, bsLast sl.word, v.bankImage x sl.word, 0⟩] ∧
         (s'.tile x).eng = { (s.tile x).eng with slots := (s.tile x).eng.slots.erase sl } ∧ KeepsTiles x s s' ∧ s' = { v with tiles := s'.tiles }) ∧
     (∀ sl : Slot, (s.tile x).eng.slots.find? (fun l => l.kind == 6 && bsOp l.word == 3) = some sl →
       ((∀ u ∈ spanOf (bsFirst sl.word) (bsLast sl.word), (s.bku x u).st = .idle) →
         Completes (.bkuSync t x) s fun s' =>
           (s'.tile x).eng = { (s.tile x).eng with slots := (s.tile x).eng.slots.erase sl } ∧ KeepsTiles x s s' ∧ s' = { v with tiles := s'.tiles }) ∧
       (∀ u, (spanOf (bsFirst sl.word) (bsLast sl.word)).find? (fun u => (s.bku x u).st != .idle) = some u → Untrapped v x sl.k →
         Completes (.bkuSync t x) s fun s' => TrapsWith v s' x sl.k 6 (u + 256 * 5) false ∧ KeepsTiles x s s' ∧
           s' = { v with fv := s'.fv, tiles := s'.tiles })) ∧
     (∀ sl : Slot, (s.tile x).eng.slots.find? (fun l => l.kind == 6 && bsOp l.word == 4) = some sl →
       Completes (.bkuAbort t x) s fun s' =>
         (∀ u, s'.bku x u = if bsFirst sl.word ≤ u ∧ u ≤ bsLast sl.word ∧ (s.bku x u).st = .running then { s.bku x u with abort := true }
           else s.bku x u) ∧
         (s'.tile x).eng = { (s.tile x).eng with slots := (s.tile x).eng.slots.erase sl } ∧ KeepsTiles x s s' ∧ s' = { v with tiles := s'.tiles })) ∧
  (∀ (t : Nat) (x : TileIx) (s : State) (c : BkuCmd),
     let v := s.tick t
     (v.bankCmd x (fun c => c.go && c.stage == 0 && decide (c.origin + 16 ≤ v.gclk)) = some c → c.last < 64 →
       Completes (.bkuCommandAreaWrite t x) s fun s' =>
         (∀ u, c.first ≤ u → u ≤ c.last → (s'.bku x u).st = .running ∧ (s'.bku x u).begun = false ∧ (s'.bku x u).k = c.k ∧
           (s'.bku x u).pc = bitsAt (fieldAt c.image 0 2) 0 10 ∧ (∀ i < 8, (s'.bku x u).sreg i = fieldAt c.image (8 + 4 * i) 4) ∧
           (s'.bku x u).store = (s.bku x u).store ∧ (s'.rd F.BKU_READY_READY x).testBit u = false ∧
           (s'.rd F.BKU_FAULTED_FAULTED x).testBit u = false) ∧
         (∀ u, (u < c.first ∨ c.last < u) → s'.bku x u = s.bku x u ∧
           (s'.rd F.BKU_READY_READY x).testBit u = (s.rd F.BKU_READY_READY x).testBit u) ∧
         KeepsRegs [(F.BKU_READY_READY, x.val), (F.BKU_FAULTED_FAULTED, x.val)] s s' ∧ KeepsTiles x s s' ∧
         s' = { v with fv := s'.fv, tiles := s'.tiles }) ∧
     (v.bankCmd x (fun c => c.go && c.stage == 1 && decide (c.origin + 24 ≤ v.gclk)) = some c →
       Completes (.bkuSequenceBegin t x) s fun s' =>
         (∀ u, s'.bku x u = if c.first ≤ u ∧ u ≤ c.last then { s.bku x u with begun := true, next := v.now, first := v.now, segStart := v.now }
           else s.bku x u) ∧
         (s'.tile x).cmds = (s.tile x).cmds.erase c ∧ KeepsTiles x s s' ∧ s' = { v with tiles := s'.tiles }) ∧
     (v.bankCmd x (fun c => !c.go && decide (c.origin + 24 ≤ v.gclk)) = some c →
       let target := bitsAt (fieldAt c.image 0 2) 0 10
       let count := fieldAt c.image 2 1
       Completes (.progWordsWrite t x) s fun s' =>
         (∀ u, c.first ≤ u → u ≤ c.last → ∀ a, Tab.get 0 (s'.bku x u).store a =
           if target ≤ a ∧ a < target + count then fieldAt c.image (8 + 8 * (a - target)) 8 else Tab.get 0 (s.bku x u).store a) ∧
         (∀ u, (u < c.first ∨ c.last < u) → s'.bku x u = s.bku x u) ∧
         (s'.tile x).cmds = (s.tile x).cmds.erase c ∧ KeepsTiles x s s' ∧ s' = { v with tiles := s'.tiles }))

/-- OPEN and SEEK set their context; DRAW writes the draws of 256 groups two lanes to a draw, low word first, and moves the context on (R236). -/
def Obligations.RandomSlots : Prop :=
  ∀ (t : Nat) (x : TileIx) (s : State),
    let v := s.tick t
    let frame (s' : State) : Prop := KeepsTiles x s s' ∧ s' = { v with tiles := s'.tiles }
    (∀ sl : Slot, (s.tile x).eng.slots.find? (fun l => l.kind == 7 && rsOp l.word == 1) = some sl →
      let r := s.vreg x (rsVreg sl.word)
      Completes (.randomOpen t x) s fun s' =>
        s'.ctx x (rsCtx sl.word) = ⟨plgKey (r.getD 0 0) (r.getD 1 0) (r.getD 2 0) (if sl.word.testBit 12 then (s.tile x).facts.logical else r.getD 3 0),
          sl.word.testBit 13, sl.word.testBit 12, true, 0, true, sl.cyc + 32⟩ ∧
        (∀ n, n ≠ rsCtx sl.word → s'.ctx x n = s.ctx x n) ∧ (s'.tile x).eng.slots = (s.tile x).eng.slots.erase sl ∧ frame s') ∧
    (∀ sl : Slot, (s.tile x).eng.slots.find? (fun l => l.kind == 7 && rsOp l.word == 2) = some sl →
      let r := s.vreg x (rsVreg sl.word)
      Completes (.randomSeek t x) s fun s' =>
        s'.ctx x (rsCtx sl.word) = { s.ctx x (rsCtx sl.word) with
          e := r.getD 0 0 % 2 ^ 32 + 2 ^ 32 * (r.getD 1 0 % 2 ^ 32), busy := true, due := sl.cyc + 1024 } ∧
        (∀ n, n ≠ rsCtx sl.word → s'.ctx x n = s.ctx x n) ∧ (s'.tile x).eng.slots = (s.tile x).eng.slots.erase sl ∧ frame s') ∧
    (∀ sl : Slot, (s.tile x).eng.slots.find? (fun l => l.kind == 7 && rsOp l.word == 3) = some sl →
      let c := s.ctx x (rsCtx sl.word)
      let per := if c.k3 then 21 else 16
      Completes (.randomDraw t x) s fun s' =>
        s'.ctx x (rsCtx sl.word) = { c with e := (c.e / per + 256) * per % 2 ^ 64 } ∧
        (s'.tile x).draws = (s.tile x).draws ++ [⟨rsVreg sl.word, sl.cyc + 8,
          ((plgDraws 256 (plgSkip (plgKeymix s.seed c.key) (c.e / per))).map (fun d => [d % 2 ^ 32, d / 2 ^ 32])).flatten⟩] ∧
        (s'.tile x).drawFree = sl.cyc + 4 ∧ (s'.tile x).eng.slots = (s.tile x).eng.slots.erase sl ∧ frame s') ∧
    (∀ (k : ThreadIx), (s.ctx x k).busy = true → (s.ctx x k).due ≤ v.gclk → ∀ c ∈ [Instr.openReady t x k, Instr.seekReady t x k],
      Completes c s fun s' =>
        s'.ctx x k = { s.ctx x k with busy := false } ∧ (∀ n, n ≠ k.val → s'.ctx x n = s.ctx x n) ∧ (s'.tile x).eng = (s.tile x).eng ∧ frame s') ∧
    (∀ p : VecPend, (s.tile x).draws.find? (fun p => decide (p.due ≤ v.gclk)) = some p →
      Completes (.drawWrite t x) s fun s' =>
        s'.vreg x p.dst = p.lanes ∧ (∀ r, r ≠ p.dst → s'.vreg x r = s.vreg x r) ∧ (s'.tile x).draws = (s.tile x).draws.erase p ∧ frame s')

/-- At a frame boundary armed threads begin at their base and stopped ones end; while the domain is frozen only the count moves (R65, R71, R244,
R262, R264). -/
def Obligations.FrameBoundaries : Prop :=
  ∀ (t : Nat) (m : FrameMeas) (s : State),
    let v := s.tick t
    let k := v.frameNow
    v.now % 32 = 0 → v.beatNow % v.frameLen = 0 → s.beat.frame ≠ k + 1 →
    (s.frozen = true →
      Completes (.frameBoundary t m) s fun s' => s' = { v with beat := { s.beat with frame := k + 1 } }) ∧
    (s.frozen = false → s.imgA.loaded = false → s.imgB.loaded = false → s.imgA.startAt = none → s.imgB.startAt = none →
      s.imgA.stopAt = none → s.imgB.stopAt = none → s.imgA.resume = none → s.activeSlot = 0 → s.beat.pattern.2.1 = 0 →
      s.rd F.BEAT_SLICE_PENDING 0 = 0 → v.paired = false → s.twinState ≠ 8 → s.rd F.BEAT_STATUS_STATE 0 ≠ 3 →
      Completes (.frameBoundary t m) s fun s' =>
        s'.beat.frame = k + 1 ∧ s'.beat.rest = s.beat.restAt k ∧
        (∀ x < 104, ∀ n < v.threadCount x, v.started x n = true → v.running x n = false → (s.thread x n).stopReq = false →
          s'.running x n = true ∧ s'.started x n = true ∧ (s'.thread x n).pos = 0 ∧ (s'.thread x n).stack = []) ∧
        (∀ x < 104, ∀ n < v.threadCount x, (v.started x n || v.running x n) = true → (s.thread x n).stopReq = true →
          s'.running x n = false ∧ s'.started x n = false) ∧
        s'.mem = s.mem ∧ s'.ts = s.ts)

/-- A good epoch word keeps the count, a bad one starts holdover, two that agree give lock (log entry 83); holdover keeps the count and expires; a
mark that disagrees starts holdover (R246, R247, R249). -/
def Obligations.EpochWords : Prop :=
  (∀ (t : Nat) (w : BitVec 96) (s : State),
     let v := s.tick t
     s.rd F.BEAT_CFG_SRC 0 ≠ 1 → s.life.powered = true →
     (∀ b0 : Nat, s.rd F.BEAT_STATUS_STATE 0 = 1 → s.beat.via = none → epochValue w = some b0 → v.baseFor (b0 + 95) = s.beat.base →
       Completes (.epochWord t w) s fun s' => s' = { v with beat := { s.beat with epochPrev := some b0 } }) ∧
     (s.rd F.BEAT_STATUS_STATE 0 = 1 → s.beat.via = none → epochValue w = none →
       Completes (.epochWord t w) s fun s' =>
         Sets [(F.BEAT_STATUS_STATE, 0, 2), (F.ATT_PENDING_BEAT, 0, 1),
           (F.BEAT_STATUS_EPOCH_ERRS, 0, satAdd 8 (s.rd F.BEAT_STATUS_EPOCH_ERRS 0) 1)] s s' ∧
         s'.beat.base = s.beat.base ∧ s'.beat.holdFrom = v.beatNow ∧ s' = { v with fv := s'.fv, beat := s'.beat }) ∧
     (∀ b0 : Nat, s.rd F.BEAT_STATUS_STATE 0 = 0 → epochValue w = some b0 → 65536 ≤ b0 → s.beat.epochPrev = some (b0 - 65536) →
       Completes (.epochWord t w) s fun s' =>
         Sets [(F.BEAT_STATUS_STATE, 0, 1)] s s' ∧ s'.beatNow = (b0 + 95) % 2 ^ 64 ∧ s'.beat.via = none ∧
         s' = { v with fv := s'.fv, beat := s'.beat })) ∧
  (∀ (t : Nat) (s : State),
     let v := s.tick t
     (s.rd F.BEAT_STATUS_STATE 0 = 1 →
       Completes (.holdoverEnter t) s fun s' =>
         Sets [(F.BEAT_STATUS_STATE, 0, 2), (F.ATT_PENDING_BEAT, 0, 1)] s s' ∧ s'.beat.base = s.beat.base ∧ s'.beat.holdFrom = v.beatNow ∧
         s' = { v with fv := s'.fv, beat := s'.beat }) ∧
     (s.rd F.BEAT_STATUS_STATE 0 = 2 → s.beat.holdFrom + 131072 ≤ v.beatNow →
       Completes (.holdoverExpire t) s fun s' =>
         s'.rd F.BEAT_STATUS_STATE 0 = 3 ∧ s'.rd F.BEAT_STATUS_EXPIRED 0 = 1 ∧ s'.rd F.ATT_PENDING_BEAT 0 = 1) ∧
     (∀ (q : PortIx) (f : BitVec 8), v.markPort = some q.val → v.portUp q = true → s.rd F.BEAT_STATUS_STATE 0 = 1 → f.toNat / 128 % 2 = 1 →
       (if (f.toNat % 64 + (10 + 4 * v.portClass q)) % 64 = v.beatNow % 64 then
         Completes (.beatMark t q f) s fun s' => s' = v
       else
         Completes (.beatMark t q f) s fun s' =>
           Sets [(F.BEAT_STATUS_STATE, 0, 2), (F.ATT_PENDING_BEAT, 0, 1)] s s' ∧ s' = { v with fv := s'.fv, beat := s'.beat })))

/-- A message that is new is passed on and acts: rests, holds, resumes, freezes and their ends; the module's own requests are issued for their
target frame (R261, R263, R265, R277). -/
def Obligations.DomainMessages : Prop :=
  (∀ (t : Nat) (q : PortIx) (issuer : Fin 512) (value : BitVec 15) (s : State),
     let v := s.tick t
     let frame := nearValue v.frameNow value.toNat
     let beat := nearValue v.beatNow value.toNat
     let new (type n : Nat) : Prop := s.beat.seen.contains ⟨type, issuer.val, n⟩ = false
     let heard (c : Instr) (type n : Nat) (p : State → Prop) : Prop := Completes c s fun s' =>
       s'.beat.seen = ⟨type, issuer.val, n⟩ :: s.beat.seen ∧ s'.beat.send = s.beat.send ++ [⟨type, issuer.val, n⟩] ∧ p s' ∧
       s' = { v with beat := s'.beat }
     (new 0 frame → v.frameNow < frame → heard (.msgRest t (some q) issuer value) 0 frame fun s' =>
       s'.beat.rests.contains frame = true ∧ (∀ f, f ≠ frame → s'.beat.restAt f = s.beat.restAt f)) ∧
     (new 1 frame → v.frameNow < frame → (∀ h ∈ s.beat.holders, h.1 ≠ issuer.val) → (∀ r ∈ s.beat.resumes, r.1 ≠ issuer.val) →
       heard (.msgHold t (some q) issuer value) 1 frame fun s' =>
         s'.beat.holders = (issuer.val, frame) :: s.beat.holders ∧ (∀ f, frame ≤ f → s'.beat.heldAt f = true)) ∧
     (new 2 frame → v.frameNow < frame → heard (.msgResume t (some q) issuer value) 2 frame fun s' =>
       s'.beat.resumes = (issuer.val, frame) :: s.beat.resumes ∧ s'.beat.holders = s.beat.holders) ∧
     (new 3 beat → v.beatNow < beat → s.beat.clampers = [] → s.beat.resumeBeat = none → s.beat.freezeBeat = none → s.frozen = false →
       heard (.msgClamp t (some q) issuer value) 3 beat fun s' =>
         s'.beat.clampers = [issuer.val] ∧ s'.beat.freezeBeat = some beat) ∧
     (new 4 beat → s.beat.clampers = [issuer.val] → s.frozen = true → v.beatNow < v.resumeOf s.beat.lastFreeze beat →
       heard (.msgUnclamp t (some q) issuer value) 4 beat fun s' =>
         s'.beat.clampers = [] ∧ s'.beat.resumeBeat = some (v.resumeOf s.beat.lastFreeze beat))) ∧
  (∀ (t : Nat) (issuer : Fin 512) (value : BitVec 15) (s : State),
     let v := s.tick t
     let target := v.targetFrame
     let me := s.selfIndex
     (∀ c ∈ [Instr.reqRest t, Instr.msgRest t none issuer value], Completes c s fun s' =>
       s'.beat.send = s.beat.send ++ [⟨0, me, target⟩] ∧ s'.beat.restAt target = true ∧ s' = { v with beat := s'.beat }) ∧
     (s.ownHold = false → ∀ c ∈ [Instr.reqHold t, Instr.msgHold t none issuer value], Completes c s fun s' =>
       s'.beat.send = s.beat.send ++ [⟨1, me, target⟩] ∧ s'.ownHold = true ∧ s' = { v with beat := s'.beat }) ∧
     (s.ownHold = true → ∀ c ∈ [Instr.reqResume t, Instr.msgResume t none issuer value], Completes c s fun s' =>
       s'.beat.send = s.beat.send ++ [⟨2, me, target⟩] ∧ s'.beat.resumes = (me, target) :: s.beat.resumes ∧ s' = { v with beat := s'.beat }) ∧
     (s.beat.clampers.contains me = false → Completes (.msgClamp t none issuer value) s fun s' =>
       s'.beat.send = s.beat.send ++ [⟨3, me, v.beatNow + s.propagation⟩] ∧ s'.beat.clampers.contains me = true ∧ s' = { v with beat := s'.beat }) ∧
     (s.beat.clampers.contains me = true → Completes (.msgUnclamp t none issuer value) s fun s' =>
       s'.beat.send = s.beat.send ++ [⟨4, me, v.beatNow⟩] ∧ s'.beat.clampers.contains me = false ∧ s' = { v with beat := s'.beat }))

/-- A freeze begins and ends at its beat with what it counts and lifts, and the ramp target moves at its boundary as far as its step (R264, R265,
R270). -/
def Obligations.DomainFreezes : Prop :=
  ∀ (t : Nat) (s : State),
    let v := s.tick t
    (∀ f : Nat, s.beat.freezeBeat = some f → f ≤ v.beatNow → s.frozen = false → s.power.own = true →
      Completes (.domainFreezeBegin t) s fun s' =>
        s'.beat.freezeFrom = some v.now ∧ s'.beat.freezeBeat = none ∧ s'.beat.lastFreeze = f ∧ s'.power.clampFrom = some f ∧
        Sets [(F.BEAT_HOLD_FROZEN, 0, 1), (F.BEAT_FRAME_FREEZES, 0, satAdd 16 (s.rd F.BEAT_FRAME_FREEZES 0) 1)] s s' ∧
        s' = { v with fv := s'.fv, beat := s'.beat, power := s'.power }) ∧
    (∀ r c : Nat, s.beat.resumeBeat = some r → r ≤ v.beatNow → s.beat.freezeFrom = some c → s.power.localFrom = none →
      s.life.pendingResets = [] →
      Completes (.domainFreezeEnd t) s fun s' =>
        s'.beat.freezeFrom = none ∧ s'.beat.gated = s.beat.gated + (v.now - c) ∧ s'.beat.resumeBeat = none ∧
        s'.rd F.BEAT_HOLD_FROZEN 0 = 0 ∧ s'.rd F.THM_STATUS_CLAMPED 0 = 0 ∧ s'.power.own = false ∧
        (∀ p < 8, s'.rd F.THM_PIER_CAP p = if s.power.callers.testBit p then s.rd F.THM_PIER_CAP p / 2 else s.rd F.THM_PIER_CAP p)) ∧
    (s.rd F.BEAT_RAMP_ENABLE 0 = 1 → v.beatNow % 2 ^ s.rd F.BEAT_RAMP_PERIOD_LOG2 0 = 0 → v.now % 32 = 0 → s.rd F.THM_STATUS_CLAMPED 0 ≠ 1 →
      let need := (v.rampNeed (v.framesAhead 257 v.frameNow (s.img s.activeSlot).sched)).1
      Completes (.rampBoundary t) s fun s' =>
        s'.rd F.BEAT_RAMP_TARGET 0 =
          min (min need ((s.rd F.BEAT_RAMP_TARGET 0 + s.rd F.BEAT_RAMP_STEP 0 : Nat) : Int)).toNat (min v.allowed v.capSum) % 2 ^ 12 ∧
        s'.mem = s.mem ∧ s'.ts = s.ts ∧ s'.tiles = s.tiles)

/-- A slot sends what its map entry owes: a let slot the cell that was lost, a channel slot its header or its data, a read slot its request, a
reply slot its reply, and idle otherwise (R253, R310, R311, R312, R316, R317, R318). -/
def Obligations.CellSlots : Prop :=
  ∀ (t : Nat) (q : PortIx) (n : Nat) (s : State),
    let v := s.tick t
    let ix := slotIndex v.frameLen (v.portX4 q) n
    let e := v.mapEntry q 0 n
    let told := if ix % 3 = 0 then (v.blockMsgs q).map (Out.message q) else []
    let sends (c : Out) (s' : State) : Prop := s'.out = s.out ++ told ++ [c] ∧ (s'.port q).next = n + 1 ∧ KeepsPorts q s s'
    v.portUp q = true → v.frozen = false → slotAt v.frameLen (v.portX4 q) v.lclk = some n → (s.port q).next ≤ n →
    (ix % 16 = 15 → (s.port q).naks = [] →
      Completes (.cellSlotSend t q) s fun s' =>
        sends (.cell q n 0 0 false (v.statusField 0) (cellPad [])) s' ∧
        s' = { v with out := s'.out, ports := s'.ports, beat := { s.beat with send := s'.beat.send } }) ∧
    (ix % 16 = 15 → ∀ (m : Nat) (c : SentCell), (s.port q).naks = [m] → (s.port q).resent = [] → v.letOf q m = n →
      (s.port q).sent.find? (fun g => g.slot == m) = some c →
      Completes (.cellSlotSend t q) s fun s' =>
        sends (.cell q n 2 (slotIndex v.frameLen (v.portX4 q) m % 16) c.rcpt c.status c.payload) s' ∧
        Sets [(F.LNK_CELLS_RESENDS, q.val, satAdd 16 (s.rd F.LNK_CELLS_RESENDS q) 1)] s s' ∧
        s' = { v with fv := s'.fv, out := s'.out, ports := s'.ports, beat := { s.beat with send := s'.beat.send } }) ∧
    (ix % 16 ≠ 15 → v.marginPort q = false → mapUse e = 0 → (s.port q).mirror = [] → (s.port q).unsched = [] →
      ((s.port q).owed = [] →
        Completes (.cellSlotSend t q) s fun s' => sends (.cell q n 0 0 false (v.statusField 0) (cellPad [])) s') ∧
      (∀ tag code r, (s.port q).owed = (tag, some code) :: r →
        Completes (.cellSlotSend t q) s fun s' =>
          sends (.cell q n 0 0 true (v.statusField code) (cellPad [])) s' ∧ (s'.port q).owed.length = r.length)) ∧
    (∀ (x : Nat) (r : RemoteChunk), ix % 16 ≠ 15 → v.marginPort q = false → v.entryTile e = some x → (s.port q).owed = [] →
      (mapUse e = 1 →
        s.remote.find? (fun g => g.x == x && g.c == mapChan e && decide (g.kind < 2) && v.modulePort g.module == some q.val && g.atPort v.gclk) = some r →
        (r.first = true →
          Completes (.cellSlotSend t q) s fun s' =>
            sends (.cell q n 1 0 false (v.statusField 0) (cellPad (v.streamHeader (leVal r.header)))) s' ∧
            s'.remote = s.remote.map (fun w => if w = r then { r with first := false } else w)) ∧
        (r.first = false → r.data.length ≤ 256 → (s.port q).queue.length < 256 →
          Completes (.cellSlotSend t q) s fun s' =>
            sends (.cell q n 1 0 false (v.statusField 0) (cellPad (r.data.take 256))) s' ∧
            s'.remote = s.remote.filter (fun w => w != r) ∧ (s'.port q).queue = (s.port q).queue ++ [(x, mapChan e)])) ∧
      (mapUse e = 2 →
        s.remote.find? (fun g => g.x == x && g.c == mapChan e && g.kind == 2 && v.modulePort g.module == some q.val && g.atPort v.gclk) = some r → r.len ≤ 256 →
        Completes (.cellSlotSend t q) s fun s' =>
          sends (.cell q n 1 0 false (v.statusField 0) (cellPad (v.requestRecord r.len r.addr))) s' ∧
          (s'.port q).asked = (s.port q).asked ++ [⟨v.replySlot q n, x, mapChan e, r.job, r.len, true⟩])) ∧
    (∀ r : ReplyDue, ix % 16 ≠ 15 → v.marginPort q = false → mapUse e = 3 → (s.port q).replies.find? (fun g => g.slot == n) = some r →
      Completes (.cellSlotSend t q) s fun s' =>
        sends (.cell q n 1 0 false r.status (cellPad r.data)) s' ∧
        (s'.port q).replies = (s.port q).replies.filter (fun g => g.slot != n))

/-- A received cell is held until its release; one that fails is counted and lost; a channel cell begins its stream; receipts come back in order
(R256, R257, R311, R314, R318). -/
def Obligations.CellsReceived : Prop :=
  ∀ (t : Nat) (q : PortIx) (s : State),
    let v := s.tick t
    let drop (n : Nat) : List HeldCell := (s.port q).held.filter (fun g => g.slot != n)
    (∀ (n : Nat) (c : Cell), v.portUp q = true → c.kind ≠ 2 → c.fec = 0 → c.crc = true → c.tag = true →
      (c.kind = 1 → mapUse (v.mapEntry q 1 n) ≠ 2) → (∀ g ∈ (s.port q).held, g.slot ≠ n) →
      Completes (.cellReceive t q n c) s fun s' =>
        (s'.port q).held = (s.port q).held ++ [⟨n, true, true, c.kind.val, c.rcpt, c.status.toNat, c.payload⟩] ∧ KeepsPorts q s s' ∧
        s' = { v with ports := s'.ports }) ∧
    (∀ (n : Nat) (c : Cell), v.portUp q = true → c.kind ≠ 2 → c.fec = 0 → c.crc = false → (∀ g ∈ (s.port q).held, g.slot ≠ n) →
      Completes (.cellReceive t q n c) s fun s' =>
        (s'.port q).held = (s.port q).held ++ [⟨n, false, false, c.kind.val, c.rcpt, c.status.toNat, c.payload⟩] ∧
        Sets [(F.LNK_ERR_CRC_FAIL, q.val, satAdd 16 (s.rd F.LNK_ERR_CRC_FAIL q) 1)] s s' ∧ KeepsPorts q s s' ∧
        s' = { v with fv := s'.fv, ports := s'.ports }) ∧
    (∀ h : HeldCell, v.frozen = false → s.answers = [] → v.dueCell q = some h → slotIndex v.frameLen (v.portX4 q) h.slot % 16 ≠ 15 →
      let e := v.mapEntry q 1 h.slot
      (h.ok = false → v.marginPort q = false →
        Completes (.cellRelease t q) s fun s' =>
          s'.rd F.LNK_CELLS_LOST q = satAdd 16 (s.rd F.LNK_CELLS_LOST q) 1 ∧ s'.rd F.ATT_PENDING_CELL_LOST 0 = 1 ∧
          (s'.port q).held = drop h.slot ∧ s'.mem = s.mem ∧ s'.ts = s.ts) ∧
      (h.ok = true → h.kind = 0 → mapUse e ≠ 3 →
        Completes (.cellRelease t q) s fun s' => (s'.port q).held = drop h.slot ∧ KeepsPorts q s s' ∧ s' = { v with ports := s'.ports }) ∧
      (h.ok = true → h.kind = 1 → mapUse e = 1 → (∀ g ∈ (s.port q).streams, g.key ≠ 16 * mapTile e + mapChan e) →
        xdTotal (streamDesc (h.payload.take 32)) ≠ 0 →
        Completes (.cellRelease t q) s fun s' =>
          (s'.port q).streams = (s.port q).streams ++ [⟨16 * mapTile e + mapChan e, h.payload.take 32,
            streamBad (h.payload.take 32) || (h.payload.drop 32).any (fun b => b != 0), 0, []⟩] ∧
          (s'.port q).held = drop h.slot ∧ KeepsPorts q s s' ∧ s' = { v with ports := s'.ports })) ∧
    (∀ (n : Nat) (c : SentCell), c ∈ (s.port q).sent → c.slot = n → (s.port q).naks = [] →
      Completes (.cellNak t q [n]) s fun s' => (s'.port q).naks = [n] ∧ KeepsPorts q s s' ∧ s' = { v with ports := s'.ports }) ∧
    (∀ (x c : Nat) (r : List (Nat × Nat)) (status : BitVec 16), (s.port q).queue = (x, c) :: r → status.toNat % 4096 ≠ 0 →
      Completes (.cellReceipt t q status) s fun s' =>
        (s'.port q).queue = r ∧ s'.rd F.LNK_CELLS_RCPT_FAIL q = satAdd 16 (s.rd F.LNK_CELLS_RCPT_FAIL q) 1 ∧ KeepsPorts q s s')

/-- A partner starts training; a good attempt puts the port in service with its class; three failures leave it DOWN; loss of lock, a dropped
session and RETRAIN train it afresh (R311, R322, R323, R328, R446). -/
def Obligations.PortTraining : Prop :=
  ∀ (t : Nat) (q : PortIx) (s : State),
    let v := s.tick t
    let retrained (s' : State) : Prop :=
      s'.rd F.LNK_STATUS_STATE q = 0 ∧ s'.rd F.LNK_STATUS_SESSION q = 0 ∧ s'.rd F.LNK_STATUS_TRAINING q = 1 ∧ s'.rd F.LNK_STATUS_ATTEMPTS q = 0 ∧
      (s'.port q).held = [] ∧ (s'.port q).sent = [] ∧ (s'.port q).streams = [] ∧ s'.mem = s.mem ∧ s'.ts = s.ts
    (s.rd F.LNK_STATUS_STATE q = 3 → s.rd F.LNK_STATUS_TRAINING q = 0 → s.rd F.SYS_POWER_STATE 0 ≠ 3 → s.rd F.LNK_CTL_DISABLE q = 0 →
      s.life.powered = true →
      Completes (.partnerDetect t q) s fun s' =>
        Sets [(F.LNK_STATUS_TRAINING, q.val, 1), (F.LNK_STATUS_ATTEMPTS, q.val, 0), (F.LNK_STATUS_SESSION, q.val, 0)] s s' ∧ KeepsPorts q s s' ∧
        s'.mem = s.mem ∧ s'.ts = s.ts) ∧
    (∀ r : TrainResult, s.rd F.LNK_STATUS_TRAINING q = 1 → s.rd F.LNK_CTL_DISABLE q = 0 → r.signal = true → r.lanes = 15 → r.spare = false →
      r.session = true → s.rd F.QUO_STATUS_OWNED 0 ≠ 0 → s.rd F.QUO_STATUS_TRNG_OK 0 ≠ 0 → r.lambda ≤ 2208 →
      v.twinRec = none →
      Completes (.trainingAttemptEnd t q r) s fun s' =>
        s'.rd F.LNK_STATUS_STATE q = 1 ∧ s'.rd F.LNK_STATUS_LAT_CLASS q = ceilDiv (r.lambda - 288) 128 ∧
        s'.rd F.LNK_STATUS_LAMBDA q = r.lambda ∧ s'.rd F.LNK_STATUS_SESSION q = 1 ∧
        s'.rd F.LNK_STATUS_DOWN_REASON q = 0 ∧ s'.rd F.LNK_STATUS_TRAINING q = 0 ∧ s'.rd F.LNK_CTL_RETRAIN q = 0 ∧
        (s'.port q).partner = r.partner.toNat ∧
        s'.quoin.meas = s.quoin.meas.set 11
          (Config.sm3 (digestBytes (s.quoin.meas.getD 11 0) ++ digestBytes (Config.sm3 (leBytes 8 r.partner.toNat ++ leBytes 1 q))))) ∧
    (∀ r : TrainResult, s.rd F.LNK_STATUS_TRAINING q = 1 → s.rd F.LNK_CTL_DISABLE q = 0 → r.signal = true → r.lanes = 0 → r.spare = false →
      r.ber = false → s.rd F.LNK_STATUS_ATTEMPTS q = 2 → v.mirrorPorts.contains q.val = false →
      Completes (.trainingAttemptEnd t q r) s fun s' =>
        s'.rd F.LNK_STATUS_STATE q = 0 ∧ s'.rd F.LNK_STATUS_DOWN_REASON q = 1 ∧ s'.rd F.LNK_STATUS_TRAINING q = 0 ∧
        s'.rd F.LNK_STATUS_ATTEMPTS q = 3) ∧
    (v.portUp q = true →
      (16 ≤ (s.port q).crcRun → Completes (.portLockLoss t q) s fun s' =>
        retrained s' ∧ s'.rd F.LNK_STATUS_DOWN_REASON q = 5 ∧ s'.rd F.ATT_PENDING_PORT_DOWN 0 = 1) ∧
      (8 ≤ (s.port q).tagFails → Completes (.sessionDrop t q) s fun s' =>
        retrained s' ∧ s'.rd F.LNK_STATUS_DOWN_REASON q = 4 ∧ s'.rd F.ATT_PENDING_PORT_DOWN 0 = 1) ∧
      (s.rd F.LNK_CTL_RETRAIN q = 0 → s.rd F.LNK_CTL_DISABLE q = 0 → Completes (.linkRetrain t q) s fun s' =>
        retrained s' ∧ s'.rd F.LNK_CTL_RETRAIN q = 1) ∧
      Completes (.portDisable t q) s fun s' =>
        s'.rd F.LNK_STATUS_STATE q = 0 ∧ s'.rd F.LNK_STATUS_DOWN_REASON q = 6 ∧ s'.rd F.LNK_CTL_DISABLE q = 1 ∧
        s'.rd F.LNK_STATUS_TRAINING q = 0 ∧ s'.rd F.ATT_PENDING_PORT_DOWN 0 = 1 ∧ (s'.port q).held = [] ∧ s'.mem = s.mem ∧ s'.ts = s.ts)

/-- A retrain begins, three tries settle the width, disagreement falls back, and errors switch the bridge to its fall-back path (R325, R326, R327,
R329). -/
def Obligations.BridgeHandshakes : Prop :=
  ∀ (t : Nat) (b : BridgeIx) (s : State),
    let v := s.tick t
    let tries (low high govLow govHigh : BridgeWidth) : Instr := .bridgeHandshakeTry t b low high govLow govHigh
    (s.rd F.BRG_CTL_RETRAIN b = 0 →
      Completes (.bridgeRetrain t b) s fun s' =>
        Sets [(F.BRG_CTL_RETRAIN, b.val, 1), (F.BRG_STATUS_RETRAINING, b.val, 1), (F.BRG_STATUS_TRIES, b.val, 0)] s s' ∧
        s' = { v with fv := s'.fv, life := { s.life with brgWidths := s'.life.brgWidths } }) ∧
    (s.rd F.BRG_STATUS_RETRAINING b = 1 → Tab.get 0 s.life.brgWidths b < 16 → (s.img s.activeSlot).loaded = false →
      (Completes (tries .main .main .main .main) s fun s' =>
        Sets [(F.BRG_STATUS_TRIES, b.val, (s.rd F.BRG_STATUS_TRIES b + 1) % 2 ^ F.BRG_STATUS_TRIES.w), (F.BRG_STATUS_WIDTH, b.val, 2)] s s' ∧
        s'.fpPend = s.fpPend ++ [⟨4, b.val, 0, 0, v.now⟩]) ∧
      (s.rd F.BRG_STATUS_TRIES b = 2 → Completes (tries .main .serial .main .serial) s fun s' =>
        Sets [(F.BRG_STATUS_TRIES, b.val, 3), (F.BRG_STATUS_DISAGREE, b.val, 1), (F.BRG_STATUS_WIDTH, b.val, 1), (F.ATT_PENDING_BRIDGE, 0, 1)] s s') ∧
      (s.rd F.BRG_STATUS_TRIES b = 2 → Completes (tries .down .main .down .serial) s fun s' =>
        Sets [(F.BRG_STATUS_TRIES, b.val, 3), (F.BRG_STATUS_DISAGREE, b.val, 1), (F.BRG_STATUS_WIDTH, b.val, 0), (F.ATT_PENDING_BRIDGE, 0, 1)] s s')) ∧
    (∀ w : BridgeWires, s.rd F.BRG_STATUS_RETRAINING b = 1 → 16 ≤ Tab.get 0 s.life.brgWidths b → w.up = [] → w.down = [] →
      Completes (.bridgeRetrainDone t b w) s fun s' =>
        Sets [(F.BRG_STATUS_RETRAINING, b.val, 0), (F.BRG_CTL_RETRAIN, b.val, 0), (F.BRG_STATUS_FINE, b.val, bitsAt (v.commonCaps b) 1 1)] s s' ∧
        s' = { v with fv := s'.fv, fpPend := s.fpPend ++ [⟨4, b.val, 0, 0, v.now⟩] }) ∧
    (∀ up : Bool, s.rd F.BRG_STATUS_WIDTH b = 2 → s.rd F.BRG_STATUS_RETRAINING b = 0 → (s.img s.activeSlot).loaded = false →
      let e := if up then F.BRG_ERR_PARITY_UP else F.BRG_ERR_PARITY_DOWN
      Completes (.bridgeFallback t b up) s fun s' =>
        Sets [(e, b.val, satAdd 16 (s.rd e b) 4), (F.BRG_ERR_SWITCHES, b.val, satAdd 16 (s.rd F.BRG_ERR_SWITCHES b) 1),
          (F.BRG_STATUS_WIDTH, b.val, 1), (F.ATT_PENDING_BRIDGE, 0, 1)] s s' ∧ s'.fpPend = s.fpPend ++ [⟨4, b.val, 0, 0, v.now⟩] ∧
        s' = { v with fv := s'.fv, fpPend := s'.fpPend, life := { s.life with brgWidths := s'.life.brgWidths } })

/-- A write acts on each field by its access code and leaves every other field alone, one that is ignored is recorded (log entry 70), and the floor
plan takes the changes that wait (R6, R8, R9, R10, R11, R24). -/
def Obligations.RegisterWrites : Prop :=
  (∀ (t : Nat) (view : View) (off : Nat) (wide : Bool) (value : Word64) (s : State),
     let v := s.tick t
     let c : Instr := .registerWrite t view off wide value
     let n := if wide then 8 else 4
     let recorded (s' : State) : Prop :=
       (Tab.get ScbRec.empty s'.scb.recs 1).count = satAdd 32 (Tab.get ScbRec.empty s.scb.recs 1).count 1 ∧ Sets [] s s' ∧
       s' = { v with fv := s'.fv, scb := s'.scb }
     s.rd F.SCB_STATUS_FROZEN 0 = 0 →
     (hitsOf view off n = [] → view = .control → (off < 0xA00000 ∨ 0xAD0000 ≤ off) → Completes c s recorded) ∧
     (hitsOf view off n = [] → view = .job → Completes c s fun s' => s' = v) ∧
     (∀ h : Hit, hitsOf view off n = [h] →
       let w := bitsFor h n value.toNat
       ((badCommand h w = true ∨ v.ignores h w = true) → Completes c s recorded) ∧
       (badCommand h w = false → v.ignores h w = false → h.reg.id ∉ sideEffects →
         Completes c s fun s' =>
           (∀ f ∈ fieldsOf h.reg, f ∉ ownRow → w.hits f = true →
             (f.acc = .rw → let m := w.merge f (s.rd f (h.copy f)) / 2 ^ f.lowZero * 2 ^ f.lowZero
               s'.rd f (h.copy f) = if f.listed m then m % 2 ^ f.w else s.rd f (h.copy f)) ∧
             (f.acc = .w1c → s'.rd f (h.copy f) = (s.rd f (h.copy f) &&& (2 ^ f.w - 1 - w.ones f)) % 2 ^ f.w) ∧
             (f.acc = .rw1s → s'.rd f (h.copy f) = (s.rd f (h.copy f) ||| w.ones f) % 2 ^ f.w)) ∧
           (∀ f ∈ fieldsOf h.reg, (f ∈ ownRow ∨ w.hits f = false ∨ f.acc = .ro ∨ f.acc = .wo) → s'.rd f (h.copy f) = s.rd f (h.copy f)) ∧
           KeepsRegs ((fieldsOf h.reg).map (fun f => (f, h.copy f)) ++
             [(F.SYS_CFG_LOST_BEAT, 0), (F.SYS_CFG_LOST_THERMAL, 0), (F.SYS_CFG_LOST_OTHER, 0)]) s s' ∧
           s' = { v with fv := s'.fv, scb := s'.scb, life := { s.life with rewrite := s'.life.rewrite } }))) ∧
  (∀ (t : Nat) (s : State),
     let v := s.tick t
     (s.fpPend = [] → Completes (.floorPlanChange t) s fun s' => s' = v) ∧
     (∀ (c : Nat) (one r : List FpItem), s.fpPend = one ++ r → one ≠ [] → (∀ it ∈ one, it.cause = c) → (∀ it ∈ r.head?, it.cause ≠ c) →
       Completes (.floorPlanChange t) s fun s' =>
         s'.fpPend = r ∧
         s'.repairs = s.repairs ++ (one.filter (fun it => it.repair ≠ 0)).map (fun it => ⟨it.repair, it.part, it.value⟩) ∧
         s'.mem = s.mem ∧ s'.ts = s.ts ∧ s'.tiles = s.tiles ∧
         (s.rd F.SYS_FP_STATUS_VALID 0 = 1 →
           s'.rd F.FP_HDR_GENERATION 0 = (s.rd F.FP_HDR_GENERATION 0 + 2) % 2 ^ 32 ∧
           s'.rd F.FP_HDR_CHANGE_COUNT 0 = (s.rd F.FP_HDR_CHANGE_COUNT 0 + 1) % 2 ^ 32 ∧ s'.rd F.SYS_FP_STATUS_CHANGED 0 = 1 ∧
           ∀ it ∈ one, (it.kind = 1 → it.part < 104 →
             s'.rd F.FP_TILE_HEALTH it.part = v.tileHealth it.part % 2 ^ F.FP_TILE_HEALTH.w ∧
             s'.rd F.FP_TILE_ROLE it.part = s.role it.part % 2 ^ F.FP_TILE_ROLE.w ∧
             s'.rd F.FP_TILE_LOGICAL it.part = (s.tile it.part).facts.logical % 2 ^ F.FP_TILE_LOGICAL.w) ∧
           (it.kind = 3 → it.part < 16 → s'.rd F.FP_LINK_STATE it.part = s.rd F.LNK_STATUS_STATE it.part % 2 ^ F.FP_LINK_STATE.w) ∧
           (it.kind = 4 → it.part < 10 → s'.rd F.FP_BRIDGE_WIDTH it.part = s.rd F.BRG_STATUS_WIDTH it.part % 2 ^ F.FP_BRIDGE_WIDTH.w))))

/-- A submission is fetched, checked and answered; NOP replies; COPY_IN and COPY_OUT move their bytes and nothing else (R345, R346, R347, R348,
R350). -/
def Obligations.Submissions : Prop :=
  ∀ (t : Nat) (s : State),
    let v := s.tick t
    let head := s.rd F.FRONT_SQ_PTRS_HEAD 0
    s.rd F.FRONT_RING_CTL_OPEN 0 = 1 →
    (s.front.stopped = false → head ≠ s.rd F.FRONT_SQ_PTRS_TAIL 0 → s.front.subs.length < 8 → 2 ≤ v.freeReplies →
      (∀ b : Bytes, b.length = 64 → v.subBad b = none → s.rd F.SYS_BOOT_STATUS_STAGE 0 = 0xA → subEmpty b = false →
        Completes (.submissionFetch t (.data b)) s fun s' =>
          s'.front = { s.front with subs := s.front.subs ++ [⟨head, b⟩] } ∧
          Sets [(F.FRONT_SQ_PTRS_HEAD, 0, (head + 1) % 2 ^ 32)] s s' ∧ s' = { v with fv := s'.fv, front := s'.front }) ∧
      (∀ (b : Bytes) (off : Nat), b.length = 64 → v.subBad b = some off →
        Completes (.submissionFetch t (.data b)) s fun s' =>
          s'.front = { s.front with replies := s.front.replies ++ [⟨subOp b, head, fieldAt b 8 8, 0x030, off⟩] } ∧
          Sets [(F.FRONT_SQ_PTRS_HEAD, 0, (head + 1) % 2 ^ 32)] s s' ∧ s' = { v with fv := s'.fv, front := s'.front }) ∧
      (∀ (n : Nat) (b : Bytes), Completes (.submissionFetch t (.fault n b)) s fun s' =>
        s'.rd F.FRONT_RING_CTL_RING_ERR 0 = 1 ∧ s'.rd F.FRONT_RING_CTL_ERR_CAUSE 0 = 3 ∧ s'.rd F.FRONT_RING_CTL_OPEN 0 = 0 ∧
        s'.front.replies = [] ∧ s'.front.subs = s.front.subs ∧ s'.mem = s.mem ∧ s'.ts = s.ts)) ∧
    (∀ (i : Nat) (u : Sub), v.ready i 1 = some u → u.idx < 2 ^ 32 →
      Completes (.subNop t i) s fun s' => Replied s s' u 0 0 ∧ s' = { v with front := s'.front }) ∧
    (∀ (i : Nat) (u : Sub) (data : Bytes), v.ready i 2 = some u → u.idx < 2 ^ 32 → subSealed u.body = false → data.length = subLen u.body →
      let a := subDev u.body
      let n := subLen u.body
      (∀ x : Nat, subTs u.body = true → v.tileOfLogical (subTile u.body) = some x → goodRows s x a n →
        Completes (.copyIn t i (.data data)) s fun s' =>
          (∀ k < n, s'.tsByte x (a + k) = data.getD k 0) ∧ (∀ y b, outside x a n y b → s'.tsByte y b = s.tsByte y b) ∧
          Replied s s' u 0 n ∧ s'.fv = s.fv ∧ s'.mem = s.mem ∧ KeepsTiles x s s') ∧
      (∀ x off : Nat, subTs u.body = false → (∀ k < n, v.decodeDpa false (a + k) = .slice x (off + k) ∧ v.sealedAt (a + k) = false) →
        goodLines s x off n → s.rd F.SLC_FLIP_MASK_ARM x = 0 →
        Completes (.copyIn t i (.data data)) s fun s' =>
          (∀ k < n, s'.memByte (sliceBase x + off + k) = data.getD k 0) ∧
          (∀ b, (b < sliceBase x + off ∨ sliceBase x + off + n ≤ b) → s'.memByte b = s.memByte b) ∧
          Replied s s' u 0 n ∧ s'.fv = s.fv ∧ s'.ts = s.ts ∧ KeepsTiles x s s')) ∧
    (∀ (i : Nat) (u : Sub), v.ready i 3 = some u → u.idx < 2 ^ 32 →
      let a := subDev u.body
      let n := subLen u.body
      let sent (data : Bytes) : List Out :=
        (piecesOf (subHost u.body) n).map (fun p => Out.hostWrite p.1 ((data.drop (p.1 - subHost u.body)).take p.2))
      (∀ x : Nat, subTs u.body = true → v.tileOfLogical (subTile u.body) = some x → goodRows s x a n →
        Completes (.copyOut t i none []) s fun s' =>
          s'.out = s.out ++ sent (s.tsRead x a n) ∧ Replied s s' u 0 n ∧ s'.fv = s.fv ∧ s'.mem = s.mem ∧ s'.ts = s.ts) ∧
      (∀ x off : Nat, subTs u.body = false → 0 < n → n ≤ 512 - a % 512 → v.decodeDpa false a = .slice x off → v.sealedAt a = false →
        v.pchHit (sliceBase x + off) n = none → (s.tile x).slice.held (off / 512) = none → goodLines s x off n →
        Completes (.copyOut t i none []) s fun s' =>
          s'.out = s.out ++ sent (s.dram x off n) ∧ Replied s s' u 0 n ∧ s'.mem = s.mem ∧ s'.ts = s.ts))

/-- ACTIVATE refuses an image whose signature fails and fills its slot with one that passes; START and STOP name their frames; SAVE writes the
sealed context (log entry 34); RESTORE brings one back; UNLOAD empties the slot (R282, R345, R349, R453). -/
def Obligations.ImageCommands : Prop :=
  ∀ (t i : Nat) (s : State) (u : Sub),
    let v := s.tick t
    let k := subSlot u.body
    let g := s.img k
    s.rd F.FRONT_RING_CTL_OPEN 0 = 1 → u.idx < 2 ^ 32 →
    (v.ready i 4 = some u → g.loaded = false → ∀ b : Bytes, b.length = subLen u.body → 192 ≤ b.length → headerBad (b.take 128) = false →
      fieldAt (b.take 128) 16 2 ≠ 0 →
      let h := b.take 128
      let body := (b.drop 128).take (b.length - 192)
      let sig := b.drop (b.length - 64)
      let r := v.segments k (body.length + 1) body
      r.2 = 0 → s.rd F.SCB_STATUS_FROZEN 0 = 0 → s.margin = none →
      Completes (.activate t i (.data b)) s fun s' =>
        (v.imageSigned h sig = false →
          s'.img k = g ∧ Replied s s' u 0x0A2 0 ∧ (∀ j < 3072, s'.rd F.LNK_MAP_ENTRY j = s.rd F.LNK_MAP_ENTRY j) ∧
          (Tab.get ScbRec.empty s'.scb.recs 6).count = satAdd 32 (Tab.get ScbRec.empty s.scb.recs 6).count 1) ∧
        (v.imageSigned h sig = true → fieldAt h 96 32 = (Config.sm3 body).toNat → r.1.imageCode k h = 0 →
          (s'.img k).loaded = true ∧ (s'.img k).header = h ∧ (s'.img k).sig = sig ∧ (s'.img k).sched = 0 ∧ (s'.img k).startAt = none ∧
          (s'.rd F.FRONT_JOB_LOADED 0).testBit k = true ∧ Replied s s' u 0 (subLen u.body) ∧
          s'.quoin.meas = s.quoin.meas.set (8 + k) (Config.sm3 (digestBytes (s.quoin.meas.getD (8 + k) 0) ++ digestBytes (Config.sm3 body))) ∧
          s'.mem = r.1.mem ∧ s'.ts = r.1.ts)) ∧
    (v.ready i 5 = some u → g.loaded = true → (∀ x ∈ v.imageTiles g, s.rd F.SEQ_CTL_CONFIGURED x ≠ 0 ∧ v.marginTile x = false) →
      (∀ f : Nat, v.frameNamed (subFrame u.body) = some f →
        Completes (.subStart t i) s fun s' =>
          s'.img k = { g with startAt := some f, stopAt := none } ∧ s'.img (1 - k) = s.img (1 - k) ∧ Replied s s' u 0 0 ∧ s'.fv = s.fv) ∧
      (v.frameNamed (subFrame u.body) = none →
        Completes (.subStart t i) s fun s' => Replied s s' u 0x036 (v.frameNow % 2 ^ 32) ∧ s' = { v with front := s'.front })) ∧
    (v.ready i 6 = some u → g.loaded = true → ∀ f : Nat, v.frameNamed (subFrame u.body) = some f →
      Completes (.subStop t i) s fun s' =>
        s'.img k = { g with stopAt := some f } ∧ s'.img (1 - k) = s.img (1 - k) ∧ Replied s s' u 0 0 ∧ s'.fv = s.fv) ∧
    (v.ready i 7 = some u → g.loaded = true → fieldAt g.header 20 2 ≠ 0 → v.atPreempt k = true → ∀ key : BitVec 128, v.keySlot 63 = some key →
      let size := sealedLength (v.contextBytes k).length
      size ≤ subLen u.body →
      Completes (.subSave t i none) s fun s' =>
        s'.out = s.out ++ (piecesOf (subHost u.body) (sealBytes key ((Config.trng s.quoin.draws).toNat % 2 ^ 64) (v.contextBytes k)).length).map
          (fun p => Out.hostWrite p.1 (((sealBytes key ((Config.trng s.quoin.draws).toNat % 2 ^ 64) (v.contextBytes k)).drop
            (p.1 - subHost u.body)).take p.2)) ∧
        s'.quoin = { s.quoin with draws := s.quoin.draws + 1 } ∧ Replied s s' u 0 size ∧ s'.img k = g ∧ s'.fv = s.fv) ∧
    (v.ready i 8 = some u → g.loaded = false → ∀ b : Bytes, b.length = subLen u.body →
      let plain := (openSealed (v.keySlot 63) b.length b).1
      Completes (.subRestore t i (.data b)) s fun s' =>
        (openSealed (v.keySlot 63) b.length b).2 = true → 256 ≤ plain.length → headerBad (plain.take 128) = false →
        plain.length = 256 + 512 * fieldAt plain 16 2 → v.imageSigned (plain.take 128) ((plain.drop 128).take 64) = true →
        v.imageCode k (plain.take 128) = 0 →
        (s'.img k).loaded = true ∧ (s'.img k).header = plain.take 128 ∧ (s'.img k).sched = fieldAt plain 192 4 ∧
        (s'.img k).resume = some (fieldAt plain 192 4) ∧ Replied s s' u 0 (subLen u.body) ∧ s'.mem = s.mem ∧ s'.ts = s.ts) ∧
    (v.ready i 9 = some u →
      Completes (.unload t i) s fun s' =>
        s'.img k = Image.empty ∧ s'.img (1 - k) = s.img (1 - k) ∧ (s'.rd F.FRONT_JOB_LOADED 0).testBit k = false ∧
        KeepsRegs [(F.FRONT_JOB_LOADED, 0), (F.BEAT_FRAME_SCHED_FRAME, 0), (F.FRONT_JOB_SCHED_FRAME, 0)] s s' ∧
        Replied s s' u 0 0 ∧ s'.mem = s.mem ∧ s'.ts = s.ts)

/-- OPEN starts or refuses the rings, the pointers move or set RING_ERR, and replies and heartbeats are written to their slots (R342, R343, R347,
R350). -/
def Obligations.HostRings : Prop :=
  ∀ (t : Nat) (s : State),
    let v := s.tick t
    let tail := s.rd F.FRONT_RQ_PTRS_TAIL 0
    let slot := s.rd F.FRONT_RQ_BASE 0 * 4096 + 32 * (tail % 2 ^ s.rd F.FRONT_RQ_SIZE_LOG2 0)
    (∀ value : Word64, value.toNat.testBit 1 = true → 10 ≤ bitsAt value.toNat 8 7 → bitsAt value.toNat 8 7 ≤ 100 →
      (s.rd F.FRONT_RING_CTL_OPEN 0 = 0 → v.ringUnset = false →
        Completes (.ringOpen t value) s fun s' =>
          Sets [(F.FRONT_RING_CTL_OPEN, 0, 1), (F.FRONT_RING_CTL_RING_ERR, 0, 0), (F.FRONT_RING_CTL_HB_US, 0, bitsAt value.toNat 8 7),
            (F.FRONT_SQ_PTRS_HEAD, 0, 0), (F.FRONT_SQ_PTRS_TAIL, 0, 0), (F.FRONT_RQ_PTRS_HEAD, 0, 0), (F.FRONT_RQ_PTRS_TAIL, 0, 0)] s s' ∧
          s'.front.replies = [] ∧ s'.front.stopped = false ∧ s' = { v with fv := s'.fv, front := s'.front }) ∧
      (s.rd F.FRONT_RING_CTL_OPEN 0 = 0 → v.ringUnset = true →
        Completes (.ringOpen t value) s fun s' =>
          s'.rd F.FRONT_RING_CTL_OPEN 0 = 0 ∧ s'.rd F.FRONT_RING_CTL_RING_ERR 0 = 1 ∧ s'.rd F.FRONT_RING_CTL_ERR_CAUSE 0 = 4 ∧ s'.front = s.front) ∧
      Completes (.ringClose t value) s fun s' =>
        s'.rd F.FRONT_RING_CTL_OPEN 0 = 0 ∧ s'.front = { s.front with replies := [] } ∧ s'.mem = s.mem ∧ s'.ts = s.ts) ∧
    (∀ value : Word32,
      (let used := (value.toNat + 2 ^ 32 - s.rd F.FRONT_SQ_PTRS_HEAD 0) % 2 ^ 32
       let isOver := s.rd F.FRONT_RING_CTL_OPEN 0 = 1 ∧ 2 ^ s.rd F.FRONT_SQ_SIZE_LOG2 0 < used
       (¬ isOver → Completes (.sqTailWrite t value) s fun s' =>
          Sets [(F.FRONT_SQ_PTRS_TAIL, 0, value.toNat)] s s' ∧ s' = { v with fv := s'.fv }) ∧
       (isOver → Completes (.sqTailWrite t value) s fun s' =>
          Sets [(F.FRONT_SQ_PTRS_TAIL, 0, value.toNat), (F.FRONT_RING_CTL_RING_ERR, 0, 1), (F.FRONT_RING_CTL_ERR_CAUSE, 0, 1)] s s' ∧
          s' = { v with fv := s'.fv, front := { s.front with stopped := true } })) ∧
      (let left := (tail + 2 ^ 32 - value.toNat) % 2 ^ 32
       let isOver := s.rd F.FRONT_RING_CTL_OPEN 0 = 1 ∧ 2 ^ s.rd F.FRONT_RQ_SIZE_LOG2 0 < left
       (¬ isOver → Completes (.rqHeadWrite t value) s fun s' =>
          Sets [(F.FRONT_RQ_PTRS_HEAD, 0, value.toNat)] s s' ∧ s' = { v with fv := s'.fv }) ∧
       (isOver → Completes (.rqHeadWrite t value) s fun s' =>
          Sets [(F.FRONT_RQ_PTRS_HEAD, 0, value.toNat), (F.FRONT_RING_CTL_RING_ERR, 0, 1), (F.FRONT_RING_CTL_ERR_CAUSE, 0, 2)] s s' ∧
          s' = { v with fv := s'.fv, front := { s.front with stopped := true } }))) ∧
    (s.rd F.FRONT_RING_CTL_OPEN 0 = 1 → v.freeReplies ≠ 0 →
      (∀ (r : ReplyRec) (rest : List ReplyRec), s.front.replies = r :: rest →
        Completes (.replyRecord t true) s fun s' =>
          s'.out = s.out ++ [.hostWrite slot (v.replyBytes 0 r.op r.seq r.tag r.code r.detail)] ∧ s'.front.replies = rest ∧
          Sets [(F.FRONT_RQ_PTRS_TAIL, 0, (tail + 1) % 2 ^ 32),
            (F.FRONT_COUNT_COMPLETED, 0, (s.rd F.FRONT_COUNT_COMPLETED 0 + 1) % 2 ^ 32)] s s' ∧
          s' = { v with fv := s'.fv, out := s'.out, front := s'.front }) ∧
      (v.heartbeatDue = true →
        Completes (.heartbeat t true) s fun s' =>
          s'.out = s.out ++ [.hostWrite slot (v.replyBytes 1 0 0xFFFFFFFF 0 0 0)] ∧
          Sets [(F.FRONT_RQ_PTRS_TAIL, 0, (tail + 1) % 2 ^ 32),
            (F.FRONT_COUNT_HEARTBEATS, 0, satAdd F.FRONT_COUNT_HEARTBEATS.w (s.rd F.FRONT_COUNT_HEARTBEATS 0) 1)] s s' ∧
          s' = { v with fv := s'.fv, out := s'.out, front := { s.front with lastClass := v.attnClass, lastAt := v.now } }))

/-- A window access queues with its class, a read that misses its deadline returns ones and is recorded (log entry 91), and FLR, hot reset and
link-down clear the front and nothing behind it (R351, R352, R354). -/
def Obligations.WindowAccesses : Prop :=
  ∀ (t : Nat) (s : State),
    let v := s.tick t
    (∀ (off : BitVec 36) (data : Bytes) (x o : Nat),
      let dpa := s.rd F.FRONT_WIN_BASE 0 * 2 ^ 33 + off.toNat
      let n := data.length
      0 < n → n ≤ 512 - dpa % 512 → s.wins = [] → v.sealedAt dpa = false → v.decodeDpa false dpa = .slice x o →
      (Completes (.windowWrite t off data) s fun s' =>
        s'.wins = [⟨0, dpa, n, true, v.now, [], 1⟩] ∧
        (s'.tile x).slice = { (s.tile x).slice with norm := (s.tile x).slice.norm ++ [⟨.host 0, .write, dpa, n, data, v.gclk, false, false, 0⟩] } ∧
        KeepsTiles x s s' ∧ s' = { v with wins := s'.wins, tiles := s'.tiles }) ∧
      Completes (.windowRead t off n) s fun s' =>
        s'.wins = [⟨0, dpa, n, false, v.now, [], 1⟩] ∧
        (s'.tile x).slice = (if s.rd F.FRONT_WIN_PRIORITY 0 = 1 then
            { (s.tile x).slice with prio := (s.tile x).slice.prio ++ [⟨.host 0, .read, dpa, n, [], v.gclk, true, false, 0⟩] }
          else { (s.tile x).slice with norm := (s.tile x).slice.norm ++ [⟨.host 0, .read, dpa, n, [], v.gclk, false, false, 0⟩] }) ∧
        KeepsTiles x s s' ∧ s' = { v with wins := s'.wins, tiles := s'.tiles }) ∧
    (∀ (i : Nat) (w : Win), s.wins[i]? = some w → w.write = false → w.arrival + 160000 ≤ v.now → s.rd F.FRONT_WIN_LAST_VALID 0 = 0 →
      Completes (.windowReadDeadline t i) s fun s' =>
        s'.out = s.out ++ [.window w.tag 0x011 (List.replicate w.len 0xFF)] ∧ s'.wins = s.wins.filter (fun u => u.tag != w.tag) ∧
        s'.rd F.FRONT_WIN_LAST_VALID 0 = 1 ∧ s'.rd F.FRONT_WIN_LAST_CODE 0 = 0x011 ∧ s'.rd F.FRONT_WIN_LAST_WRITE 0 = 0 ∧
        s'.rd F.FRONT_WIN_LAST_DPA 0 = w.dpa / 512 * 512 % 2 ^ F.FRONT_WIN_LAST_DPA.w ∧ s'.mem = s.mem ∧ s'.ts = s.ts ∧ s'.tiles = s.tiles) ∧
    (∀ c ∈ [Instr.flr t, Instr.hotReset t, Instr.pcieLinkDown t],
      Completes c s fun s' =>
        s'.front = ⟨[], [], 0, v.now, false⟩ ∧ s'.lanes = [] ∧ s'.mem = s.mem ∧ s'.ts = s.ts ∧ s'.tiles = s.tiles ∧
        ∀ f ∈ [F.FRONT_RING_CTL_OPEN, F.FRONT_RING_CTL_RING_ERR, F.FRONT_RING_CTL_HB_US, F.FRONT_SQ_SIZE_LOG2, F.FRONT_SQ_BASE,
          F.FRONT_SQ_PTRS_TAIL, F.FRONT_SQ_PTRS_HEAD, F.FRONT_RQ_SIZE_LOG2, F.FRONT_RQ_BASE, F.FRONT_RQ_PTRS_HEAD, F.FRONT_RQ_PTRS_TAIL,
          F.FRONT_WIN_PRIORITY, F.FRONT_WIN_BASE, F.FRONT_WIN_LAST_VALID, F.FRONT_COUNT_COMPLETED, F.FRONT_COUNT_HEARTBEATS],
          s'.rd f 0 = (f.dflt 0).toNat)

/-- A tile, pier or compute reset clears what it covers and records its kind and cause; while clamped it waits; its completion shows its duration
(R56, R365, R366, R367, R376). -/
def Obligations.ResetCommands : Prop :=
  ∀ (t : Nat) (s : State),
    let v := s.tick t
    let begins (c : Instr) (k : ResetKind) : Prop :=
      (s.rd F.SYS_BOOT_STATUS_STAGE 0 = 0xA → s.rd F.SYS_POWER_STATE 0 < 2 → s.rd F.THM_STATUS_CLAMPED 0 ≠ 1 →
        s.life.resets.any (fun r => resetCovers r.kind k) = false → s.rd F.BND_STATUS_STATE 0 = 0 →
        Completes c s fun s' =>
          s'.rd F.SYS_RESET_STATUS_BUSY 0 = 1 ∧ s'.rd F.SYS_RESET_STATUS_LAST_KIND 0 = resetCode k ∧
          s'.rd F.SYS_RESET_STATUS_LAST_CAUSE 0 = 1 ∧ (⟨k, v.now⟩ : ResetRun) ∈ s'.life.resets ∧
          ∀ x ∈ resetTiles k, s'.rd F.SEQ_THREAD_CTL_RUNNING x = 0 ∧ s'.rd F.SEQ_THREAD_CTL_TRAPPED x = 0 ∧
            (s'.tile x).eng = { Engine.idle with remap := (s.tile x).eng.remap, zeroing := true }) ∧
      (s.rd F.SYS_BOOT_STATUS_STAGE 0 = 0xA → s.rd F.SYS_POWER_STATE 0 < 2 → s.rd F.THM_STATUS_CLAMPED 0 = 1 →
        Completes c s fun s' =>
          s'.life.pendingResets = s.life.pendingResets ++ [k] ∧ s' = { v with life := { s.life with pendingResets := s'.life.pendingResets } })
    (∀ (p : PierIx) (pos : Fin 13) (x : TileIx), x.val = 13 * p.val + pos.val → begins (.tileReset t p pos) (.tile x)) ∧
    (∀ p : PierIx, begins (.pierReset t p) (.pier p)) ∧ begins (.computeReset t) .compute ∧
    (∀ (k : ResetKind) (r : ResetRun), s.life.resets.find? (fun r => r.kind == k) = some r →
      (∀ x ∈ resetTiles k, (s.tile x).eng.zeroing = false) →
      Completes (.resetComplete t k) s fun s' =>
        s'.life.resets = s.life.resets.filter (fun r => r.kind != k) ∧
        s'.rd F.SYS_RESET_STATUS_BUSY 0 = (if s'.life.resets = [] then 0 else 1) ∧
        s'.rd F.SYS_RESET_STATUS_LAST_MS 0 = min 65535 ((v.now - r.origin) / 40000) ∧ s'.mem = s.mem ∧ s'.ts = s.ts ∧
        (k ≠ .compute → KeepsRegs [(F.SYS_RESET_STATUS_BUSY, 0), (F.SYS_RESET_STATUS_LAST_MS, 0)] s s'))

/-- Power-good and every cause of a module reset start the module up to READY with its kind and cause recorded (log entry 77), and microcode goes
into service once every unit has confirmed it (R357, R360, R363, R365, R375, R487, R496). -/
def Obligations.StartUps : Prop :=
  (∀ (t : Nat) (s : State) (b : Boot) (f : FwImage),
     let v := s.tick t
     let up (c : Instr) (kind cause : Nat) : Prop :=
       b.imageA = some f → s.life.staged = none → s.rd F.QUO_FW_SVN_FUSED 0 ≤ f.svn → b.controller = true → b.badDies = [] → s.life.badDies = [] →
       steppingBad b.steppings = none → b.facts = [] → b.units = [] → s.rd F.THM_STATUS_PRESSURE 0 = 1 →
       Completes c s fun s' =>
         s'.rd F.SYS_BOOT_STATUS_STAGE 0 = 0xA ∧ s'.rd F.SYS_RESET_STATUS_LAST_KIND 0 = kind ∧
         s'.rd F.SYS_RESET_STATUS_LAST_CAUSE 0 = cause % 16 ∧ s'.life.ready = true ∧ s'.life.powered = true ∧ s'.rd F.SYS_FP_STATUS_VALID 0 = 1 ∧
         s'.mem = [] ∧ s'.ts = [] ∧ s'.imgA = Image.empty ∧ s'.imgB = Image.empty
     (s.life.powered = false → s.life.tripped = false → s.life.main = true →
       up (.powerGood t b) 5 s.life.cause ∧ (s.life.cause ≠ 0 → up (.coldStart t b) 5 s.life.cause)) ∧
     (s.life.powered = true →
       (∀ cause : Fin 8, 1 ≤ cause.val → cause.val ≤ 4 → up (.moduleReset t cause b) 4 cause) ∧
       up (.watchdogExpiry t b) 4 4 ∧ up (.resetEffecter t b) 4 3 ∧
       (s.life.perst = false → s.life.perstSeen = true → up (.perstAssert t b) 4 2)) ∧
     (s.life.perst = true ∨ s.life.perstSeen = false →
       Completes (.perstAssert t b) s fun s' => s' = { v with life := { s.life with perst := true } }) ∧
     Completes (.perstDeassert t) s fun s' => s' = { v with life := { s.life with perst := false, perstSeen := s.life.powered } }) ∧
  (∀ (t : Nat) (x : TileIx) (u : UnitIx) (r : Bytes) (s : State),
     let v := s.tick t
     let m := (v.mcodeRx x u).take r
     let t1 : State := { v with life := { s.life with mcode := Tab.put McodeRx.none s.life.mcode (64 * x + u) m } }
     (s.tile x).facts.bkuRetired.testBit u = false → chunkSound r = true →
     Completes (.microcodeChunk t x u r) s fun s' =>
       ((m.ok = false ∨ (v.mcodeRx x u).ok = true ∨ t1.allConfirmed = false) → s' = t1) ∧
       (m.ok = true → (v.mcodeRx x u).ok = false → t1.allConfirmed = true →
         (∀ y < 104, (s.tile y).facts.health < 3 → s'.rd F.BKU_CTL_MCODE_OK y = 1 ∧ s'.rd F.BKU_CTL_MCODE_VER y = m.version % 256) ∧
         s' = { t1 with fv := s'.fv }))

/-- A power request begins a change, is refused, or changes nothing, and the change ends with the state and the domains it names and with what that
state loses (R370, R371, R376). -/
def Obligations.PowerStates : Prop :=
  ∀ (t : Nat) (s : State),
    let v := s.tick t
    let cur := s.rd F.SYS_POWER_STATE 0
    (∀ e ∈ [(0, Instr.reqRunning t), (1, Instr.reqWarmIdle t), (2, Instr.reqStandby t), (3, Instr.reqPark t)],
      s.rd F.SYS_POWER_MOVING 0 = 0 →
      (e.1 = cur → Completes e.2 s fun s' => Sets [(F.SYS_POWER_REQ, 0, e.1)] s s' ∧ s' = { v with fv := s'.fv }) ∧
      (e.1 ≠ cur → cur < 2 → (e.1 = 0 → s.rd F.THM_STATUS_SHUTDOWN 0 = 0) → (e.1 ≠ 0 → v.mayRest = true) →
        Completes e.2 s fun s' =>
          Sets [(F.SYS_POWER_REQ, 0, e.1), (F.SYS_POWER_MOVING, 0, 1)] s s' ∧
          s' = { v with fv := s'.fv, life := { s.life with moving := some e.1 } }) ∧
      (e.1 ≠ cur → e.1 ≠ 0 → v.mayRest = false →
        Completes e.2 s fun s' =>
          Sets [(F.SYS_POWER_REQ, 0, e.1), (F.SYS_POWER_REFUSED, 0, 1)] s s' ∧ s' = { v with fv := s'.fv })) ∧
    (∀ n : Nat, n < 4 → s.life.moving = some n →
      Completes (.powerStateChangeDone t []) s fun s' =>
        s'.rd F.SYS_POWER_STATE 0 = n ∧ s'.rd F.SYS_POWER_MOVING 0 = 0 ∧ s'.rd F.PWR_DOMAINS_ON 0 = domainsOn n ∧ s'.life.moving = none ∧
        (cur < 2 → 2 ≤ n → s'.ts = [] ∧ s'.imgA = Image.empty ∧ s'.imgB = Image.empty))

/-- A sample is shown and judged: a trip that is confirmed cuts the rails, a deviation that another sensor shares is noted, three strikes retire
the sensor, no reading retires it (R391, R392, R393, R402, R403). -/
def Obligations.SensorSamples : Prop :=
  ∀ (t : Nat) (i : Fin 1332) (s : State),
    let v := s.tick t
    let st := s.rd F.THM_SENSOR_STATE i
    let p := (sensorSite i).2.1
    (st = 3 → ∀ r, Completes (.sensorSample t i r) s fun s' => s' = v) ∧
    ((st = 1 ∨ st = 2) →
      (∀ r : BitVec 12, Completes (.sensorSample t i (some r)) s fun s' =>
        Sets [(F.THM_SENSOR_READING, i.val, r.toNat)] s s' ∧ s' = { v with fv := s'.fv }) ∧
      Completes (.sensorSample t i none) s fun s' => Sets [(F.THM_SENSOR_READING, i.val, 0)] s s' ∧ s' = { v with fv := s'.fv }) ∧
    (st = 0 → Completes (.sensorSample t i none) s fun s' =>
      s'.rd F.THM_SENSOR_READING i = 0 ∧ s'.rd F.THM_SENSOR_STATE i = 2 ∧ s'.rd F.THM_SENSOR_STRIKES i = 0 ∧
      ∃ w, (⟨5, i.val, 8, 2 + 16 * w, v.now⟩ : FpItem) ∈ s'.fpPend) ∧
    (∀ r : BitVec 12, st = 0 →
      let w := v.wr F.THM_SENSOR_READING i r.toNat
      (s.life.powered = true → tripLevel i (s.rd F.THM_SENSOR_READING i) = true → tripLevel i r.toNat = true → w.tripConfirmed i r.toNat = true →
        Completes (.sensorSample t i (some r)) s fun s' =>
          s'.rd F.THM_TRIP_SITE 0 = i ∧ s'.rd F.THM_TRIP_VALID 0 = 1 ∧ s'.rd F.THM_TRIP_READING 0 = r.toNat ∧ s'.life.tripped = true ∧
          s'.life.powered = false ∧ s'.life.cause = 5 ∧ s'.rd F.PWR_DOMAINS_ON 0 = 2 ^ 25 ∧ s'.mem = [] ∧ s'.ts = []) ∧
      (tripLevel i r.toNat = false → i.val < 1328 →
        ((w.deviation i).natAbs ≤ 80 →
          Completes (.sensorSample t i (some r)) s fun s' =>
            s'.rd F.THM_SENSOR_READING i = r.toNat ∧ s'.rd F.THM_SENSOR_STRIKES i = 0 ∧ s'.rd F.THM_SENSOR_STATE i = 0) ∧
        (80 < (w.deviation i).natAbs → w.corroborated p i = true →
          Completes (.sensorSample t i (some r)) s fun s' =>
            (s'.rd F.THM_STATUS_MODEL_ERR 0).testBit p = true ∧ s'.rd F.THM_SENSOR_STRIKES i = 0 ∧ s'.rd F.THM_SENSOR_STATE i = 0) ∧
        (80 < (w.deviation i).natAbs → w.corroborated p i = false → s.rd F.THM_SENSOR_STRIKES i = 2 →
          Completes (.sensorSample t i (some r)) s fun s' =>
            s'.rd F.THM_SENSOR_STATE i = 2 ∧ ∃ w, (⟨5, i.val, 8, 1 + 16 * w, v.now⟩ : FpItem) ∈ s'.fpPend)))

/-- The model steps and forecasts (log entry 9), Rth is taken from a steady window, the caps follow their law, keep-warm moves by 10 W, and
commissioning begins, is refused, ends or fails (R388, R389, R394, R396, R397, R398). -/
def Obligations.ThermalUpdates : Prop :=
  ∀ (t : Nat) (s : State),
    let v := s.tick t
    (∀ m : ThermalMeas, s.power.model.length = 8 → s.life.pendingResets = [] →
      let model (p : Nat) : List Nat :=
        let w := m.powers.getD p 0
        Config.thermalStep p s.power.fitted (s.power.model.getD p [])
          (w :: m.fillers.getD p 0 :: v.inlet :: v.hotOf p :: ([0, 1, 2, 3].map (v.courseOf p) ++ v.planAhead w))
      Completes (.thermalModelUpdate t m) s fun s' =>
        (∀ p < 8, s'.power.model.getD p [] = model p ∧
          s'.rd F.THM_PIER_FORE_HOT p = Config.thermalForecast p (model p) 0 % 4096 ∧
          s'.rd F.THM_PIER_FORE_COURSE p = courseForecast p (model p) % 4096 ∧
          (hotLimit ≤ Config.thermalForecast p (model p) 0 % 4096 → s'.rd F.THM_STATUS_CLAMPED 0 = 1)) ∧ s'.mem = s.mem ∧ s'.ts = s.ts) ∧
    (∀ (win : List RthWindow) (p : PierIx) (w : RthWindow), win[p.val]? = some w →
      Completes (.rthWindow t win) s fun s' =>
        (if 10 * (w.pmax - w.pmin) ≤ w.pmean ∧ w.imax - w.imin ≤ 8 ∧ 100 ≤ w.pmean then
          (w.imean ≤ w.hot → s'.rd F.THM_RTH_RTH_J p = (w.hot - w.imean) * 625 / w.pmean % 2 ^ 16) ∧
          (w.imean ≤ w.course → s'.rd F.THM_RTH_RTH_M p = (w.course - w.imean) * 625 / w.pmean % 2 ^ 16)
        else s'.rd F.THM_RTH_RTH_J p = s.rd F.THM_RTH_RTH_J p ∧ s'.rd F.THM_RTH_RTH_M p = s.rd F.THM_RTH_RTH_M p) ∧
        s' = { v with fv := s'.fv, freeCtr := s'.freeCtr }) ∧
    (∀ p : PierIx, s.rd F.THM_RTH_RTH_J p ≠ 0 → s.rd F.THM_RTH_RTH_M p ≠ 0 → s.power.half.getD p 0 = 0 →
      let law (limit rth : Nat) : Nat := (limit - 16 * s.rd F.THM_CFG_MARGIN_C 0 - s.rd F.THM_COOLANT_INLET 0) * 625 / rth
      Completes (.capUpdate t) s fun s' =>
        s'.rd F.THM_PIER_CAP p = min (min (law hotLimit (s.rd F.THM_RTH_RTH_J p)) (law (v.courseLimit p) (s.rd F.THM_RTH_RTH_M p)))
          (s.rd F.PWR_RAIL_LIMIT_W p) % 4096 ∧ s'.mem = s.mem ∧ s'.ts = s.ts ∧ s'.tiles = s.tiles) ∧
    (s.rd F.THM_STATUS_CLAMPED 0 = 1 → Completes (.keepWarmUpdate t) s fun s' => s' = v) ∧
    (s.rd F.THM_STATUS_CLAMPED 0 = 0 → ∀ p : PierIx,
      let xs := v.sensedTiles p
      let cold := (xs.map v.hotValue).foldl (· + ·) 0 < 16 * s.rd F.THM_CFG_KEEP_WARM_C 0 * xs.length
      let old := s.power.warm.getD p 0
      Completes (.keepWarmUpdate t) s fun s' =>
        s'.power.warm.getD p 0 = (if s.rd F.THM_CFG_KEEP_WARM_EN 0 = 1 ∧ s.rd F.SYS_POWER_STATE 0 < 2 then
            (if cold then min 80 (old + 10) else old - 10) else 0) ∧
        s'.mem = s.mem ∧ s'.ts = s.ts ∧ s'.tiles = s.tiles) ∧
    (s.power.commission = none →
      (s.imgA.loaded = false → s.imgB.loaded = false → s.rd F.THM_STATUS_CLAMPED 0 = 0 → s.rd F.SYS_POWER_STATE 0 < 2 →
        s.rd F.SYS_BOOT_STATUS_STAGE 0 = 0xA → s.life.resets = [] → s.rd F.BND_STATUS_STATE 0 = 0 →
        Completes (.commissionStart t) s fun s' =>
          Sets [(F.THM_COMMISSION_START, 0, 1), (F.THM_COMMISSION_RUNNING, 0, 1)] s s' ∧
          s' = { v with fv := s'.fv, power := { s.power with commission := some v.now } }) ∧
      ((s.imgA.loaded = true ∨ s.imgB.loaded = true) →
        Completes (.commissionStart t) s fun s' => Sets [(F.THM_COMMISSION_FAIL, 0, 1)] s s' ∧ s' = { v with fv := s'.fv })) ∧
    (s.power.commission ≠ none →
      (∀ l : List Nat, Completes (.commissionDone t (some l)) s fun s' =>
        (∀ p < 8, s'.rd F.THM_RTH_NOM_J p = l.getD (2 * p) 0 % 2 ^ 16 ∧ s'.rd F.THM_RTH_NOM_M p = l.getD (2 * p + 1) 0 % 2 ^ 16) ∧
        s'.rd F.THM_STATUS_COMMISSIONED 0 = 1 ∧ s'.rd F.THM_COMMISSION_RUNNING 0 = 0 ∧ s'.rd F.THM_COMMISSION_DONE 0 = 1 ∧
        s'.power = { s.power with commission := none, fitted := l.drop 16 }) ∧
      Completes (.commissionDone t none) s fun s' =>
        Sets [(F.THM_COMMISSION_START, 0, 0), (F.THM_COMMISSION_RUNNING, 0, 0), (F.THM_COMMISSION_FAIL, 0, 1)] s s' ∧
        s'.power = { s.power with commission := none })

/-- The ledger, hold-up, input, phases, pressure, boost and trip latch change as their events say, and each clamp shows its cause (R380, R381,
R382, R385, R386, R398, R401, R406, R493). -/
def Obligations.PowerEvents : Prop :=
  ∀ (t : Nat) (s : State),
    let v := s.tick t
    (∀ (rails : List RailStress) (cycles : List Nat) (hours : Nat),
      let em := (List.range 16).map (fun r => s.power.em.getD r 0 + (match rails[r]? with | some w => emStress w | none => 0))
      let tc := s.power.tc + (cycles.map tcStress).foldl (· + ·) 0
      let used := max (maxOf em * 2 ^ 24 / Config.emLife.toNat) (tc * 2 ^ 24 / Config.tcLife.toNat)
      let plan := hours * 2 ^ 24 / 61320
      Completes (.ledgerUpdate t rails cycles hours) s fun s' =>
        s'.power.em = em ∧ s'.power.tc = tc ∧ s'.power.emFlash = s.power.emFlash ∧
        s'.rd F.PWR_LEDGER_USED 0 = min used (2 ^ 24 - 1) ∧ s'.rd F.PWR_LEDGER_PLAN 0 = min plan (2 ^ 24 - 1) ∧
        s'.rd F.PWR_LEDGER_WITHHELD 0 = (if plan < used then 1 else 0) ∧ (plan < used → s'.rd F.ATT_PENDING_LEDGER 0 = 1)) ∧
    (Completes (.ledgerWriteBack t) s fun s' => s' = { v with power := { s.power with emFlash := s.power.em, tcFlash := s.power.tc } }) ∧
    (∀ (e : BitVec 12) (ok : Bool), Completes (.holdupCheck t e ok) s fun s' =>
      Sets ([(F.PWR_HOLDUP_ENERGY, 0, e.toNat), (F.PWR_HOLDUP_OK, 0, if ok then 1 else 0)] ++ (if ok then [] else [(F.ATT_PENDING_HOLDUP, 0, 1)])) s s' ∧
      s' = { v with fv := s'.fv }) ∧
    (s.life.powered = true → Completes (.powerFail t) s fun s' =>
      s'.life.powered = false ∧ s'.life.cause = 6 ∧ s'.rd F.PWR_DOMAINS_ON 0 = 2 ^ 25 + 2 ^ 23 ∧ s'.power.emFlash = s.power.em ∧
      s'.mem = [] ∧ s'.ts = [] ∧ s'.imgA = Image.empty ∧ s'.imgB = Image.empty) ∧
    (∀ q : BitVec 8,
      (176 ≤ q.toNat → q.toNat ≤ 240 → Completes (.inputRangeChange t q) s fun s' =>
        Sets [(F.PWR_STATUS_INPUT_V, 0, q.toNat)] s s' ∧
        s' = { v with fv := s'.fv, power := { s.power with inputOk := true }, life := { s.life with absentFrom := none } }) ∧
      ((q.toNat < 176 ∨ 240 < q.toNat) → Completes (.inputRangeChange t q) s fun s' =>
        s'.rd F.PWR_STATUS_INPUT_V 0 = q.toNat ∧ s'.rd F.ATT_PENDING_INPUT 0 = 1 ∧ s'.power.inputOk = false)) ∧
    (s.life.powered = true → s.rd F.THM_STATUS_CLAMPED 0 = 0 → Completes (.inputOverpower t) s fun s' => ClampCalled v s' 4 0) ∧
    (∀ p : PierIx,
      (v.sparePhases p false ≠ 0 → Completes (.phaseFail t false p) s fun s' => s' = { v with fpPend := s.fpPend ++ [⟨2, p.val, 9, 0, v.now⟩] }) ∧
      (v.sparePhases p true ≠ 0 → Completes (.phaseFail t true p) s fun s' => s' = { v with fpPend := s.fpPend ++ [⟨2, 8 + p.val, 9, 0, v.now⟩] }) ∧
      (v.sparePhases p false = 0 → 1 ≤ s.rd F.PWR_RAIL_PHASES_COMPUTE p → s.rd F.PWR_RAIL_PHASES_COMPUTE p ≤ 16 →
        Completes (.phaseFail t false p) s fun s' =>
          Sets [(F.PWR_RAIL_PHASES_COMPUTE, p.val, s.rd F.PWR_RAIL_PHASES_COMPUTE p - 1),
            (F.PWR_RAIL_LIMIT_W, p.val, 30 * (s.rd F.PWR_RAIL_PHASES_COMPUTE p - 1)), (F.ATT_PENDING_PHASE, 0, 1)] s s')) ∧
    (s.life.wait = none → Completes (.coolantPressureAssert t) s fun s' =>
      Sets [(F.THM_STATUS_PRESSURE, 0, 1)] s s' ∧ s' = { v with fv := s'.fv, life := { s.life with pressureAt := v.now } }) ∧
    (Completes (.coolantPressureDeassert t) s fun s' =>
      Sets [(F.THM_STATUS_PRESSURE, 0, 0)] s s' ∧ s' = { v with fv := s'.fv, life := { s.life with pressureAt := v.now } }) ∧
    (s.rd F.SYS_BOOT_STATUS_STAGE 0 = 0xA → s.rd F.THM_STATUS_PRESSURE 0 = 0 →
      (s.life.pressureAt + 4000000 ≤ v.now → s.rd F.THM_STATUS_CLAMPED 0 = 0 →
        Completes (.pressureClampTimeout t) s fun s' => ClampCalled v s' 3 0) ∧
      (s.life.pressureAt + 800000000 ≤ v.now → s.rd F.THM_STATUS_SHUTDOWN 0 = 0 →
        Completes (.coolantLossShutdown t) s fun s' =>
          s'.rd F.THM_STATUS_SHUTDOWN 0 = 1 ∧ s'.rd F.SYS_POWER_MOVING 0 = 0 ∧ s'.life.moving = none ∧ s'.life.pendingResets = [] ∧
          (s.rd F.SYS_POWER_STATE 0 < 2 → s'.rd F.SYS_POWER_STATE 0 = 2 ∧ s'.ts = [] ∧ s'.imgA = Image.empty ∧ s'.imgB = Image.empty))) ∧
    (∀ f : Nat, s.power.boostFrom = some f → f + 250000000 ≤ v.beatNow →
      Completes (.boostIntervalEnd t) s fun s' =>
        s'.power.boostFrom = none ∧ s'.power.coolFrom = some s.power.lastHigh ∧ s'.power.peakUsed = 0 ∧ s'.rd F.PWR_STATUS_ENV 0 = 2) ∧
    (s.power.coolFrom ≠ none → s.power.lastHigh + 1000000000 ≤ v.beatNow →
      Completes (.cooldownEnd t) s fun s' =>
        s'.power = { s.power with coolFrom := none } ∧ s'.rd F.PWR_STATUS_ENV 0 = (if s.power.boostFrom.isSome then 1 else 0) ∧
        s' = { v with fv := s'.fv, power := s'.power }) ∧
    (Completes (.tripRecordClear t) s fun s' =>
      Sets [(F.THM_TRIP_VALID, 0, 0), (F.THM_TRIP_SITE, 0, 0), (F.THM_TRIP_READING, 0, 0)] s s' ∧ s' = { v with fv := s'.fv }) ∧
    (∀ c : Nat, s.life.absentFrom = some c → c + 4000000000 ≤ v.now →
      Completes (.tripLatchRelease t) s fun s' => s' = { v with life := { s.life with tripped := false } })

/-- A load starts, ends with the code of the check that fails and changes nothing else, or puts its table in force with its digests; zeroing ends
with the slices 0 (R279, R280, R281, R283, R297, R298, R299, R305). -/
def Obligations.BondLoads : Prop :=
  ∀ (t : Nat) (s : State),
    let v := s.tick t
    let ended (code sec detail : Nat) (s' : State) : Prop :=
      s'.rd F.BND_STATUS_STATE 0 = 0 ∧ s'.rd F.BND_STATUS_RESULT 0 = code % 256 ∧ s'.rd F.BND_STATUS_SECTION 0 = sec % 65536 ∧
      s'.rd F.BND_STATUS_DETAIL 0 = detail % 65536 ∧ s'.rd F.BND_CTL_LOAD 0 = 0 ∧ s'.bond.pend = none
    let kept (s' : State) : Prop := s'.bond.table = s.bond.table ∧ s'.mem = s.mem ∧ s'.ts = s.ts ∧ s'.rd F.BND_STATUS_LOADS 0 = s.rd F.BND_STATUS_LOADS 0
    let inForce (l : List Section) (s' : State) : Prop :=
      s'.bond.table = l ∧ s'.rd F.BND_STATUS_LOADS 0 = satAdd 16 (s.rd F.BND_STATUS_LOADS 0) 1 ∧
      (∀ w < 8, s'.rd F.BND_DIGEST_D w = bitsAt (tabDigest l).toNat (32 * w) 32 ∧ s'.rd F.BND_BUILD_BUILD w = bitsAt (tabBuild l).toNat (32 * w) 32) ∧
      s'.quoin.meas = s.quoin.meas.set 7 (Config.sm3 (digestBytes (s.quoin.meas.getD 7 0) ++ digestBytes (tabDigest l)))
    (s.rd F.BND_STATUS_STATE 0 = 0 → s.power.commission = none →
      Completes (.bondStreamLoad t) s fun s' => Sets [(F.BND_CTL_LOAD, 0, 1), (F.BND_STATUS_STATE, 0, 1)] s s' ∧ s' = { v with fv := s'.fv }) ∧
    (s.rd F.BND_STATUS_STATE 0 = 1 →
      (∀ (n : Nat) (b : Bytes), Completes (.bondStreamRead t (.fault n b)) s fun s' => ended 0x02 0xFFFF 0 s' ∧ kept s') ∧
      (∀ b : Bytes, 64 ≤ fieldAt b 8 4 → fieldAt b 8 4 ≤ 1048576 → fieldAt b 8 4 ≤ b.length → fieldAt b 0 4 ≠ 0x4D534E42 →
        Completes (.bondStreamRead t (.data b)) s fun s' => ended 0x03 0xFFFF 0 s' ∧ kept s') ∧
      (∀ b : Bytes, Completes (.bondStreamRead t (.data b)) s fun s' =>
        (∀ e : BondFail, v.bondFront b = .error e → ended e.code e.sec e.detail s' ∧ kept s') ∧
        (∀ (ps : List Parsed) (l : List Section), v.bondFront b = .ok (ps, l) → ps ≠ [] →
          let p := v.bondPending
          let kind := fieldAt (b.take 64) 14 1
          let keys := ps.map (fun c => (c.2.type, c.2.scope))
          let busy := p.busyTile (if kind = 1 then keys.flatMap (fun k => p.secTiles k.1 k.2) else List.range 104)
          (∀ code ty sc detail, p.validate l = some (code, ty, sc, detail) → ended code (secIndex ps ty sc) detail s' ∧ kept s') ∧
          (∀ x : Nat, p.validate l = none → busy = some x → ended 0x01 0xFFFF x s' ∧ kept s') ∧
          (p.validate l = none → busy = none → zeroTiles l kind keys = [] → ended 0 0xFFFF 0 s' ∧ inForce l s') ∧
          (p.validate l = none → busy = none → zeroTiles l kind keys ≠ [] →
            s'.rd F.BND_STATUS_STATE 0 = 2 ∧ s'.bond.pend = some (l, b.take 64, keys) ∧ kept s')))) ∧
    (∀ (l : List Section) (h : Bytes) (keys : List (Nat × Nat)), s.rd F.BND_STATUS_STATE 0 = 2 → s.bond.pend = some (l, h, keys) →
      Completes (.substZeroingDone t) s fun s' =>
        ended 0 0xFFFF 0 s' ∧ inForce l s' ∧
        ((∀ c ∈ l, c.type ≠ 0x11) → ∀ x ∈ zeroTiles l (fieldAt h 14 1) keys, ∀ a < 2 ^ 33, s'.memByte (sliceBase x + a) = 0))

/-- Pairing agrees or refuses, heartbeats are sent and missed, loss is declared, the restore resumes after the last commit (log entry 110), and
back-fill and release move the state on (R411, R423, R424, R425, R426, R428, R429). -/
def Obligations.TwinPair : Prop :=
  ∀ (t : Nat) (s : State),
    let v := s.tick t
    let st := s.rd F.TWN_STATUS_STATE 0
    let lost (s' : State) : Prop :=
      s'.rd F.TWN_STATUS_STATE 0 = 4 ∧ s'.rd F.ATT_PENDING_PARTNER_LOST 0 = 1 ∧ s'.rd F.TWN_TAKEOVER_LOST_BEAT 0 = v.beatNow % 2 ^ 32 ∧
      s'.rd F.TWN_CTL_TAKEOVER 0 = 0 ∧ s'.rd F.TWN_COUNT_TAKEOVERS 0 = satAdd F.TWN_COUNT_TAKEOVERS.w (s.rd F.TWN_COUNT_TAKEOVERS 0) 1 ∧
      s'.twin.lostAt = some v.beatNow ∧ s'.twin.rxBad = true ∧ s'.mem = s.mem ∧ s'.ts = s.ts
    (∀ r : PairRec, v.mirrorPorts.any v.mirrorUp = true → (v.twinRec.map (fun b => fieldAt b 8 8)).getD 0 = r.ident.toNat →
      Completes (.pairingRecord t r) s fun s' =>
        (v.pairReason r ≠ 0 →
          s'.rd F.TWN_STATUS_STATE 0 = 10 ∧ s'.rd F.TWN_STATUS_REFUSE_REASON 0 = v.pairReason r ∧
          s'.rd F.TWN_COUNT_REFUSALS 0 = satAdd F.TWN_COUNT_REFUSALS.w (s.rd F.TWN_COUNT_REFUSALS 0) 1 ∧ s'.twin = Twin.idle) ∧
        (v.pairReason r = 0 → v.paired = false →
          Sets [(F.TWN_STATUS_STATE, 0, 2), (F.TWN_STATUS_REFUSE_REASON, 0, 0), (F.TWN_STATUS_RESYNC, 0, 1), (F.TWN_STATUS_SILENT, 0, 0),
            (F.TWN_STATUS_PARTNER_STATE, 0, 0)] s s' ∧
          s'.twin = { Twin.idle with walk := true, peer := some (r, v.pairRec), hbLast := v.beatNow } ∧ s' = { v with fv := s'.fv, twin := s'.twin })) ∧
    (∀ q : Nat, v.beatNow % 256 = 0 → v.paired = true → v.mirrorPorts.filter v.mirrorUp = [q] →
      Completes (.mirrorHeartbeatSend t) s fun s' =>
        (s'.port q).mirror = (s.port q).mirror ++ recordCells (leBytes 1 1 ++ leBytes 1 0 ++ leBytes 1 0 ++ leBytes 1 0 ++ leBytes 4 16 ++
          leBytes 4 (v.img v.activeSlot).sched ++ leBytes 4 s.twin.seq ++ leBytes 8 0 ++ leBytes 4 s.twin.epoch ++ leBytes 4 0 ++ v.heartbeat) ∧
        s'.twin = { s.twin with seq := (s.twin.seq + 1) % 2 ^ 32, hbDue := some v.beatNow, hbGated := s.beat.gated, hbCounted := false } ∧
        KeepsPorts q s s' ∧ s' = { v with ports := s'.ports, twin := s'.twin }) ∧
    (∀ b : Nat, s.twin.hbDue = some b → v.frozen = false → b + 128 + (s.beat.gated - s.twin.hbGated) / 32 ≤ v.beatNow → s.twin.hbLast < b →
      s.twin.hbCounted = false → v.paired = true →
      (s.twin.hbMissed < 2 → Completes (.heartbeatMissed t) s fun s' =>
        s'.twin = { s.twin with hbMissed := s.twin.hbMissed + 1, hbCounted := true } ∧
        Sets [(F.TWN_COUNT_HB_MISSED, 0, satAdd F.TWN_COUNT_HB_MISSED.w (s.rd F.TWN_COUNT_HB_MISSED 0) 1)] s s' ∧
        s' = { v with fv := s'.fv, twin := s'.twin }) ∧
      (2 ≤ s.twin.hbMissed → v.mirrorPorts.any v.mirrorUp = false → (st = 2 ∨ st = 3) → Completes (.heartbeatMissed t) s lost) ∧
      (2 ≤ s.twin.hbMissed → v.mirrorPorts.any v.mirrorUp = true → Completes (.heartbeatMissed t) s fun s' =>
        s'.rd F.TWN_STATUS_STATE 0 = st ∧ s'.rd F.TWN_STATUS_SILENT 0 = 1 ∧ s'.rd F.ATT_PENDING_MIRROR_LAG 0 = 1)) ∧
    ((st = 2 ∨ st = 3) → Completes (.takeover t) s lost) ∧
    (st = 4 → v.frozen = false →
      (s.imgB.loaded = false → Completes (.takeoverRestoreDone t) s fun s' => s'.rd F.TWN_STATUS_STATE 0 = 9 ∧ s'.twin.undo = []) ∧
      (s.imgB.loaded = true → (fieldAt s.imgB.header 14 1).testBit 0 = true → s.twin.hasCommit = true → s.twin.partnerResync = false →
        Completes (.takeoverRestoreDone t) s fun s' =>
          s'.rd F.TWN_STATUS_STATE 0 = 5 ∧ s'.rd F.ATT_PENDING_DOUBLE_DUTY 0 = 1 ∧
          s'.rd F.TWN_TAKEOVER_RESUME_FRAME 0 = (s.twin.frame + 1) % 2 ^ 32 ∧ s'.twin.undo = [] ∧
          s'.imgB = { s.imgB with
            sched := (s.twin.frame + 1) % 2 ^ 32, resume := some ((s.twin.frame + 1) % 2 ^ 32), startAt := some v.frameNow, ran := false } ∧
          s'.imgA = s.imgA)) ∧
    ((st = 2 ∨ st = 3) → Completes (.backfill t) s fun s' =>
      Sets [(F.TWN_STATUS_STATE, 0, 7), (F.ATT_PENDING_DOUBLE_DUTY, 0, 1), (F.TWN_CTL_BACKFILL, 0, 1)] s s' ∧
      s' = { v with fv := s'.fv, twin := { s.twin with sent := [] } }) ∧
    (st = 7 → v.mirrorPort ≠ none → (v.computeTiles.foldl State.passTile (v, 0)).2 ≤ 512 →
      Completes (.backfillPass t) s fun s' => s'.rd F.TWN_STATUS_STATE 0 = 8 ∧ s'.mem = s.mem ∧ s'.ts = s.ts) ∧
    (st = 5 → Completes (.twinRelease t) s fun s' =>
      Sets [(F.TWN_STATUS_STATE, 0, 1)] s s' ∧ s' = { v with fv := s'.fv, imgB := { s.imgB with startAt := none } }) ∧
    ((st = 6 ∨ st = 7 ∨ st = 8) → v.slotBRuns = true → Completes (.twinRelease t) s fun s' =>
      Sets [(F.TWN_CTL_RELEASE, 0, 1)] s s' ∧ s' = { v with fv := s'.fv })

/-- A record in order is taken: its data reach their place with the old bytes logged, END commits, VOID rolls back, HANDOVER arms slot A (log entry
110) (R414, R416, R417, R419, R420, R421, R428). -/
def Obligations.MirrorRecords : Prop :=
  ∀ (t : Nat) (q : PortIx) (r : Bytes) (s : State),
    let v := s.tick t
    let d := mirrorData r
    let taken (c : Instr) (kind : Nat) (p : State → Prop) : Prop :=
      fieldAt r 0 1 = kind → Completes c s fun s' => s'.twin.rxSeq = (s.twin.rxSeq + 1) % 2 ^ 32 ∧ p s'
    v.mirrorPorts.contains q.val = true → v.mirrorUp q = true → v.paired = true → mirrorSound r = true → fieldAt r 12 4 = s.twin.rxSeq →
    s.twin.late = [] → s.twin.rxBad = false →
    (taken (.mirrorHeartbeat t q r) 1 fun s' =>
      s'.twin.hbLast = v.beatNow ∧ s'.twin.hbMissed = 0 ∧ s'.rd F.TWN_STATUS_SILENT 0 = 0 ∧
      s'.rd F.TWN_STATUS_PARTNER_STATE 0 = fieldAt d 0 1 % 16 ∧
      s'.twin.unacked = s.twin.unacked.filter (fun u => !decide ((fieldAt d 12 4 + 2 ^ 32 - u.1) % 2 ^ 32 < 2 ^ 31)) ∧ s'.mem = s.mem) ∧
    (∀ e ∈ [(2, Instr.mirrorPage t q r), (3, .mirrorPte t q r), (4, .mirrorLte t q r), (5, .mirrorContext t q r), (6, .mirrorCarry t q r)],
      ∀ x : Nat, v.tileOfLogical (fieldAt r 2 1) = some x → fieldAt r 1 1 = 0 →
      let g := mirrorTarget v e.1 x r
      (∀ l, g.1 / 64 ≤ l → l ≤ (g.1 + d.length) / 64 → Tab.get 0 s.badLines l ≠ 1) → s.twin.undo.any (fun u => u.addr == g.1) = false →
      (g.2 = true → s.twin.undoBytes + d.length + 16 ≤ v.undoRoom) →
      taken e.2 e.1 fun s' =>
        (∀ k < d.length, s'.memByte (g.1 + k) = d.getD k 0) ∧
        (∀ b, (b < g.1 ∨ g.1 + d.length ≤ b) → s'.memByte b = s.memByte b) ∧
        s'.twin.undo = (if g.2 then ⟨g.1, s.memRead g.1 d.length⟩ :: s.twin.undo else s.twin.undo) ∧ s'.ts = s.ts ∧ s'.fv = s.fv) ∧
    (∀ e ∈ [(3, Instr.mirrorPte t q r), (4, .mirrorLte t q r)], ∀ x : Nat, v.tileOfLogical (fieldAt r 2 1) = some x → fieldAt r 1 1 = 1 →
      let i := fieldAt r 16 8 % 2 ^ 20
      let a := if e.1 = 3 then v.ptAt x (fieldAt r 3 1) i else v.ltAt x (fieldAt r 3 1) i
      goodRows s x a d.length →
      taken e.2 e.1 fun s' =>
        (∀ k < d.length, s'.tsByte x (a + k) = d.getD k 0) ∧ (∀ y b, outside x a d.length y b → s'.tsByte y b = s.tsByte y b) ∧ s'.mem = s.mem) ∧
    (taken (.mirrorEnd t q r) 7 fun s' =>
      s'.twin.bank = 1 - s.twin.bank ∧ s'.twin.undo = [] ∧ s'.twin.hasCommit = true ∧ s'.twin.partnerResync = false ∧
      s'.twin.frame = (fieldAt r 8 4 + (2 ^ 32 - 1)) % 2 ^ 32 ∧ s'.rd F.TWN_STATUS_EPOCH 0 = fieldAt r 24 4 % 2 ^ F.TWN_STATUS_EPOCH.w ∧
      s'.rd F.TWN_MIRROR_COMMITS 0 = (s.rd F.TWN_MIRROR_COMMITS 0 + 1) % 2 ^ F.TWN_MIRROR_COMMITS.w ∧
      s'.rd F.TWN_STATUS_STATE 0 = (if s.rd F.TWN_STATUS_STATE 0 = 2 then 3 else s.rd F.TWN_STATUS_STATE 0) ∧ s'.ts = s.ts) ∧
    (s.twin.undo = [] → taken (.mirrorVoid t q r) 8 fun s' =>
      s'.twin.undo = [] ∧ s'.twin.partnerResync = true ∧ s'.twin.rxBad = false ∧
      Sets [(F.TWN_MIRROR_VOIDS, 0, satAdd F.TWN_MIRROR_VOIDS.w (s.rd F.TWN_MIRROR_VOIDS 0) 1)] s s' ∧ s'.mem = s.mem ∧ s'.ts = s.ts) ∧
    (∀ u : Undo, s.twin.undo = [u] → (∀ l, u.addr / 64 ≤ l → l ≤ (u.addr + u.old.length) / 64 → Tab.get 0 s.badLines l ≠ 1) →
      taken (.mirrorVoid t q r) 8 fun s' =>
        s'.twin.undo = [] ∧ (∀ k < u.old.length, s'.memByte (u.addr + k) = u.old.getD k 0) ∧
        (∀ b, (b < u.addr ∨ u.addr + u.old.length ≤ b) → s'.memByte b = s.memByte b)) ∧
    (taken (.mirrorHandover t q r) 9 fun s' =>
      s'.imgA = { s.imgA with sched := fieldAt d 0 4, resume := some (fieldAt d 0 4), startAt := some (v.frameNow + 1) } ∧
      Sets [(F.ATT_PENDING_REJOINED, 0, 1), (F.TWN_COUNT_REJOINS, 0, satAdd F.TWN_COUNT_REJOINS.w (s.rd F.TWN_COUNT_REJOINS 0) 1)] s s' ∧
      s'.mem = s.mem ∧ s'.ts = s.ts)

/-- LENGTH 0 ends at once with OK, a write while BUSY is recorded, a key package that passes loads its slot and one that fails changes nothing,
EVICT_KEY frees one, EXTEND extends registers 12 to 15, and UNSEAL leaves zeros (log entries 114, 115) (R442, R448, R451, R455, R456). -/
def Obligations.QuoinKeys : Prop :=
  ∀ (t : Nat) (s : State),
    let v := s.tick t
    (∀ c ∈ quoCommands t,
      (s.rd F.QUO_CMD_STATUS_BUSY 0 ≠ 1 → Completes c s fun s' => QuoEnds s s' 0x00 0 [] ∧ s' = { v with fv := s'.fv }) ∧
      (s.rd F.QUO_CMD_STATUS_BUSY 0 = 1 → Completes c s fun s' =>
        KeepsRegs (scbFlds.map (fun f => (f, 0))) s s' ∧ s' = { v with fv := s'.fv, scb := s'.scb })) ∧
    (s.rd F.QUO_CMD_STATUS_BUSY 0 ≠ 1 →
      (∀ (b : Bytes) (k : BitVec 512), s.quoin.owner = some k → s.rd F.QUO_DEBUG_SCOPE 0 = 0 → b.length = 224 →
        fieldAt b 0 4 = 0x594B5150 → fieldAt b 4 4 = 0x00010000 → fieldAt b 20 2 ≤ 63 → fieldAt b 22 10 = 0 → fieldAt b 145 15 = 0 →
        fieldAt b 8 8 ≠ 0 → fieldAt b 8 8 = s.rd F.QUO_IDENT_IDENT 0 → fieldAt b 16 4 = s.rd F.QUO_OWNER_EPOCH 0 → s.front.subs = [] →
        Completes (.loadKey t 224 (.data b)) s fun s' =>
          (Config.sm2Verify k (Config.sm3 (b.take 160)) (beAt b 160) = false →
            QuoEnds s s' 0x02 160 [] ∧ s' = { v with fv := s'.fv }) ∧
          (∀ dek : BitVec 128, Config.sm2Verify k (Config.sm3 (b.take 160)) (beAt b 160) = true →
            Config.sm2Unwrap Config.encryptionKey ((b.drop 32).take 113) = some dek →
            let m := extended s 10 (Config.sm3 b)
            QuoEnds s s' 0x00 0 ([(F.QUO_KEYS_LOADED, 0, putBits (s.rd F.QUO_KEYS_LOADED 0) (fieldAt b 20 2) 1 1)] ++ measShown 10 m) ∧
            s' = { v with fv := s'.fv, quoin := { s.quoin with
              keys := Tab.put 0 s.quoin.keys (fieldAt b 20 2) dek, meas := s.quoin.meas.set 10 m } })) ∧
      (∀ b : Bytes, s.quoin.owner = none → s.rd F.QUO_DEBUG_SCOPE 0 = 0 → b.length = 224 → fieldAt b 0 4 = 0x594B5150 →
        fieldAt b 4 4 = 0x00010000 → fieldAt b 20 2 ≤ 63 → fieldAt b 22 10 = 0 → fieldAt b 145 15 = 0 →
        Completes (.loadKey t 224 (.data b)) s fun s' => QuoEnds s s' 0x05 0 [] ∧ s' = { v with fv := s'.fv }) ∧
      (∀ slot : BitVec 6, s.front.subs = [] →
        Completes (.evictKey t slot) s fun s' =>
          QuoEnds s s' 0x00 0 [(F.QUO_KEYS_LOADED, 0, putBits (s.rd F.QUO_KEYS_LOADED 0) slot.toNat 1 0)] ∧
          s' = { v with fv := s'.fv, quoin := { s.quoin with keys := Tab.drop s.quoin.keys slot.toNat } }) ∧
      (∀ (reg : BitVec 6) (b : Bytes), b.length = 32 →
        ((reg.toNat < 12 ∨ 15 < reg.toNat) →
          Completes (.quoExtend t 32 reg (.data b)) s fun s' => QuoEnds s s' 0x05 0 [] ∧ s' = { v with fv := s'.fv }) ∧
        (12 ≤ reg.toNat → reg.toNat ≤ 15 →
          let m := extended s reg.toNat (BitVec.ofNat 256 (leVal b))
          Completes (.quoExtend t 32 reg (.data b)) s fun s' =>
            QuoEnds s s' 0x00 0 (measShown reg.toNat m) ∧
            s' = { v with fv := s'.fv, quoin := { s.quoin with meas := s.quoin.meas.set reg.toNat m } })) ∧
      (∀ n : Nat,
        (n % 2 ^ 32 = 0 → Completes (.quoUnseal t n) s fun s' => QuoEnds s s' 0x00 0 [] ∧ s' = { v with fv := s'.fv }) ∧
        (n % 2 ^ 32 ≠ 0 → Completes (.quoUnseal t n) s fun s' =>
          Sets [(F.QUO_CMD_STATUS_BUSY, 0, 1), (F.QUO_SEAL_ZEROING, 0, 1)] s s' ∧
          s' = { v with fv := s'.fv, quoin := { s.quoin with zeroing := some (granuleOf (s.rd F.QUO_CMD_ADDR_ADDR 0), n % 2 ^ 32) } }))) ∧
    (∀ g n : Nat, s.quoin.zeroing = some (g, n) →
      Completes (.unsealDone t) s fun s' =>
        (∀ a, s'.memByte a = if g ≤ a / 2 ^ 21 ∧ a / 2 ^ 21 < g + n then 0 else s.memByte a) ∧ s'.ts = s.ts ∧
        s'.quoin = { s.quoin with zeroing := none, granules := s.quoin.granules.filter (fun k => decide (k < g) || decide (g + n ≤ k)) } ∧
        QuoEnds s s' 0x00 0 [(F.QUO_CMD_STATUS_BUSY, 0, 0), (F.QUO_SEAL_ZEROING, 0, 0),
          (F.QUO_SEAL_GRANULES, 0, s'.quoin.granules.length % 2 ^ 20),
          (F.QUO_STATUS_SEALED_ANY, 0, if s'.quoin.granules = [] then 0 else 1)])

/-- ENROL, RELEASE, DEBUG_NONCE, DEBUG_OPEN, DEBUG_CLOSE, FW_STAGE and COMMIT_SVN end with the code their checks give and change exactly what their
rules name (log entries 114, 115, 117) (R438, R439, R440, R441, R454, R455, R456). -/
def Obligations.QuoinOwnership : Prop :=
  ∀ (t : Nat) (s : State),
    let v := s.tick t
    s.rd F.QUO_CMD_STATUS_BUSY 0 ≠ 1 →
    (∀ b : Bytes, b.length = 128 →
      let d := Config.sm3 (b.take 64 ++ leBytes 8 (s.rd F.QUO_IDENT_IDENT 0))
      (s.quoin.owner ≠ none → Completes (.enrol t 128 (.data b)) s fun s' => QuoEnds s s' 0x05 0 [] ∧ s' = { v with fv := s'.fv }) ∧
      (s.quoin.owner = none → (∀ q < 16, (s.port q).noSession = false) →
        Completes (.enrol t 128 (.data b)) s fun s' =>
          (Config.sm2Verify (beAt b 0) d (beAt b 64) = false → QuoEnds s s' 0x02 64 [] ∧ s' = { v with fv := s'.fv }) ∧
          (Config.sm2Verify (beAt b 0) d (beAt b 64) = true →
            let m := extended s 4 (Config.sm3 (b.take 64 ++ leBytes 4 (s.rd F.QUO_OWNER_EPOCH 0)))
            QuoEnds s s' 0x00 0 ([(F.QUO_STATUS_OWNED, 0, 1),
              (F.QUO_OWNER_OWNER_DIGEST, 0, (Config.sm3 (beBytes 64 (beAt b 0).toNat)).toNat % 2 ^ 48)] ++ measShown 4 m) ∧
            s' = { v with fv := s'.fv, quoin := { s.quoin with owner := some (beAt b 0), meas := s.quoin.meas.set 4 m } }))) ∧
    (∀ (b : Bytes) (boot : Boot) (f : FwImage), b.length = 80 → fieldAt b 0 4 = 0x4C455252 →
      (s.quoin.owner = none →
        Completes (.quoRelease t 80 (.data b) boot) s fun s' => QuoEnds s s' 0x05 0 [] ∧ s' = { v with fv := s'.fv }) ∧
      (s.quoin.owner ≠ none → fieldAt b 8 8 = s.rd F.QUO_IDENT_IDENT 0 → fieldAt b 4 4 = s.rd F.QUO_OWNER_EPOCH 0 →
        let signed := Config.sm2Verify Config.serviceKey (Config.sm3 (b.take 16)) (beAt b 16)
        (s.rd F.QUO_KEYS_LOADED 0 ≠ 0 → Completes (.quoRelease t 80 (.data b) boot) s fun s' =>
          QuoEnds s s' (if signed then 0x07 else 0x02) (if signed then 0 else 16) [] ∧ s' = { v with fv := s'.fv }) ∧
        (s.rd F.QUO_KEYS_LOADED 0 = 0 → s.quoin.granules = [] → s.rd F.QUO_OWNER_EPOCH 0 < 32 → s.life.powered = true →
          boot.imageA = some f → s.life.staged = none → s.rd F.QUO_FW_SVN_FUSED 0 ≤ f.svn → boot.controller = true → boot.badDies = [] →
          s.life.badDies = [] → steppingBad boot.steppings = none → boot.facts = [] → boot.units = [] → s.rd F.THM_STATUS_PRESSURE 0 = 1 →
          Completes (.quoRelease t 80 (.data b) boot) s fun s' =>
            (signed = false → QuoEnds s s' 0x02 16 [] ∧ s' = { v with fv := s'.fv }) ∧
            (signed = true →
              s'.quoin.owner = none ∧ s'.rd F.QUO_OWNER_EPOCH 0 = s.rd F.QUO_OWNER_EPOCH 0 + 1 ∧ s'.rd F.BND_FLOOR_FLOOR 0 = 0 ∧
              s'.rd F.SYS_RESET_STATUS_LAST_KIND 0 = 4 ∧ s'.rd F.SYS_RESET_STATUS_LAST_CAUSE 0 = 1 ∧
              s'.rd F.SYS_BOOT_STATUS_STAGE 0 = 0xA)))) ∧
    (s.rd F.QUO_STATUS_TRNG_OK 0 ≠ 0 →
      let n := (Config.trng s.quoin.draws).toNat % 2 ^ 128
      Completes (.debugNonce t) s fun s' =>
        QuoEnds s s' 0x00 0 (nonceShown n) ∧
        s' = { v with fv := s'.fv, quoin := { s.quoin with draws := s.quoin.draws + 1, nonceOk := true } }) ∧
    (s.rd F.QUO_STATUS_TRNG_OK 0 = 0 →
      Completes (.debugNonce t) s fun s' => QuoEnds s s' 0x0B 0 [] ∧ s' = { v with fv := s'.fv }) ∧
    (∀ (b : Bytes) (k : BitVec 512), b.length = 192 → fieldAt b 0 4 = 0x47424450 → fieldAt b 4 4 = 0x00010000 → fieldAt b 32 4 < 16 →
      fieldAt b 40 24 = 0 → s.quoin.owner = some k → fieldAt b 8 8 = s.rd F.QUO_IDENT_IDENT 0 → s.quoin.nonceOk = true →
      fieldAt b 36 4 = s.rd F.QUO_OWNER_EPOCH 0 →
      (fieldAt b 16 16 ≠ v.nonce → Completes (.debugOpen t 192 (.data b)) s fun s' =>
        QuoEnds s s' 0x08 16 (nonceShown 0) ∧ s' = { v with fv := s'.fv, quoin := { s.quoin with nonceOk := false } }) ∧
      (fieldAt b 16 16 = v.nonce → s.rd F.QUO_KEYS_LOADED 0 = 0 → s.quoin.granules = [] →
        let scope := s.rd F.QUO_DEBUG_SCOPE 0 ||| fieldAt b 32 4
        Completes (.debugOpen t 192 (.data b)) s fun s' =>
          (∀ w < 4, s'.rd F.QUO_NONCE_NONCE w = 0) ∧ s'.quoin.nonceOk = false ∧
          (Config.sm2Verify k (Config.sm3 (b.take 64)) (beAt b 64) = false →
            QuoEnds s s' 0x02 64 (nonceShown 0) ∧ s' = { v with fv := s'.fv, quoin := { s.quoin with nonceOk := false } }) ∧
          (Config.sm2Verify k (Config.sm3 (b.take 64)) (beAt b 64) = true →
            Config.sm2Verify Config.serviceKey (Config.sm3 (b.take 128)) (beAt b 128) = true →
            s'.quoin = { s.quoin with nonceOk := false, meas := s.quoin.meas.set 5 (extended s 5 (Config.sm3 b)) } ∧
            s'.rd F.QUO_CMD_STATUS_RESULT 0 = 0x00 ∧ s'.rd F.QUO_DEBUG_SCOPE 0 = scope ∧
            s'.rd F.QUO_DEBUG_OPENINGS 0 = satAdd 16 (s.rd F.QUO_DEBUG_OPENINGS 0) 1 ∧
            s'.rd F.QUO_STATUS_DEBUG_OPEN 0 = (if scope = 0 then 0 else 1) ∧
            s' = { v with fv := s'.fv, scb := s'.scb, quoin := s'.quoin }))) ∧
    (Completes (.debugClose t) s fun s' =>
      QuoEnds s s' 0x00 0 [(F.QUO_DEBUG_SCOPE, 0, 0), (F.QUO_STATUS_DEBUG_OPEN, 0, 0)] ∧ s' = { v with fv := s'.fv }) ∧
    (∀ b : Bytes, 128 ≤ b.length → fieldAt b 0 4 = 0x57465850 → fieldAt b 4 4 = 0x00010000 → fieldAt b 10 2 ≤ 64 →
      fieldAt b 12 4 ≤ 2 ^ 26 → fieldAt b 12 4 + 128 = b.length → fieldAt b 48 16 = 0 → s.rd F.QUO_FW_SVN_FUSED 0 ≤ fieldAt b 10 2 →
      Completes (.fwStage t b.length (.data b)) s fun s' =>
        (Config.sm3 (b.drop 128) ≠ BitVec.ofNat 256 (fieldAt b 16 32) → QuoEnds s s' 0x02 16 [] ∧ s' = { v with fv := s'.fv }) ∧
        (Config.sm3 (b.drop 128) = BitVec.ofNat 256 (fieldAt b 16 32) →
          Config.sm2Verify Config.firmwareKey (Config.sm3 (b.take 64)) (beAt b 64) = true →
          s'.life.imageB = s.life.staged ∧ s'.rd F.QUO_CMD_STATUS_RESULT 0 = 0x00 ∧
          s'.life.staged.map (fun f => (f.version.toNat, f.svn)) = some (fieldAt b 8 2, fieldAt b 10 2) ∧
          s' = { v with fv := s'.fv, life := { s.life with imageB := s'.life.imageB, staged := s'.life.staged } })) ∧
    ((s.rd F.SYS_FW_IMAGE 0 = 1 ∨ s.rd F.QUO_FW_SVN_RUNNING 0 ≤ s.rd F.QUO_FW_SVN_FUSED 0) →
      Completes (.commitSvn t) s fun s' => QuoEnds s s' 0x0A 0 [] ∧ s' = { v with fv := s'.fv }) ∧
    (s.rd F.SYS_FW_IMAGE 0 ≠ 1 → s.rd F.QUO_FW_SVN_FUSED 0 < s.rd F.QUO_FW_SVN_RUNNING 0 → s.quoin.raisesLeft ≠ 0 →
      Completes (.commitSvn t) s fun s' =>
        QuoEnds s s' 0x00 0 [(F.QUO_FW_SVN_FUSED, 0, s.rd F.QUO_FW_SVN_RUNNING 0 % 2 ^ 16)] ∧
        s' = { v with fv := s'.fv, quoin := { s.quoin with raisesLeft := s.quoin.raisesLeft - 1 } }) ∧
    (Completes (.trngHealthFail t) s fun s' => Sets [(F.QUO_STATUS_TRNG_OK, 0, 0)] s s' ∧ s' = { v with fv := s'.fv })

/-- Requests are answered Busy, with an error, or with their response, in the order version, capabilities, algorithms, digests and certificates
(log entry 49) (R443, R444). -/
def Obligations.SpdmNegotiation : Prop :=
  ∀ (t : Nat) (tr : Transport) (req : Bytes) (s : State),
    let v := s.tick t
    let one (c : Instr) (b : Bytes) : Prop := Completes c s fun s' => Says s s' tr b ∧ s' = { v with out := s'.out }
    (s.life.powered = true → s.rd F.SYS_BOOT_STATUS_STAGE 0 = 0 → ∀ e ∈ spdmRequests, one (e.1 t tr req) (spdmError 0x03 0)) ∧
    (s.life.powered = true → v.spdmUp = true →
      (one (.spdmUnsupportedRequest t tr req) (spdmError 0x07 (fieldAt req 1 1))) ∧
      (∀ e ∈ spdmRequests,
        (fieldAt req 0 1 ≠ 0x12 → one (e.1 t tr req) (spdmError 0x41 0)) ∧
        (fieldAt req 0 1 = 0x12 → (s.conn tr).phase ≠ e.2.1 → one (e.1 t tr req) (spdmError 0x04 0)) ∧
        (fieldAt req 0 1 = 0x12 → (s.conn tr).phase = e.2.1 → req.length < e.2.2 → one (e.1 t tr req) (spdmError 0x01 0))) ∧
      (Completes (.getVersion t tr req) s fun s' =>
        Says s s' tr [0x10, 0x04, 0, 0, 0, 1, 0x00, 0x12] ∧ (s'.conn tr).phase = 1 ∧
        s'.quoin.sessions = s.quoin.sessions.filter (fun g => g.tr != tr) ∧
        Sets [(F.QUO_STATUS_SESSIONS, 0, s'.quoin.sessions.length % 8)] s s' ∧
        s' = { v with fv := s'.fv, out := s'.out, quoin := { s.quoin with
          sessions := s'.quoin.sessions, conns := s'.quoin.conns, deferred := s.quoin.deferred.filter (fun d => d.tr != tr) } }) ∧
      (fieldAt req 0 1 = 0x12 →
        let conns (s' : State) : Prop := s' = { v with out := s'.out, quoin := { s.quoin with conns := s'.quoin.conns } }
        (20 ≤ req.length → (s.conn tr).phase = 1 →
          Completes (.getCapabilities t tr req) s fun s' =>
            (∃ b, Says s s' tr b ∧ b.take 8 = [0x12, 0x61, 0, 0, 0, 16, 0, 0] ∧ fieldAt b 8 4 = 0x62F6) ∧ (s'.conn tr).phase = 2 ∧ conns s') ∧
        (32 ≤ req.length → (s.conn tr).phase = 2 →
          (algsOffered req = true → Completes (.negotiateAlgorithms t tr req) s fun s' =>
            Says s s' tr algsRsp ∧ (s'.conn tr).phase = 3 ∧ conns s') ∧
          (algsOffered req = false → one (.negotiateAlgorithms t tr req) (spdmError 0x01 0))) ∧
        ((s.conn tr).phase = 3 →
          (4 ≤ req.length → Completes (.getDigests t tr req) s fun s' =>
            Says s s' tr ([0x12, 0x01, 0, 3] ++ s.chainDigest 0 ++ s.chainDigest 1) ∧ conns s') ∧
          (8 ≤ req.length →
            let slot := fieldAt req 2 1 % 16
            let off := fieldAt req 4 2
            Completes (.getCertificate t tr req) s fun s' =>
              ((1 < slot ∨ (s.chain slot).length ≤ off) → Says s s' tr (spdmError 0x01 0)) ∧
              (slot ≤ 1 → off < (s.chain slot).length → ∃ b, Says s s' tr b ∧ fieldAt b 1 1 = 0x02 ∧
                b.drop 8 = ((s.chain slot).drop off).take (fieldAt req 6 2)) ∧ conns s'))))

/-- CHALLENGE, GET_MEASUREMENTS, KEY_EXCHANGE and RESPOND_IF_READY are answered or put off; at most four sessions open (log entry 49) (R443, R444,
R445). -/
def Obligations.SpdmAnswers : Prop :=
  ∀ (t : Nat) (tr : Transport) (req : Bytes) (s : State),
    let v := s.tick t
    let later (s' : State) : Prop :=
      Says s s' tr (spdmError 0x42 0 ++ [16, BitVec.ofNat 8 (fieldAt req 1 1), BitVec.ofNat 8 (s.freeCtr % 256), 1]) ∧
      s'.quoin.deferred = s.quoin.deferred.filter (fun e => e.tr != tr) ++ [⟨tr, s.freeCtr % 256, req⟩]
    let starts (s' : State) (b : Bytes) : Prop := ∃ c, Says s s' tr c ∧ b <+: c
    let defers := Config.spdmDefers s.freeCtr
    s.life.powered = true → v.spdmUp = true → (s.conn tr).phase = 3 → s.rd F.QUO_STATUS_ALIAS_READY 0 ≠ 0 →
    (fieldAt req 0 1 = 0x12 →
      (36 ≤ req.length → fieldAt req 1 1 = 0x83 → fieldAt req 2 1 = 0 →
        Completes (.challenge t tr req) s fun s' =>
          (defers = true → later s') ∧ (defers = false → starts s' ([0x12, 0x03, 0, 3] ++ s.chainDigest 0) ∧ (s'.conn tr).certs = [])) ∧
      (4 ≤ req.length → fieldAt req 1 1 = 0xE0 →
        (fieldAt req 2 1 = 0 → fieldAt req 3 1 = 0 →
          Completes (.getMeasurements t tr req) s fun s' => starts s' [0x12, 0x60, 16, 0, 0, 0, 0, 0]) ∧
        (fieldAt req 2 1 = 0 → 1 ≤ fieldAt req 3 1 → fieldAt req 3 1 ≤ 16 →
          Completes (.getMeasurements t tr req) s fun s' =>
            starts s' ([0x12, 0x60, 0, 0, 1] ++ leBytes 3 39 ++ s.measBlock (fieldAt req 3 1 - 1))) ∧
        (fieldAt req 2 1 = 1 → 37 ≤ req.length → fieldAt req 3 1 = 0xFF → fieldAt req 36 1 = 0 →
          Completes (.getMeasurements t tr req) s fun s' =>
            (defers = true → later s') ∧
            (defers = false → starts s' ([0x12, 0x60, 0, 0, 16] ++ leBytes 3 624 ++ (List.range 16).flatMap s.measBlock) ∧
              (s'.conn tr).meas = []))) ∧
      (106 ≤ req.length → fieldAt req 1 1 = 0xE4 → fieldAt req 3 1 = 0 →
        (4 ≤ s.quoin.sessions.length → Completes (.keyExchange t tr req) s fun s' =>
          (defers = true → later s') ∧ (defers = false → Says s s' tr (spdmError 0x0A 0) ∧ s'.quoin = s.quoin)) ∧
        (s.quoin.sessions.length < 4 → Completes (.keyExchange t tr req) s fun s' =>
          (defers = true → later s') ∧
          (defers = false → starts s' [0x12, 0x64, BitVec.ofNat 8 Config.heartbeatPeriod.toNat, 0] ∧
            s'.rd F.QUO_STATUS_SESSIONS 0 = s.quoin.sessions.length + 1 ∧ s'.quoin.nextSession = s.quoin.nextSession + 1 ∧
            ∃ g : Session, s'.quoin.sessions = s.quoin.sessions ++ [g] ∧ g.tr = tr ∧ g.done = false ∧
              g.id = fieldAt req 4 2 + 65536 * (s.quoin.nextSession % 65536)))) ∧
      (4 ≤ req.length →
        let asked := s.quoin.deferred.find? (fun d => d.tr == tr && fieldAt d.req 1 1 == fieldAt req 2 1 && d.token == fieldAt req 3 1)
        (asked = none → Completes (.respondIfReady t tr req) s fun s' => Says s s' tr (spdmError 0x04 0) ∧ s' = { v with out := s'.out }) ∧
        (∀ d : Deferred, asked = some d → fieldAt d.req 1 1 = 0x83 → fieldAt d.req 2 1 = 0 →
          Completes (.respondIfReady t tr req) s fun s' =>
            starts s' ([0x12, 0x03, 0, 3] ++ s.chainDigest 0) ∧ s'.quoin.deferred = s.quoin.deferred.filter (fun e => e != d))))

/-- FINISH completes a session whose proof holds, and HEARTBEAT, KEY_UPDATE and END_SESSION act on a complete session of their own transport (log
entry 49) (R443, R444). -/
def Obligations.SpdmSessions : Prop :=
  ∀ (t : Nat) (tr : Transport) (req : Bytes) (g : Session) (s : State),
    let v := s.tick t
    let m := req.drop 4
    let changed (s' : State) : Prop :=
      Sets [(F.QUO_STATUS_SESSIONS, 0, s'.quoin.sessions.length % 8)] s s' ∧
      s' = { v with fv := s'.fv, out := s'.out, quoin := { s.quoin with sessions := s'.quoin.sessions } }
    let replaced (h : Session) : List Session := s.quoin.sessions.map (fun e => if e.id == g.id && e.tr == g.tr then h else e)
    s.life.powered = true → v.spdmUp = true → (s.conn tr).phase = 3 → fieldAt m 0 1 = 0x12 → 36 ≤ m.length →
    (s.quoin.sessions.find? (fun e => e.tr == tr && e.id == fieldAt req 0 4) = none →
      ∀ c ∈ [Instr.finish t tr req, .spdmHeartbeat t tr req, .keyUpdate t tr req, .endSession t tr req],
        Completes c s fun s' => Says s s' tr (spdmError 0x02 0) ∧ s' = { v with out := s'.out }) ∧
    (s.quoin.sessions.find? (fun e => e.tr == tr && e.id == fieldAt req 0 4) = some g →
      (g.done = false →
        (∀ c ∈ [Instr.spdmHeartbeat t tr req, .keyUpdate t tr req, .endSession t tr req],
          Completes c s fun s' => Says s s' tr (spdmError 0x04 0) ∧ s' = { v with out := s'.out }) ∧
        Completes (.finish t tr req) s fun s' =>
          let proof := digestBytes (Config.hmac g.key (digestBytes g.th ++ m.take 4))
          ((m.drop 4).take 32 ≠ proof → Says s s' tr (spdmError 0x06 0) ∧ s' = { v with out := s'.out }) ∧
          ((m.drop 4).take 32 = proof → Says s s' tr [0x12, 0x65, 0, 0] ∧ changed s' ∧
            s'.quoin.sessions = replaced { g with done := true, th := Config.sm3 (digestBytes g.th ++ m) })) ∧
      (g.done = true →
        (Completes (.finish t tr req) s fun s' => Says s s' tr (spdmError 0x04 0) ∧ s' = { v with out := s'.out }) ∧
        (Completes (.spdmHeartbeat t tr req) s fun s' => Says s s' tr [0x12, 0x68, 0, 0] ∧ s' = { v with out := s'.out }) ∧
        ((fieldAt m 2 1 = 0 ∨ 3 < fieldAt m 2 1) →
          Completes (.keyUpdate t tr req) s fun s' => Says s s' tr (spdmError 0x01 0) ∧ s' = { v with out := s'.out }) ∧
        (1 ≤ fieldAt m 2 1 → fieldAt m 2 1 ≤ 3 →
          Completes (.keyUpdate t tr req) s fun s' =>
            Says s s' tr (spdmHead 0x69 (fieldAt m 2 1) (fieldAt m 3 1)) ∧ changed s' ∧
            s'.quoin.sessions = replaced { g with
              updReq := g.updReq + (if fieldAt m 2 1 = 3 then 0 else 1), updRsp := g.updRsp + (if fieldAt m 2 1 = 2 then 1 else 0) }) ∧
        Completes (.endSession t tr req) s fun s' =>
          Says s s' tr [0x12, 0x6C, 0, 0] ∧ changed s' ∧ s'.quoin.sessions = s.quoin.sessions.filter (fun e => e != g)))

/-- A FREEZE in the full layout and a clear while frozen are ignored and recorded with code 0x0F0; freeze, thaw, clear, refill and reads of the
area act on the records as their rules say (log entries 119, 121, 122) (R465). -/
def Obligations.ScorebookRecords : Prop :=
  ∀ (t : Nat) (s : State),
    let v := s.tick t
    let frozen := s.rd F.SCB_STATUS_FROZEN 0
    let others (code : Nat) (s' : State) : Prop := ∀ c, c ≠ code → scbLine s' c = scbLine s c
    let cleared (r q : ScbRec) : Prop :=
      q = { ScbRec.empty with unlFirst := r.unlFirst, unlLast := r.unlLast, seq := if r = ScbRec.empty then 0 else (r.seq + 1) % 2 ^ 32 }
    (s.rd F.SCB_STATUS_LAYOUT 0 ≠ 1 → Completes (.scbFreeze t) s fun s' =>
      Sets [(F.SCB_CTL_FREEZE, 0, 1), (F.SCB_STATUS_FROZEN, 0, 1)] s s' ∧ s' = { v with fv := s'.fv }) ∧
    (s.rd F.SCB_STATUS_LAYOUT 0 = 1 → frozen ≠ 1 →
      let r := scbLine s 0x0F0
      let token := decide (Tab.get 0 s.scb.missing 0x0F0 < bitsAt (Tab.get rateDefault s.scb.rates 0x0F0) 16 8) &&
        bitsAt (Tab.get rateDefault s.scb.rates 0x0F0) 0 13 != 0
      Completes (.scbFreeze t) s fun s' =>
        let q := scbLine s' 0x0F0
        q.count = satAdd 32 r.count 1 ∧ q.min = min r.min 1 ∧ q.max = max r.max 1 ∧ (r.count ≠ 0 → q.first = r.first) ∧ others 0x0F0 s' ∧
        (token = true → q.supp = r.supp ∧ q.value = 1 ∧ q.last = v.scbBeat.1 ∧ q.hist = Tab.upd 0 r.hist 0 (fun n => satAdd 32 n 1) ∧
          Tab.get 0 s'.scb.missing 0x0F0 = Tab.get 0 s.scb.missing 0x0F0 + 1) ∧
        (token = false → q.supp = satAdd 32 r.supp 1 ∧ q.value = r.value ∧ q.last = r.last ∧ q.hist = r.hist ∧
          s'.scb.missing = s.scb.missing) ∧
        KeepsRegs [] s s' ∧ s' = { v with scb := s'.scb }) ∧
    (frozen = 1 →
      (s.scb.aside = [] →
        (Completes (.scbThaw t) s fun s' =>
          Sets [(F.SCB_STATUS_FROZEN, 0, 0), (F.SCB_CTL_FREEZE, 0, 0), (F.SCB_STATUS_ASIDE, 0, 0)] s s' ∧ s' = { v with fv := s'.fv }) ∧
        Completes (.scbAutoThaw t) s fun s' =>
          Sets [(F.SCB_STATUS_FROZEN, 0, 0), (F.SCB_CTL_FREEZE, 0, 0), (F.SCB_STATUS_ASIDE, 0, 0), (F.SCB_STATUS_AUTO_THAW, 0, 1)] s s' ∧
          s' = { v with fv := s'.fv }) ∧
      (∀ a : Aside, s.scb.aside = [a] → a.code < 0x400 → a.admitted = true →
        Completes (.scbThaw t) s fun s' =>
          (scbLine s' a.code).count = satAdd 32 (scbLine s a.code).count 1 ∧ (scbLine s' a.code).last = a.beat ∧ others a.code s' ∧
          s'.scb.aside = [] ∧ s'.rd F.SCB_STATUS_FROZEN 0 = 0) ∧
      (∀ c ∈ [Instr.scbClear t, .scbClearAll t],
        (s.scb.aside.length < 1023 → Completes c s fun s' =>
          s'.scb.recs = s.scb.recs ∧ ∃ a : Aside, a.code = 0x0F0 ∧ s'.scb.aside = s.scb.aside ++ [a]) ∧
        (1023 ≤ s.scb.aside.length → Completes c s fun s' =>
          ∃ a : Aside, a.code = 0x0F0 ∧ s'.scb.recs = (State.scbDrain (s.scb.aside ++ [a]) v).scb.recs))) ∧
    (frozen ≠ 1 →
      (∀ c ∈ [Instr.scbThaw t, .scbAutoThaw t], Completes c s fun s' => s' = v) ∧
      (Completes (.scbClear t) s fun s' =>
        let code := s.rd F.SCB_RATE_SEL_CODE 0
        cleared (scbLine s code) (scbLine s' code) ∧
        others code s' ∧ s' = { v with scb := { s.scb with recs := s'.scb.recs } }) ∧
      (Completes (.scbClearAll t) s fun s' =>
        (∀ c, cleared (scbLine s c) (scbLine s' c)) ∧
        s' = { v with scb := { s.scb with recs := s'.scb.recs } })) ∧
    (∀ code : BitVec 12,
      let rate := bitsAt (Tab.get rateDefault s.scb.rates code.toNat) 0 13
      let since := Tab.get (0, 0) s.scb.since code.toNat
      let missing := Tab.get 0 s.scb.missing code.toNat
      let gained := ((v.now - since.1) * rate + since.2) / 4000000000
      (missing = 0 → Completes (.bucketRefill t code) s fun s' => s' = v) ∧
      (missing ≠ 0 → Completes (.bucketRefill t code) s fun s' =>
        Tab.get 0 s'.scb.missing code.toNat = missing - gained ∧
        (gained < missing → Tab.get (0, 0) s'.scb.since code.toNat = (v.now, ((v.now - since.1) * rate + since.2) % 4000000000)) ∧
        s' = { v with scb := { s.scb with missing := s'.scb.missing, since := s'.scb.since } })) ∧
    (∀ code : Nat, s.rd F.SCB_STATUS_LAYOUT 0 = 0 → code < 1024 →
      let r := scbLine s code
      let reads (size off value : Nat) : Prop := Completes (.scbDataRead t size off) s fun s' =>
        s'.out = s.out ++ [.scb value] ∧
        Sets [(F.SCB_CURSOR_OFFSET, 0, s.rd F.SCB_CURSOR_OFFSET 0 + if off = 0 then 8 else 0)] s s' ∧ s' = { v with fv := s'.fv, out := s'.out }
      (s.rd F.SCB_CURSOR_OFFSET 0 = 64 + 96 * code → r.count < 2 ^ 32 → reads 4 4 r.count) ∧
      (s.rd F.SCB_CURSOR_OFFSET 0 = 64 + 96 * code + 8 → r.supp < 2 ^ 32 → reads 8 0 r.supp ∧ reads 4 0 r.supp ∧ reads 4 4 0) ∧
      (s.rd F.SCB_CURSOR_OFFSET 0 = 64 + 96 * code + 16 → r.first < 2 ^ 64 → reads 8 0 r.first)) ∧
    (s.rd F.SCB_STATUS_LAYOUT 0 = 0 → 64 + 96 * 1024 ≤ s.rd F.SCB_CURSOR_OFFSET 0 →
      ∀ size off : Nat, Completes (.scbDataRead t size off) s fun s' => s'.out = s.out ++ [.scb 0] ∧ KeepsRegs [] s s')

/-- A trigger starts a flush or the one after it, and a flush ends with its image in its slot or with FLUSH_FAIL (log entry 120) (R467, R468,
R471). -/
def Obligations.ScorebookFlushes : Prop :=
  ∀ (t : Nat) (s : State),
    let v := s.tick t
    (s.scb.flushing = none →
      (Completes (.flushRequest t) s fun s' =>
        Sets [(F.SCB_CTL_FLUSH, 0, 1), (F.SCB_STATUS_FLUSHING, 0, 1)] s s' ∧ s' = { v with fv := s'.fv, scb := { s.scb with flushing := some 4 } }) ∧
      (s.rd F.SCB_STATUS_FROZEN 0 ≠ 1 → s.scb.flushAt + 2400000000000 ≤ v.now →
        Completes (.flushTimer t) s fun s' =>
          Sets [(F.SCB_STATUS_FLUSHING, 0, 1)] s s' ∧ s' = { v with fv := s'.fv, scb := { s.scb with flushing := some 1 } }) ∧
      ∀ ok : Bool, Completes (.flushComplete t ok) s fun s' => s' = v) ∧
    ((s.rd F.SCB_STATUS_FROZEN 0 = 1 ∨ v.now < s.scb.flushAt + 2400000000000) → Completes (.flushTimer t) s fun s' => s' = v) ∧
    (∀ r : Nat, s.scb.flushing = some r →
      (Completes (.flushRequest t) s fun s' =>
        Sets [(F.SCB_CTL_FLUSH, 0, 1)] s s' ∧ s' = { v with fv := s'.fv, scb := { s.scb with flushAgain := some 4 } }) ∧
      (s.scb.flushAgain = none → s.scb.slot < 2 →
        let n := (s.rd F.SCB_STATUS_FLUSHES 0 + 1) % 2 ^ 32
        (∀ ok : Bool, ok = true ∨ (r = 3 ∧ s.rd F.PWR_HOLDUP_OK 0 = 1) →
          Completes (.flushComplete t ok) s fun s' =>
            Sets [(F.SCB_STATUS_FLUSHING, 0, 0), (F.SCB_STATUS_FLUSHES, 0, n), (F.SCB_FLUSH_INFO_REASON, 0, r % 8),
              (F.SCB_FLUSH_INFO_BEAT, 0, v.scbBeat.1 % 2 ^ 56), (F.SCB_CTL_FLUSH, 0, 0)] s s' ∧
            s'.scb.flash[s.scb.slot]? = some ⟨n, v.scbBeat.1, s.rd F.SCB_STATUS_LAYOUT 0, s.scb.recs, true⟩ ∧
            s'.scb.slot = 1 - s.scb.slot ∧ s'.scb.flushing = none ∧ s'.scb.flushAt = v.now ∧ s'.scb.recs = s.scb.recs ∧
            s' = { v with fv := s'.fv, scb := s'.scb }) ∧
        (¬(r = 3 ∧ s.rd F.PWR_HOLDUP_OK 0 = 1) →
          Completes (.flushComplete t false) s fun s' =>
            Sets [(F.SCB_STATUS_FLUSHING, 0, 0), (F.SCB_STATUS_FLUSH_FAIL, 0, 1), (F.SCB_CTL_FLUSH, 0, 0)] s s' ∧
            s'.scb.flash[1 - s.scb.slot]? = (s.scb.flash ++ List.replicate (2 - s.scb.flash.length) ScbImage.blank)[1 - s.scb.slot]? ∧
            s'.scb.slot = s.scb.slot ∧ s'.scb.flushing = none ∧ s' = { v with fv := s'.fv, scb := s'.scb })) ∧
      (∀ w : Nat, s.scb.flushAgain = some w →
        Completes (.flushComplete t true) s fun s' =>
          s'.rd F.SCB_STATUS_FLUSHING 0 = 1 ∧ s'.scb.flushing = some w ∧ s'.scb.flushAgain = none))

/-- START refuses a run with the cause of the condition not met, which changes nothing else, and otherwise begins it; steps, ends and aborts follow
(log entries 50, 123); PCIe lanes answer their margining commands (R474). -/
def Obligations.MarginRuns : Prop :=
  (∀ (t : Nat) (s : State),
     let v := s.tick t
     let refused (cause : Nat) : Prop := Completes (.marginStart t) s fun s' =>
       Sets [(F.MRG_STATUS_STATE, 0, 2), (F.MRG_STATUS_CAUSE, 0, cause)] s s' ∧ s' = { v with fv := s'.fv }
     let ends (cause : Nat) (w : List (Fld × Nat × Nat)) (s' : State) : Prop :=
       Sets ([(F.MRG_CTL_START, 0, 0), (F.MRG_STATUS_STATE, 0, 2), (F.MRG_STATUS_CAUSE, 0, cause)] ++ w) s s' ∧
       s' = { v with fv := s'.fv, margin := none }
     let axis := s.rd F.MRG_TARGET_AXIS 0
     let wide := (s.rd F.QUO_DEBUG_SCOPE 0).testBit 3
     let begins (kind ix full : Nat) (fine : Bool) : Prop := Completes (.marginStart t) s fun s' =>
       Sets ([(F.MRG_CTL_START, 0, 1), (F.MRG_STATUS_STATE, 0, 1), (F.MRG_STATUS_CAUSE, 0, 0), (F.MRG_STATUS_FINE, 0, if fine then 1 else 0)] ++
         marginResults.map (fun f => (f, 0, 0))) s s' ∧
       s' = { v with fv := s'.fv, margin := some ⟨kind, ix, s.rd F.MRG_TARGET_SET 0, if fine then full else full / 2, if wide then 32 else 20,
         decide (axis = 2), false, if axis = 1 then 1 else 0, false, 1⟩ }
     let x := 13 * s.rd F.MRG_TARGET_PIER 0 + s.rd F.MRG_TARGET_POSITION 0
     let b := s.rd F.MRG_TARGET_BRIDGE 0
     let q := s.rd F.MRG_TARGET_PORT 0
     let kind := s.rd F.MRG_TARGET_KIND 0
     let busy := kind = 0 ∧ (3 ≤ (s.tile x).facts.health ∨ v.anyRunning x = true ∨ (s.tile x).units.any (fun u => u.2.st == .running) = true)
     let inUse := (kind = 1 ∧ (s.rd F.BRG_STATUS_WIDTH b ≠ 2 ∨ v.marginUsed 1 b = true)) ∨
       (kind = 2 ∧ ((s.rd F.LNK_STATUS_STATE q ≠ 1 ∧ s.rd F.LNK_STATUS_STATE q ≠ 2) ∨ v.portRole q = 1 ∨ v.portRole q = 2 ∨
         s.beat.via = some q ∨ v.marginUsed 2 q = true))
     let reserved := kind = 3 ∨ 8 ≤ s.rd F.MRG_TARGET_PIER 0 ∨ 13 ≤ s.rd F.MRG_TARGET_POSITION 0 ∨ 5 ≤ s.rd F.MRG_TARGET_COURSE 0 ∨
       axis = 3 ∨ 5 ≤ s.rd F.MRG_TARGET_LANE 0 ∨ 10 ≤ b
     ((s.rd F.SYS_POWER_STATE 0 ≠ 0 ∨ s.margin ≠ none) → refused 2) ∧
     (s.rd F.SYS_POWER_STATE 0 = 0 → s.margin = none →
       (busy → refused 3) ∧ (inUse → refused 4) ∧ (¬ busy → ¬ inUse → reserved → refused 5) ∧
       (¬ busy → ¬ inUse → ¬ reserved → (s.rd F.MRG_TARGET_LANE 0 = 4 → (s.port q).spare ≠ none) →
         (kind = 0 → begins 0 x (if wide then 32 else 24) ((s.rd F.FP_PIER_B_CAPS (s.rd F.MRG_TARGET_PIER 0)).testBit 1)) ∧
         (kind = 1 → begins 1 b (if wide then 32 else 24) ((v.commonCaps b).testBit 1)) ∧
         (kind = 2 → begins 2 q (if wide then 24 else 16) ((s.rd F.FP_PIER_B_CAPS (q / 2)).testBit 1)))) ∧
     (s.margin = none → (Completes (.marginAbort t) s fun s' => s' = v) ∧
       ∀ (pass : Bool) (worst : BitVec 9) (n : Nat), Completes (.marginStep t pass worst n) s fun s' => s' = v) ∧
     (∀ r : MarginRun, s.margin = some r →
       (Completes (.marginAbort t) s (ends 9 [])) ∧
       ∀ (worst : BitVec 9) (n : Nat),
         let errs : Fld × Nat × Nat := (F.MRG_RESULT_SPARE_ERRS, 0, satAdd 7 (s.rd F.MRG_RESULT_SPARE_ERRS 0) n)
         let bad : Fld × Nat × Nat := (F.MRG_RESULT_WORST, 0, worst.toNat)
         let side := if r.axis = 0 then (if r.plus then F.MRG_RESULT_LATE else F.MRG_RESULT_EARLY)
           else if r.plus then F.MRG_RESULT_HIGH else F.MRG_RESULT_LOW
         let limit := if r.axis = 0 then r.limT else r.limV
         let goes (g : MarginRun) (w : List (Fld × Nat × Nat)) (s' : State) : Prop := Sets w s s' ∧ s' = { v with fv := s'.fv, margin := some g }
         (r.centre = false →
           Completes (.marginStep t true worst n) s (goes { r with centre := true } [errs]) ∧
           Completes (.marginStep t false worst n) s (ends 1 [errs, bad])) ∧
         (r.centre = true →
           (r.k < limit → Completes (.marginStep t true worst n) s (goes { r with k := r.k + 1 } [errs, (side, 0, r.k % 256)])) ∧
           (r.plus = false →
             (limit ≤ r.k → Completes (.marginStep t true worst n) s (goes { r with plus := true, k := 1 } [errs, (side, 0, r.k % 256)])) ∧
             Completes (.marginStep t false worst n) s (goes { r with plus := true, k := 1 } [errs, bad])) ∧
           (r.plus = true → r.axis = 0 → r.both = true →
             Completes (.marginStep t false worst n) s (goes { r with axis := 1, plus := false, k := 1 } [errs, bad])) ∧
           (r.plus = true → r.axis ≠ 0 ∨ r.both = false →
             (limit ≤ r.k → Completes (.marginStep t true worst n) s (ends 0 [errs, (side, 0, r.k % 256)])) ∧
             Completes (.marginStep t false worst n) s (ends 0 [errs, bad]))))) ∧
  (∀ (t : Nat) (lane : Fin 16) (cmd : BitVec 16) (s : State),
     let v := s.tick t
     let kind := bitsAt cmd.toNat 3 3
     let load := bitsAt cmd.toNat 8 8
     let limit := Tab.get (4 * 65536) s.lanes lane / 65536
     let errs := (Config.freeValue s.freeCtr).toNat % 64
     let answers (n : Nat) (s' : State) : Prop := s'.out = s.out ++ [.margin lane (cmd.toNat % 64 + 256 * n)]
     (∀ e ∈ [(0x89, 32), (0x8A, 16), (0x8B, 20), (0x8C, 12), (0x8D, 63), (0x8E, 63), (0x90, 15)], kind = 1 → load = e.1 →
       Completes (.pcieLaneMargin t lane cmd) s fun s' => answers e.2 s' ∧ s' = { v with out := s'.out }) ∧
     (kind = 2 → 0xC0 ≤ load → Completes (.pcieLaneMargin t lane cmd) s fun s' =>
       answers load s' ∧ Tab.get (4 * 65536) s'.lanes lane / 65536 = load % 64 ∧ s' = { v with out := s'.out, lanes := s'.lanes }) ∧
     (kind = 2 → load = 0x0F → Completes (.pcieLaneMargin t lane cmd) s fun s' =>
       answers load s' ∧ Tab.get (4 * 65536) s'.lanes lane = limit * 65536 ∧ s' = { v with out := s'.out, lanes := s'.lanes }) ∧
     (kind = 3 ∨ kind = 4 →
       let steps := if kind = 3 then load % 64 else load % 128
       let most := if kind = 3 then 16 else 32
       (most < steps → Completes (.pcieLaneMargin t lane cmd) s fun s' => answers 0xC0 s' ∧ s' = { v with out := s'.out }) ∧
       (steps ≤ most → Completes (.pcieLaneMargin t lane cmd) s fun s' =>
         (errs ≤ limit → answers (0x80 + errs) s' ∧ Tab.get (4 * 65536) s'.lanes lane = limit * 65536 + kind * 256 + load) ∧
         (limit < errs → answers errs s' ∧ Tab.get (4 * 65536) s'.lanes lane = limit * 65536) ∧
         s' = { v with out := s'.out, lanes := s'.lanes, freeCtr := s.freeCtr + 1 })))

/-- Contacts, precharge and the main path follow one another, a break is a power fail, and the management target takes its address and answers its
sensors (log entries 44, 107) (R355, R380, R487, R488, R497). -/
def Obligations.Connector : Prop :=
  ∀ (t : Nat) (s : State),
    let v := s.tick t
    (Completes (.mateMake t) s fun s' =>
      (s.life.mate = none → s' = { v with life := { s.life with mate := some v.now } }) ∧ (s.life.mate ≠ none → s' = v)) ∧
    (∀ c : Nat, s.life.mate = some c → c + 200000000 ≤ v.now → s.life.precharge = none → s.life.main = false →
      Completes (.prechargeStart t) s fun s' => s' = { v with life := { s.life with precharge := some v.now, absentFrom := none } }) ∧
    (∀ c : Nat, (s.life.mate = none ∨ (s.life.mate = some c ∧ v.now < c + 200000000)) → Completes (.prechargeStart t) s fun s' => s' = v) ∧
    (∀ c : Nat, s.life.precharge = some c → Completes (.prechargeEnd t) s fun s' => s' = { v with life := { s.life with precharge := none, main := true } }) ∧
    (∀ c ∈ [Instr.mateBreak t, .surpriseRemoval t],
      (s.life.powered = false → Completes c s fun s' =>
        s' = { v with life := { s.life with mate := none, precharge := none, main := false, absentFrom := s.life.absentFrom.or (some v.now) } }) ∧
      (s.life.powered = true → Completes c s fun s' =>
        s'.life.powered = false ∧ s'.life.main = false ∧ s'.life.mate = none ∧ s'.life.precharge = none ∧ s'.life.cause = 6 ∧
        s'.scb.flushing = some 3 ∧ s'.power.emFlash = s.power.em ∧ s'.mem = [] ∧ s'.ts = [] ∧ s'.imgA = Image.empty ∧ s'.imgB = Image.empty)) ∧
    (s.life.powered = true → s.rd F.SYS_BOOT_STATUS_STAGE 0 ≠ 0xF →
      (1 ≤ s.rd F.SYS_BOOT_STATUS_STAGE 0 → ∀ a : BitVec 7,
        Completes (.entdaa t a) s fun s' => s' = { v with life := { s.life with i3c := some a.toNat } }) ∧
      (s.rd F.SYS_BOOT_STATUS_STAGE 0 = 1 → ∀ p : Pldm, Completes (.pldmRequest t p) s fun s' =>
        s' = { v with out := s.out ++ [.response 2 [4]] }) ∧
      (2 ≤ s.rd F.SYS_BOOT_STATUS_STAGE 0 →
        (∀ e ∈ [((0 : Fin 21), s.rd F.THM_COOLANT_INLET 0), (1, s.rd F.THM_COOLANT_OUTLET 0), (2, s.rd F.THM_COOLANT_FLOW 0),
            (3, s.rd F.PWR_STATUS_INPUT_V 0), (4, s.rd F.PWR_STATUS_INPUT_W 0)],
          Completes (.pldmRequest t (.numeric e.1)) s fun s' => s' = { v with out := s.out ++ [.response 2 (0 :: leBytes 2 e.2)] }) ∧
        (∀ (p : PierIx) (n m : Fin 21), n.val = 5 + p.val → m.val = 13 + p.val →
          (Completes (.pldmRequest t (.numeric n)) s fun s' => s' = { v with out := s.out ++ [.response 2 (0 :: leBytes 2 (s.rd F.THM_PIER_HOT p))] }) ∧
          Completes (.pldmRequest t (.numeric m)) s fun s' =>
            s' = { v with out := s.out ++ [.response 2 (0 :: leBytes 2 (s.rd F.THM_PIER_COURSE p))] }) ∧
        (∀ e ∈ attnClasses, ∀ c : Fin 8, c.val = e.1 → Completes (.pldmRequest t (.state c)) s fun s' =>
          s' = { v with out := s.out ++ [.response 2 [0, if e.2.any (fun f => s.rd f 0 == 1) then 1 else 0, 0]] }))) ∧
    (s.life.powered = false → ∀ (p : Pldm) (a : BitVec 7),
      (Completes (.pldmRequest t p) s fun s' => s' = v) ∧ Completes (.entdaa t a) s fun s' => s' = v)

/-- Before power-good every register field reads its Reset value (log entry 5), every memory byte 0 (log entry 11), and nothing is loaded, running,
sealed or owned (log entry 4) (R11, R12, R357, R440). -/
def Obligations.ResetState : Prop :=
  let s := State.reset
  (∀ f ∈ allFields, ∀ i : Nat, s.rd f i = match f.rst with | .num n => n % 2 ^ 64 | .own => i % 13) ∧
  s.pending = [] ∧ (∀ a, s.memByte a = 0) ∧ (∀ x a, s.tsByte x a = 0) ∧ s.memCanon ∧
  (∀ x k, s.running x k = false ∧ (s.thread x k).trap = none) ∧ (∀ c, scbLine s c = ScbRec.empty) ∧ s.scb.aside = [] ∧
  s.quoin.owner = none ∧ s.quoin.granules = [] ∧ s.quoin.keys = [] ∧ (∀ n, s.quoin.meas.getD n 0 = 0) ∧ s.life.powered = false ∧
  s.imgA = Image.empty ∧ s.imgB = Image.empty ∧ s.margin = none ∧ s.lanes = []

/-- A step from a state whose memories are in their canonical form, addresses strictly rising and no listed byte 0, leaves them so (R161, R162,
R51). -/
def Obligations.MemoriesStayCanonical : Prop :=
  ∀ s s' : State, s.memCanon → step s = .next s' → s'.memCanon

/-- Every command answers a next state and leaves the waiting commands alone: none faults and none is refused (R1, R6). -/
def Obligations.EveryCommandAnswers : Prop :=
  ∀ (c : Instr) (s : State), Completes c s fun s' => s'.pending = s.pending
end

