-- ==== Sys2Proof/Laws/Tab.lean ====
section
/-! SUPPORT. The laws of sparse tables: reading after writing, and the canonical form that every operation keeps. -/

set_option Elab.async false

namespace Sys2Proof.Machine

variable {α : Type}

theorem Tab.find_drop_same (m : Tab α) (q : Nat) : Tab.find (Tab.drop m q) q = none := by
  induction m with
  | nil => rfl
  | cons e r ih =>
    obtain ⟨k, v⟩ := e
    by_cases h : k = q <;> simp [Tab.drop, Tab.find, h, ih]

theorem Tab.find_drop_ne (m : Tab α) {p q : Nat} (h : p ≠ q) : Tab.find (Tab.drop m q) p = Tab.find m p := by
  induction m with
  | nil => rfl
  | cons e r ih =>
    obtain ⟨k, v⟩ := e
    by_cases hk : k = q
    · have hp : k ≠ p := by omega
      simp [Tab.drop, Tab.find, hk, ih, Ne.symm h]
    · by_cases hp : k = p <;> simp [Tab.drop, Tab.find, hk, hp, ih, h]

theorem Tab.find_ins_same (m : Tab α) (q : Nat) (x : α) (h : Tab.find m q = none) : Tab.find (Tab.ins m q x) q = some x := by
  induction m with
  | nil => simp [Tab.ins, Tab.find]
  | cons e r ih =>
    obtain ⟨k, v⟩ := e
    by_cases hk : k = q
    · simp [Tab.find, hk] at h
    · simp only [Tab.find, hk, if_false] at h
      by_cases hq : q < k <;> simp [Tab.ins, Tab.find, hq, hk, ih h]

theorem Tab.find_ins_ne (m : Tab α) {p q : Nat} (x : α) (h : p ≠ q) : Tab.find (Tab.ins m q x) p = Tab.find m p := by
  induction m with
  | nil => simp [Tab.ins, Tab.find, Ne.symm h]
  | cons e r ih =>
    obtain ⟨k, v⟩ := e
    by_cases hq : q < k
    · simp [Tab.ins, Tab.find, hq, Ne.symm h]
    · have e : Tab.ins ((k, v) :: r) q x = (k, v) :: Tab.ins r q x := by simp [Tab.ins, hq]
      rw [e]
      simp only [Tab.find, ih]

/-- Reading a key that has just been written gives the value. -/
@[simp] theorem Tab.get_put_same [DecidableEq α] (d : α) (m : Tab α) (q : Nat) (x : α) :
    Tab.get d (Tab.put d m q x) q = x := by
  by_cases h : x = d
  · simp [Tab.get, Tab.put, h, Tab.find_drop_same]
  · simp [Tab.get, Tab.put, h, Tab.find_ins_same _ _ _ (Tab.find_drop_same m q)]

/-- Writing one key leaves every other as it was. -/
theorem Tab.get_put_ne [DecidableEq α] (d d' : α) (m : Tab α) {p q : Nat} (x : α) (h : p ≠ q) :
    Tab.get d' (Tab.put d m q x) p = Tab.get d' m p := by
  by_cases hx : x = d
  · simp [Tab.get, Tab.put, hx, Tab.find_drop_ne m h]
  · simp [Tab.get, Tab.put, hx, Tab.find_ins_ne _ _ h, Tab.find_drop_ne m h]

@[simp] theorem Tab.get_upd_same [DecidableEq α] (d : α) (m : Tab α) (q : Nat) (f : α → α) :
    Tab.get d (Tab.upd d m q f) q = f (Tab.get d m q) := by simp [Tab.upd]

theorem Tab.get_upd_ne [DecidableEq α] (d d' : α) (m : Tab α) {p q : Nat} (f : α → α) (h : p ≠ q) :
    Tab.get d' (Tab.upd d m q f) p = Tab.get d' m p := by simp [Tab.upd, Tab.get_put_ne d d' m _ h]

@[simp] theorem Tab.get_nil (d : α) (q : Nat) : Tab.get d [] q = d := rfl

theorem Tab.get_drop_same (d : α) (m : Tab α) (q : Nat) : Tab.get d (Tab.drop m q) q = d := by
  simp [Tab.get, Tab.find_drop_same]

theorem Tab.get_drop_ne (d : α) (m : Tab α) {p q : Nat} (h : p ≠ q) : Tab.get d (Tab.drop m q) p = Tab.get d m p := by
  simp [Tab.get, Tab.find_drop_ne m h]

theorem Tab.find_dropWhere (t : Nat → Bool) (m : Tab α) (q : Nat) :
    Tab.find (Tab.dropWhere t m) q = if t q then none else Tab.find m q := by
  induction m with
  | nil => simp [Tab.dropWhere, Tab.find]
  | cons e r ih =>
    obtain ⟨k, v⟩ := e
    by_cases hk : t k
    · by_cases hq : k = q
      · subst hq; simp [Tab.dropWhere, hk, ih]
      · simp [Tab.dropWhere, hk, ih, Tab.find, hq]
    · by_cases hq : k = q
      · subst hq; simp [Tab.dropWhere, hk, Tab.find]
      · simp [Tab.dropWhere, hk, Tab.find, hq, ih]

/-- Removing a region of keys leaves the default there and every other key as it was. -/
theorem Tab.get_dropWhere (d : α) (t : Nat → Bool) (m : Tab α) (q : Nat) :
    Tab.get d (Tab.dropWhere t m) q = if t q then d else Tab.get d m q := by
  unfold Tab.get
  rw [Tab.find_dropWhere]
  split <;> rfl

/-! ### The canonical form -/

theorem Tab.wfFrom_mono [DecidableEq α] (d : α) (m : Tab α) {lo lo' : Nat} (h : lo' ≤ lo) (w : Tab.wfFrom d lo m = true) :
    Tab.wfFrom d lo' m = true := by
  cases m with
  | nil => rfl
  | cons e r =>
    obtain ⟨k, v⟩ := e
    simp only [Tab.wfFrom, Bool.and_eq_true, decide_eq_true_eq] at w ⊢
    exact ⟨⟨by omega, w.1.2⟩, w.2⟩

theorem Tab.wfFrom_drop [DecidableEq α] (d : α) (m : Tab α) (lo q : Nat) (w : Tab.wfFrom d lo m = true) :
    Tab.wfFrom d lo (Tab.drop m q) = true := by
  induction m generalizing lo with
  | nil => rfl
  | cons e r ih =>
    obtain ⟨k, v⟩ := e
    simp only [Tab.wfFrom, Bool.and_eq_true, decide_eq_true_eq] at w
    by_cases hk : k = q
    · simp only [Tab.drop, hk, if_true]
      exact ih lo (Tab.wfFrom_mono d r (by omega) w.2)
    · simp only [Tab.drop, hk, if_false, Tab.wfFrom, Bool.and_eq_true, decide_eq_true_eq]
      exact ⟨w.1, ih _ w.2⟩

theorem Tab.wfFrom_ins [DecidableEq α] (d : α) (m : Tab α) (lo q : Nat) (x : α) (w : Tab.wfFrom d lo m = true)
    (hl : lo ≤ q) (hx : x ≠ d) (hq : Tab.find m q = none) : Tab.wfFrom d lo (Tab.ins m q x) = true := by
  induction m generalizing lo with
  | nil => simp [Tab.ins, Tab.wfFrom, hl, hx]
  | cons e r ih =>
    obtain ⟨k, v⟩ := e
    simp only [Tab.wfFrom, Bool.and_eq_true, decide_eq_true_eq] at w
    have hk : k ≠ q := by intro h; simp [Tab.find, h] at hq
    simp only [Tab.find, hk, if_false] at hq
    by_cases h : q < k
    · simp only [Tab.ins, h, if_true, Tab.wfFrom, Bool.and_eq_true, decide_eq_true_eq]
      exact ⟨⟨hl, by simp [hx]⟩, ⟨⟨by omega, w.1.2⟩, w.2⟩⟩
    · simp only [Tab.ins, h, if_false, Tab.wfFrom, Bool.and_eq_true, decide_eq_true_eq]
      exact ⟨w.1, ih (k + 1) w.2 (by omega) hq⟩

/-- Writing keeps the canonical form. -/
theorem Tab.wf_put [DecidableEq α] (d : α) (m : Tab α) (q : Nat) (x : α) (w : Tab.wf d m = true) :
    Tab.wf d (Tab.put d m q x) = true := by
  unfold Tab.put
  split
  · exact Tab.wfFrom_drop d m 0 q w
  · rename_i h
    exact Tab.wfFrom_ins d _ 0 q x (Tab.wfFrom_drop d m 0 q w) (by omega) h (Tab.find_drop_same m q)

theorem Tab.wf_upd [DecidableEq α] (d : α) (m : Tab α) (q : Nat) (f : α → α) (w : Tab.wf d m = true) :
    Tab.wf d (Tab.upd d m q f) = true := Tab.wf_put d m q _ w

theorem Tab.wf_drop [DecidableEq α] (d : α) (m : Tab α) (q : Nat) (w : Tab.wf d m = true) : Tab.wf d (Tab.drop m q) = true :=
  Tab.wfFrom_drop d m 0 q w

theorem Tab.wfFrom_dropWhere [DecidableEq α] (d : α) (t : Nat → Bool) (m : Tab α) (lo : Nat) (w : Tab.wfFrom d lo m = true) :
    Tab.wfFrom d lo (Tab.dropWhere t m) = true := by
  induction m generalizing lo with
  | nil => rfl
  | cons e r ih =>
    obtain ⟨k, v⟩ := e
    simp only [Tab.wfFrom, Bool.and_eq_true, decide_eq_true_eq] at w
    by_cases hk : t k
    · simp only [Tab.dropWhere, hk, if_true]
      exact ih lo (Tab.wfFrom_mono d r (by omega) w.2)
    · have e : Tab.dropWhere t ((k, v) :: r) = (k, v) :: Tab.dropWhere t r := by simp [Tab.dropWhere, hk]
      rw [e]
      simp only [Tab.wfFrom, Bool.and_eq_true, decide_eq_true_eq]
      exact ⟨w.1, ih _ w.2⟩

/-- Removing a region keeps the canonical form. -/
theorem Tab.wf_dropWhere [DecidableEq α] (d : α) (t : Nat → Bool) (m : Tab α) (w : Tab.wf d m = true) :
    Tab.wf d (Tab.dropWhere t m) = true := Tab.wfFrom_dropWhere d t m 0 w

end Sys2Proof.Machine
end

