-- ==== Sys2Proof/Laws/State.lean ====
section
/-! SUPPORT. One lemma for every field of the state under every basic update, and reading a tile, an engine or a thread after it has been
changed. -/

set_option Elab.async false

namespace Sys2Proof.Machine

/-! ### `State.tick` -/

@[simp] theorem State.tick_pending (s : State) (t : Nat) : (s.tick t).pending = s.pending := (rfl)
@[simp] theorem State.tick_fv (s : State) (t : Nat) : (s.tick t).fv = s.fv := (rfl)
@[simp] theorem State.tick_mem (s : State) (t : Nat) : (s.tick t).mem = s.mem := (rfl)
@[simp] theorem State.tick_ts (s : State) (t : Nat) : (s.tick t).ts = s.ts := (rfl)
@[simp] theorem State.tick_badLines (s : State) (t : Nat) : (s.tick t).badLines = s.badLines := (rfl)
@[simp] theorem State.tick_latent (s : State) (t : Nat) : (s.tick t).latent = s.latent := (rfl)
@[simp] theorem State.tick_pch (s : State) (t : Nat) : (s.tick t).pch = s.pch := (rfl)
@[simp] theorem State.tick_tiles (s : State) (t : Nat) : (s.tick t).tiles = s.tiles := (rfl)
@[simp] theorem State.tick_beat (s : State) (t : Nat) : (s.tick t).beat = s.beat := (rfl)
@[simp] theorem State.tick_imgA (s : State) (t : Nat) : (s.tick t).imgA = s.imgA := (rfl)
@[simp] theorem State.tick_imgB (s : State) (t : Nat) : (s.tick t).imgB = s.imgB := (rfl)
@[simp] theorem State.tick_scb (s : State) (t : Nat) : (s.tick t).scb = s.scb := (rfl)
@[simp] theorem State.tick_fpPend (s : State) (t : Nat) : (s.tick t).fpPend = s.fpPend := (rfl)
@[simp] theorem State.tick_repairs (s : State) (t : Nat) : (s.tick t).repairs = s.repairs := (rfl)
@[simp] theorem State.tick_out (s : State) (t : Nat) : (s.tick t).out = s.out := (rfl)
@[simp] theorem State.tick_remote (s : State) (t : Nat) : (s.tick t).remote = s.remote := (rfl)
@[simp] theorem State.tick_wins (s : State) (t : Nat) : (s.tick t).wins = s.wins := (rfl)
@[simp] theorem State.tick_answers (s : State) (t : Nat) : (s.tick t).answers = s.answers := (rfl)
@[simp] theorem State.tick_freeCtr (s : State) (t : Nat) : (s.tick t).freeCtr = s.freeCtr := (rfl)
@[simp] theorem State.tick_coldAt (s : State) (t : Nat) : (s.tick t).coldAt = s.coldAt := (rfl)
@[simp] theorem State.tick_seed (s : State) (t : Nat) : (s.tick t).seed = s.seed := (rfl)
@[simp] theorem State.tick_headKeys (s : State) (t : Nat) : (s.tick t).headKeys = s.headKeys := (rfl)
@[simp] theorem State.tick_modules (s : State) (t : Nat) : (s.tick t).modules = s.modules := (rfl)
@[simp] theorem State.tick_ports (s : State) (t : Nat) : (s.tick t).ports = s.ports := (rfl)
@[simp] theorem State.tick_front (s : State) (t : Nat) : (s.tick t).front = s.front := (rfl)
@[simp] theorem State.tick_life (s : State) (t : Nat) : (s.tick t).life = s.life := (rfl)
@[simp] theorem State.tick_power (s : State) (t : Nat) : (s.tick t).power = s.power := (rfl)
@[simp] theorem State.tick_bond (s : State) (t : Nat) : (s.tick t).bond = s.bond := (rfl)
@[simp] theorem State.tick_twin (s : State) (t : Nat) : (s.tick t).twin = s.twin := (rfl)
@[simp] theorem State.tick_quoin (s : State) (t : Nat) : (s.tick t).quoin = s.quoin := (rfl)
@[simp] theorem State.tick_margin (s : State) (t : Nat) : (s.tick t).margin = s.margin := (rfl)
@[simp] theorem State.tick_lanes (s : State) (t : Nat) : (s.tick t).lanes = s.lanes := (rfl)

/-! ### `State.wr` -/

@[simp] theorem State.wr_pending (s : State) (f : Fld) (i n : Nat) : (s.wr f i n).pending = s.pending := (rfl)
@[simp] theorem State.wr_now (s : State) (f : Fld) (i n : Nat) : (s.wr f i n).now = s.now := (rfl)
@[simp] theorem State.wr_mem (s : State) (f : Fld) (i n : Nat) : (s.wr f i n).mem = s.mem := (rfl)
@[simp] theorem State.wr_ts (s : State) (f : Fld) (i n : Nat) : (s.wr f i n).ts = s.ts := (rfl)
@[simp] theorem State.wr_badLines (s : State) (f : Fld) (i n : Nat) : (s.wr f i n).badLines = s.badLines := (rfl)
@[simp] theorem State.wr_latent (s : State) (f : Fld) (i n : Nat) : (s.wr f i n).latent = s.latent := (rfl)
@[simp] theorem State.wr_pch (s : State) (f : Fld) (i n : Nat) : (s.wr f i n).pch = s.pch := (rfl)
@[simp] theorem State.wr_tiles (s : State) (f : Fld) (i n : Nat) : (s.wr f i n).tiles = s.tiles := (rfl)
@[simp] theorem State.wr_beat (s : State) (f : Fld) (i n : Nat) : (s.wr f i n).beat = s.beat := (rfl)
@[simp] theorem State.wr_imgA (s : State) (f : Fld) (i n : Nat) : (s.wr f i n).imgA = s.imgA := (rfl)
@[simp] theorem State.wr_imgB (s : State) (f : Fld) (i n : Nat) : (s.wr f i n).imgB = s.imgB := (rfl)
@[simp] theorem State.wr_scb (s : State) (f : Fld) (i n : Nat) : (s.wr f i n).scb = s.scb := (rfl)
@[simp] theorem State.wr_fpPend (s : State) (f : Fld) (i n : Nat) : (s.wr f i n).fpPend = s.fpPend := (rfl)
@[simp] theorem State.wr_repairs (s : State) (f : Fld) (i n : Nat) : (s.wr f i n).repairs = s.repairs := (rfl)
@[simp] theorem State.wr_out (s : State) (f : Fld) (i n : Nat) : (s.wr f i n).out = s.out := (rfl)
@[simp] theorem State.wr_remote (s : State) (f : Fld) (i n : Nat) : (s.wr f i n).remote = s.remote := (rfl)
@[simp] theorem State.wr_wins (s : State) (f : Fld) (i n : Nat) : (s.wr f i n).wins = s.wins := (rfl)
@[simp] theorem State.wr_answers (s : State) (f : Fld) (i n : Nat) : (s.wr f i n).answers = s.answers := (rfl)
@[simp] theorem State.wr_freeCtr (s : State) (f : Fld) (i n : Nat) : (s.wr f i n).freeCtr = s.freeCtr := (rfl)
@[simp] theorem State.wr_coldAt (s : State) (f : Fld) (i n : Nat) : (s.wr f i n).coldAt = s.coldAt := (rfl)
@[simp] theorem State.wr_seed (s : State) (f : Fld) (i n : Nat) : (s.wr f i n).seed = s.seed := (rfl)
@[simp] theorem State.wr_headKeys (s : State) (f : Fld) (i n : Nat) : (s.wr f i n).headKeys = s.headKeys := (rfl)
@[simp] theorem State.wr_modules (s : State) (f : Fld) (i n : Nat) : (s.wr f i n).modules = s.modules := (rfl)
@[simp] theorem State.wr_ports (s : State) (f : Fld) (i n : Nat) : (s.wr f i n).ports = s.ports := (rfl)
@[simp] theorem State.wr_front (s : State) (f : Fld) (i n : Nat) : (s.wr f i n).front = s.front := (rfl)
@[simp] theorem State.wr_life (s : State) (f : Fld) (i n : Nat) : (s.wr f i n).life = s.life := (rfl)
@[simp] theorem State.wr_power (s : State) (f : Fld) (i n : Nat) : (s.wr f i n).power = s.power := (rfl)
@[simp] theorem State.wr_bond (s : State) (f : Fld) (i n : Nat) : (s.wr f i n).bond = s.bond := (rfl)
@[simp] theorem State.wr_twin (s : State) (f : Fld) (i n : Nat) : (s.wr f i n).twin = s.twin := (rfl)
@[simp] theorem State.wr_quoin (s : State) (f : Fld) (i n : Nat) : (s.wr f i n).quoin = s.quoin := (rfl)
@[simp] theorem State.wr_margin (s : State) (f : Fld) (i n : Nat) : (s.wr f i n).margin = s.margin := (rfl)
@[simp] theorem State.wr_lanes (s : State) (f : Fld) (i n : Nat) : (s.wr f i n).lanes = s.lanes := (rfl)

/-! ### `State.updTile` -/

@[simp] theorem State.updTile_pending (s : State) (x : Nat) (f : Tile → Tile) : (s.updTile x f).pending = s.pending := (rfl)
@[simp] theorem State.updTile_now (s : State) (x : Nat) (f : Tile → Tile) : (s.updTile x f).now = s.now := (rfl)
@[simp] theorem State.updTile_fv (s : State) (x : Nat) (f : Tile → Tile) : (s.updTile x f).fv = s.fv := (rfl)
@[simp] theorem State.updTile_mem (s : State) (x : Nat) (f : Tile → Tile) : (s.updTile x f).mem = s.mem := (rfl)
@[simp] theorem State.updTile_ts (s : State) (x : Nat) (f : Tile → Tile) : (s.updTile x f).ts = s.ts := (rfl)
@[simp] theorem State.updTile_badLines (s : State) (x : Nat) (f : Tile → Tile) : (s.updTile x f).badLines = s.badLines := (rfl)
@[simp] theorem State.updTile_latent (s : State) (x : Nat) (f : Tile → Tile) : (s.updTile x f).latent = s.latent := (rfl)
@[simp] theorem State.updTile_pch (s : State) (x : Nat) (f : Tile → Tile) : (s.updTile x f).pch = s.pch := (rfl)
@[simp] theorem State.updTile_beat (s : State) (x : Nat) (f : Tile → Tile) : (s.updTile x f).beat = s.beat := (rfl)
@[simp] theorem State.updTile_imgA (s : State) (x : Nat) (f : Tile → Tile) : (s.updTile x f).imgA = s.imgA := (rfl)
@[simp] theorem State.updTile_imgB (s : State) (x : Nat) (f : Tile → Tile) : (s.updTile x f).imgB = s.imgB := (rfl)
@[simp] theorem State.updTile_scb (s : State) (x : Nat) (f : Tile → Tile) : (s.updTile x f).scb = s.scb := (rfl)
@[simp] theorem State.updTile_fpPend (s : State) (x : Nat) (f : Tile → Tile) : (s.updTile x f).fpPend = s.fpPend := (rfl)
@[simp] theorem State.updTile_repairs (s : State) (x : Nat) (f : Tile → Tile) : (s.updTile x f).repairs = s.repairs := (rfl)
@[simp] theorem State.updTile_out (s : State) (x : Nat) (f : Tile → Tile) : (s.updTile x f).out = s.out := (rfl)
@[simp] theorem State.updTile_remote (s : State) (x : Nat) (f : Tile → Tile) : (s.updTile x f).remote = s.remote := (rfl)
@[simp] theorem State.updTile_wins (s : State) (x : Nat) (f : Tile → Tile) : (s.updTile x f).wins = s.wins := (rfl)
@[simp] theorem State.updTile_answers (s : State) (x : Nat) (f : Tile → Tile) : (s.updTile x f).answers = s.answers := (rfl)
@[simp] theorem State.updTile_freeCtr (s : State) (x : Nat) (f : Tile → Tile) : (s.updTile x f).freeCtr = s.freeCtr := (rfl)
@[simp] theorem State.updTile_coldAt (s : State) (x : Nat) (f : Tile → Tile) : (s.updTile x f).coldAt = s.coldAt := (rfl)
@[simp] theorem State.updTile_seed (s : State) (x : Nat) (f : Tile → Tile) : (s.updTile x f).seed = s.seed := (rfl)
@[simp] theorem State.updTile_headKeys (s : State) (x : Nat) (f : Tile → Tile) : (s.updTile x f).headKeys = s.headKeys := (rfl)
@[simp] theorem State.updTile_modules (s : State) (x : Nat) (f : Tile → Tile) : (s.updTile x f).modules = s.modules := (rfl)
@[simp] theorem State.updTile_ports (s : State) (x : Nat) (f : Tile → Tile) : (s.updTile x f).ports = s.ports := (rfl)
@[simp] theorem State.updTile_front (s : State) (x : Nat) (f : Tile → Tile) : (s.updTile x f).front = s.front := (rfl)
@[simp] theorem State.updTile_life (s : State) (x : Nat) (f : Tile → Tile) : (s.updTile x f).life = s.life := (rfl)
@[simp] theorem State.updTile_power (s : State) (x : Nat) (f : Tile → Tile) : (s.updTile x f).power = s.power := (rfl)
@[simp] theorem State.updTile_bond (s : State) (x : Nat) (f : Tile → Tile) : (s.updTile x f).bond = s.bond := (rfl)
@[simp] theorem State.updTile_twin (s : State) (x : Nat) (f : Tile → Tile) : (s.updTile x f).twin = s.twin := (rfl)
@[simp] theorem State.updTile_quoin (s : State) (x : Nat) (f : Tile → Tile) : (s.updTile x f).quoin = s.quoin := (rfl)
@[simp] theorem State.updTile_margin (s : State) (x : Nat) (f : Tile → Tile) : (s.updTile x f).margin = s.margin := (rfl)
@[simp] theorem State.updTile_lanes (s : State) (x : Nat) (f : Tile → Tile) : (s.updTile x f).lanes = s.lanes := (rfl)

@[simp] theorem State.now_tick (s : State) (t : Nat) : (s.tick t).now = max s.now t := (rfl)

/-! ### Tiles -/

@[simp] theorem State.tile_updTile_same (s : State) (x : Nat) (f : Tile → Tile) : (s.updTile x f).tile x = f (s.tile x) := by
  simp [State.tile, State.updTile]

theorem State.tile_updTile_ne (s : State) {x y : Nat} (f : Tile → Tile) (h : y ≠ x) : (s.updTile x f).tile y = s.tile y := by
  simp [State.tile, State.updTile, Tab.get_upd_ne _ _ _ _ h]

@[simp] theorem State.tile_tick (s : State) (t x : Nat) : (s.tick t).tile x = s.tile x := (rfl)
@[simp] theorem State.tile_wr (s : State) (f : Fld) (i n x : Nat) : (s.wr f i n).tile x = s.tile x := (rfl)
@[simp] theorem State.rd_tick (s : State) (t : Nat) (f : Fld) (i : Nat) : (s.tick t).rd f i = s.rd f i := (rfl)
@[simp] theorem State.rd_updTile (s : State) (x : Nat) (g : Tile → Tile) (f : Fld) (i : Nat) : (s.updTile x g).rd f i = s.rd f i := (rfl)
@[simp] theorem State.rd_updEng (s : State) (x : Nat) (g : Engine → Engine) (f : Fld) (i : Nat) : (s.updEng x g).rd f i = s.rd f i := (rfl)
@[simp] theorem State.rd_updThread (s : State) (x k : Nat) (g : Thread → Thread) (f : Fld) (i : Nat) :
    (s.updThread x k g).rd f i = s.rd f i := (rfl)

@[simp] theorem State.tile_updEng_same (s : State) (x : Nat) (f : Engine → Engine) :
    (s.updEng x f).tile x = { s.tile x with eng := f (s.tile x).eng } := by simp [State.updEng]

theorem State.tile_updEng_ne (s : State) {x y : Nat} (f : Engine → Engine) (h : y ≠ x) : (s.updEng x f).tile y = s.tile y :=
  State.tile_updTile_ne s _ h

@[simp] theorem State.thread_updThread_same (s : State) (x k : Nat) (f : Thread → Thread) :
    (s.updThread x k f).thread x k = f (s.thread x k) := by simp [State.updThread, State.thread]

theorem State.thread_updThread_ne (s : State) (x : Nat) {k n : Nat} (f : Thread → Thread) (h : n ≠ k) :
    (s.updThread x k f).thread x n = s.thread x n := by simp [State.updThread, State.thread, Tab.get_upd_ne _ _ _ _ h]

@[simp] theorem State.thread_wr (s : State) (f : Fld) (i n x k : Nat) : (s.wr f i n).thread x k = s.thread x k := (rfl)
@[simp] theorem State.thread_tick (s : State) (t x k : Nat) : (s.tick t).thread x k = s.thread x k := (rfl)

/-! ### Bytes -/

@[simp] theorem State.memByte_tick (s : State) (t a : Nat) : (s.tick t).memByte a = s.memByte a := (rfl)
@[simp] theorem State.memByte_wr (s : State) (f : Fld) (i n a : Nat) : (s.wr f i n).memByte a = s.memByte a := (rfl)
@[simp] theorem State.memByte_updTile (s : State) (x : Nat) (f : Tile → Tile) (a : Nat) : (s.updTile x f).memByte a = s.memByte a := (rfl)
@[simp] theorem State.tsByte_tick (s : State) (t x a : Nat) : (s.tick t).tsByte x a = s.tsByte x a := (rfl)
@[simp] theorem State.tsByte_wr (s : State) (f : Fld) (i n x a : Nat) : (s.wr f i n).tsByte x a = s.tsByte x a := (rfl)
@[simp] theorem State.tsByte_updTile (s : State) (y : Nat) (f : Tile → Tile) (x a : Nat) : (s.updTile y f).tsByte x a = s.tsByte x a := (rfl)

end Sys2Proof.Machine
end

