-- ==== Sys2Proof/Laws/Keep/Base.lean ====
section
/-! SUPPORT. How to show that a chain of operations leaves the memories and the queue alone, or keeps the memories canonical: folds,
choices, cell writes. -/

set_option Elab.async false

namespace Sys2Proof.Machine

section
variable {β : Type}

@[simp] theorem State.mem_ite (c : Prop) [Decidable c] (a b : State) : (if c then a else b).mem = if c then a.mem else b.mem := by
  split <;> rfl
@[simp] theorem State.ts_ite (c : Prop) [Decidable c] (a b : State) : (if c then a else b).ts = if c then a.ts else b.ts := by
  split <;> rfl
@[simp] theorem State.pending_ite (c : Prop) [Decidable c] (a b : State) :
    (if c then a else b).pending = if c then a.pending else b.pending := by split <;> rfl

theorem foldl_keep {γ : Type} (p : State → γ) (g : State → β → State) (l : List β) (s : State) (h : ∀ a b, p (g a b) = p a) :
    p (l.foldl g s) = p s := by
  induction l generalizing s with
  | nil => rfl
  | cons e r ih => rw [List.foldl_cons, ih, h]

@[simp] theorem foldl_mem (g : State → β → State) (l : List β) (s : State) (h : ∀ a b, (g a b).mem = a.mem) :
    (l.foldl g s).mem = s.mem := foldl_keep State.mem g l s h
@[simp] theorem foldl_ts (g : State → β → State) (l : List β) (s : State) (h : ∀ a b, (g a b).ts = a.ts) :
    (l.foldl g s).ts = s.ts := foldl_keep State.ts g l s h
@[simp] theorem foldl_pending (g : State → β → State) (l : List β) (s : State) (h : ∀ a b, (g a b).pending = a.pending) :
    (l.foldl g s).pending = s.pending := foldl_keep State.pending g l s h

theorem foldl_keep3 {γ : Type} (p : γ → State) (g : γ → β → γ) (l : List β) (q : γ)
    (h : ∀ a b, (p (g a b)).mem = (p a).mem ∧ (p (g a b)).ts = (p a).ts ∧ (p (g a b)).pending = (p a).pending) :
    (p (l.foldl g q)).mem = (p q).mem ∧ (p (l.foldl g q)).ts = (p q).ts ∧ (p (l.foldl g q)).pending = (p q).pending := by
  induction l generalizing q with
  | nil => exact ⟨rfl, rfl, rfl⟩
  | cons e r ih =>
    have w := ih (g q e)
    have v := h q e
    rw [List.foldl_cons, w.1, w.2.1, w.2.2]
    exact v

theorem same_trans {a b c : State} (h : b.mem = a.mem ∧ b.ts = a.ts ∧ b.pending = a.pending)
    (g : c.mem = b.mem ∧ c.ts = b.ts ∧ c.pending = b.pending) : c.mem = a.mem ∧ c.ts = a.ts ∧ c.pending = a.pending :=
  ⟨g.1.trans h.1, g.2.1.trans h.2.1, g.2.2.trans h.2.2⟩

/-- A fold of steps that keep the memories canonical keeps them canonical. -/
theorem foldl_canon (g : State → β → State) (l : List β) (s : State)
    (h : ∀ a b, Memory.wf a.mem = true → Memory.wf a.ts = true → Memory.wf (g a b).mem = true ∧ Memory.wf (g a b).ts = true)
    (hm : Memory.wf s.mem = true) (ht : Memory.wf s.ts = true) :
    Memory.wf (l.foldl g s).mem = true ∧ Memory.wf (l.foldl g s).ts = true := by
  induction l generalizing s with
  | nil => exact ⟨hm, ht⟩
  | cons e r ih => exact ih (g s e) (h s e hm ht).1 (h s e hm ht).2

end

/-- The memories of a state as those of another that is canonical. -/
theorem canon_of_same {a b : State} (h : b.mem = a.mem ∧ b.ts = a.ts ∧ b.pending = a.pending) (hm : Memory.wf a.mem = true)
    (ht : Memory.wf a.ts = true) : Memory.wf b.mem = true ∧ Memory.wf b.ts = true := by rw [h.1, h.2.1]; exact ⟨hm, ht⟩

theorem canon_ite (c : Prop) [Decidable c] (a b : State) (ha : Memory.wf a.mem = true ∧ Memory.wf a.ts = true)
    (hb : Memory.wf b.mem = true ∧ Memory.wf b.ts = true) :
    Memory.wf (if c then a else b).mem = true ∧ Memory.wf (if c then a else b).ts = true := by split <;> assumption

/-- State b keeps what is asked of it after state a: canonical memories stay canonical, and the queue is the same. -/
def Fine (a b : State) : Prop :=
  ((Memory.wf a.mem = true ∧ Memory.wf a.ts = true) → (Memory.wf b.mem = true ∧ Memory.wf b.ts = true)) ∧ b.pending = a.pending

theorem Fine.refl (a : State) : Fine a a := ⟨id, rfl⟩
theorem Fine.trans {a b c : State} (h : Fine a b) (g : Fine b c) : Fine a c := ⟨fun w => g.1 (h.1 w), g.2.trans h.2⟩
theorem Fine.same {a b : State} (h : b.mem = a.mem ∧ b.ts = a.ts ∧ b.pending = a.pending) : Fine a b :=
  ⟨fun w => by rw [h.1, h.2.1]; exact w, h.2.2⟩
theorem Fine.ite (c : Prop) [Decidable c] {s a b : State} (ha : Fine s a) (hb : Fine s b) : Fine s (if c then a else b) := by
  split <;> assumption

/-- A fold of fine steps is fine, whatever carries the state. -/
theorem Fine.foldl {γ β : Type} (p : γ → State) (g : γ → β → γ) (l : List β) (q : γ) (h : ∀ a b, Fine (p a) (p (g a b))) :
    Fine (p q) (p (l.foldl g q)) := by
  induction l generalizing q with
  | nil => exact Fine.refl _
  | cons e r ih => exact (h q e).trans (ih (g q e))

theorem Fine.folds {β : Type} (g : State → β → State) (l : List β) (s : State) (h : ∀ a b, Fine a (g a b)) : Fine s (l.foldl g s) :=
  Fine.foldl (fun a => a) g l s h

theorem Fine.fold1 {γ β : Type} (g : State × γ → β → State × γ) (l : List β) (q : State × γ) (h : ∀ a b, Fine a.1 (g a b).1) :
    Fine q.1 (l.foldl g q).1 := Fine.foldl (fun (a : State × γ) => a.1) g l q h

/-- Writing consecutive cells keeps the canonical form. -/
@[simp] theorem cellsWrite_wf (m : List Host.Cell) (a : Nat) (bs : Bytes) (h : Memory.wf m = true) : Memory.wf (cellsWrite m a bs) = true := by
  induction bs generalizing m a with
  | nil => exact h
  | cons b r ih => exact ih _ _ (Tab.wf_put 0 m a b h)

@[simp] theorem dropWhere_wf (m : List Host.Cell) (t : Nat → Bool) (h : Memory.wf m = true) : Memory.wf (Tab.dropWhere t m) = true :=
  Tab.wf_dropWhere 0 t m h

@[simp] theorem nil_wf : Memory.wf [] = true := rfl

end Sys2Proof.Machine
end

