-- ==== Sys2Proof/Laws/Keep/Ops.lean ====
section
/-! SUPPORT. What every operation of Machine/Ops.lean does to the memories and to the queue: it leaves them alone, or keeps the memories in
their canonical form. -/

set_option Elab.async false

namespace Sys2Proof.Machine

@[simp] theorem State.tick_same (s : State) (t : Nat) :
    (State.tick s t).mem = s.mem ∧ (State.tick s t).ts = s.ts ∧ (State.tick s t).pending = s.pending := by
  unfold State.tick
  refine ⟨?_, ?_, ?_⟩ <;> (try dsimp only) <;> (repeat' split) <;> simp [*]

@[simp] theorem State.wr_same (s : State) (f : Fld) (i : Nat) (n : Nat) :
    (State.wr s f i n).mem = s.mem ∧ (State.wr s f i n).ts = s.ts ∧ (State.wr s f i n).pending = s.pending := by
  unfold State.wr
  refine ⟨?_, ?_, ?_⟩ <;> (try dsimp only) <;> (repeat' split) <;> simp [*]

@[simp] theorem State.sat_same (s : State) (f : Fld) (i : Nat) (n : Nat) :
    (State.sat s f i n).mem = s.mem ∧ (State.sat s f i n).ts = s.ts ∧ (State.sat s f i n).pending = s.pending := by
  unfold State.sat
  refine ⟨?_, ?_, ?_⟩ <;> (try dsimp only) <;> (repeat' split) <;> simp [*]

@[simp] theorem State.wrBit_same (s : State) (f : Fld) (i : Nat) (b : Nat) (v : Bool) :
    (State.wrBit s f i b v).mem = s.mem ∧ (State.wrBit s f i b v).ts = s.ts ∧ (State.wrBit s f i b v).pending = s.pending := by
  unfold State.wrBit
  refine ⟨?_, ?_, ?_⟩ <;> (try dsimp only) <;> (repeat' split) <;> simp [*]

@[simp] theorem State.updTile_same (s : State) (x : Nat) (f : Tile → Tile) :
    (State.updTile s x f).mem = s.mem ∧ (State.updTile s x f).ts = s.ts ∧ (State.updTile s x f).pending = s.pending := by
  unfold State.updTile
  refine ⟨?_, ?_, ?_⟩ <;> (try dsimp only) <;> (repeat' split) <;> simp [*]

@[simp] theorem State.memWriteLine_canon (s : State) (a : Nat) (bs : Bytes) (hm : Memory.wf s.mem = true) (ht : Memory.wf s.ts = true) :
    Memory.wf (State.memWriteLine s a bs).mem = true ∧ Memory.wf (State.memWriteLine s a bs).ts = true := by
  unfold State.memWriteLine
  try dsimp only
  repeat' split
  all_goals simp [*]
@[simp] theorem State.memWriteLine_pending (s : State) (a : Nat) (bs : Bytes) : (State.memWriteLine s a bs).pending = s.pending := by
  unfold State.memWriteLine
  try dsimp only
  repeat' split
  all_goals simp [*]

@[simp] theorem State.memWriteFrom_canon (s : State) (a1 : Nat) (a2 : Nat) (a3 : Bytes) (hm : Memory.wf s.mem = true) (ht : Memory.wf s.ts = true) :
    Memory.wf (State.memWriteFrom s a1 a2 a3).mem = true ∧ Memory.wf (State.memWriteFrom s a1 a2 a3).ts = true := by
  induction a1 generalizing s a2 a3 with
  | zero => exact ⟨hm, ht⟩
  | succ n ih =>
    unfold State.memWriteFrom
    dsimp only
    split
    · exact ⟨hm, ht⟩
    · have w := State.memWriteLine_canon s a2 (a3.take (64 - a2 % 64)) hm ht
      exact ih _ _ _ w.1 w.2
@[simp] theorem State.memWriteFrom_pending (s : State) (a1 : Nat) (a2 : Nat) (a3 : Bytes) : (State.memWriteFrom s a1 a2 a3).pending = s.pending := by
  induction a1 generalizing s a2 a3 with
  | zero => rfl
  | succ n ih =>
    unfold State.memWriteFrom
    dsimp only
    split
    · rfl
    · simp [ih]

@[simp] theorem State.memWrite_canon (s : State) (a : Nat) (bs : Bytes) (hm : Memory.wf s.mem = true) (ht : Memory.wf s.ts = true) :
    Memory.wf (State.memWrite s a bs).mem = true ∧ Memory.wf (State.memWrite s a bs).ts = true := by
  unfold State.memWrite
  try dsimp only
  repeat' split
  all_goals simp [*]
@[simp] theorem State.memWrite_pending (s : State) (a : Nat) (bs : Bytes) : (State.memWrite s a bs).pending = s.pending := by
  unfold State.memWrite
  try dsimp only
  repeat' split
  all_goals simp [*]

@[simp] theorem State.free_same (s : State) :
    (State.free s).2.mem = s.mem ∧ (State.free s).2.ts = s.ts ∧ (State.free s).2.pending = s.pending := by
  unfold State.free
  refine ⟨?_, ?_, ?_⟩ <;> (try dsimp only) <;> (repeat' split) <;> simp [*]

@[simp] theorem State.attn_same (s : State) (f : Fld) :
    (State.attn s f).mem = s.mem ∧ (State.attn s f).ts = s.ts ∧ (State.attn s f).pending = s.pending := by
  unfold State.attn
  refine ⟨?_, ?_, ?_⟩ <;> (try dsimp only) <;> (repeat' split) <;> simp [*]

@[simp] theorem State.scbLand_same (s : State) (a : Aside) :
    (State.scbLand s a).mem = s.mem ∧ (State.scbLand s a).ts = s.ts ∧ (State.scbLand s a).pending = s.pending := by
  unfold State.scbLand
  refine ⟨?_, ?_, ?_⟩ <;> (try dsimp only) <;> (repeat' split) <;> simp [*]

@[simp] theorem State.scbDrain_same (a1 : List Aside) (a2 : State) :
    (State.scbDrain a1 a2).mem = a2.mem ∧ (State.scbDrain a1 a2).ts = a2.ts ∧ (State.scbDrain a1 a2).pending = a2.pending := by
  induction a1 generalizing a2 with
  | nil => exact ⟨rfl, rfl, rfl⟩
  | cons e r ih => simp [State.scbDrain, ih]

@[simp] theorem State.scbThawNow_same (s : State) (auto : Bool) :
    (State.scbThawNow s auto).mem = s.mem ∧ (State.scbThawNow s auto).ts = s.ts ∧ (State.scbThawNow s auto).pending = s.pending := by
  unfold State.scbThawNow
  refine ⟨?_, ?_, ?_⟩ <;> (try dsimp only) <;> (repeat' split) <;> simp [*]

@[simp] theorem State.scbFlushBegin_same (s : State) (reason : Nat) :
    (State.scbFlushBegin s reason).mem = s.mem ∧ (State.scbFlushBegin s reason).ts = s.ts ∧ (State.scbFlushBegin s reason).pending = s.pending := by
  unfold State.scbFlushBegin
  refine ⟨?_, ?_, ?_⟩ <;> (try dsimp only) <;> (repeat' split) <;> simp [*]

@[simp] theorem State.scbTrigger_same (s : State) (reason : Nat) (trip : Bool) :
    (State.scbTrigger s reason trip).mem = s.mem ∧ (State.scbTrigger s reason trip).ts = s.ts ∧ (State.scbTrigger s reason trip).pending = s.pending := by
  unfold State.scbTrigger
  refine ⟨?_, ?_, ?_⟩ <;> (try dsimp only) <;> (repeat' split) <;> simp [*]

@[simp] theorem State.note_same (s : State) (code : Nat) (value : Nat) :
    (State.note s code value).mem = s.mem ∧ (State.note s code value).ts = s.ts ∧ (State.note s code value).pending = s.pending := by
  unfold State.note
  refine ⟨?_, ?_, ?_⟩ <;> (try dsimp only) <;> (repeat' split) <;> simp [*]

@[simp] theorem State.noteWrite_same (s : State) (off : Nat) :
    (State.noteWrite s off).mem = s.mem ∧ (State.noteWrite s off).ts = s.ts ∧ (State.noteWrite s off).pending = s.pending := by
  unfold State.noteWrite
  refine ⟨?_, ?_, ?_⟩ <;> (try dsimp only) <;> (repeat' split) <;> simp [*]

@[simp] theorem State.noteFw_same (s : State) (k : Nat) (value : Nat) :
    (State.noteFw s k value).mem = s.mem ∧ (State.noteFw s k value).ts = s.ts ∧ (State.noteFw s k value).pending = s.pending := by
  unfold State.noteFw
  refine ⟨?_, ?_, ?_⟩ <;> (try dsimp only) <;> (repeat' split) <;> simp [*]

@[simp] theorem State.fpPush_same (s : State) (kind : Nat) (part : Nat) (repair : Nat) :
    (State.fpPush s kind part repair).mem = s.mem ∧ (State.fpPush s kind part repair).ts = s.ts ∧ (State.fpPush s kind part repair).pending = s.pending := by
  unfold State.fpPush
  refine ⟨?_, ?_, ?_⟩ <;> (try dsimp only) <;> (repeat' split) <;> simp [*]

@[simp] theorem State.retirePending_same (s : State) (x : Nat) (reason : Nat) :
    (State.retirePending s x reason).mem = s.mem ∧ (State.retirePending s x reason).ts = s.ts ∧ (State.retirePending s x reason).pending = s.pending := by
  unfold State.retirePending
  refine ⟨?_, ?_, ?_⟩ <;> (try dsimp only) <;> (repeat' split) <;> simp [*]

@[simp] theorem State.updEng_same (s : State) (x : Nat) (f : Engine → Engine) :
    (State.updEng s x f).mem = s.mem ∧ (State.updEng s x f).ts = s.ts ∧ (State.updEng s x f).pending = s.pending := by
  unfold State.updEng
  refine ⟨?_, ?_, ?_⟩ <;> (try dsimp only) <;> (repeat' split) <;> simp [*]

@[simp] theorem State.updThread_same (s : State) (x : Nat) (k : Nat) (f : Thread → Thread) :
    (State.updThread s x k f).mem = s.mem ∧ (State.updThread s x k f).ts = s.ts ∧ (State.updThread s x k f).pending = s.pending := by
  unfold State.updThread
  refine ⟨?_, ?_, ?_⟩ <;> (try dsimp only) <;> (repeat' split) <;> simp [*]

@[simp] theorem State.stopThread_same (s : State) (x : Nat) (k : Nat) :
    (State.stopThread s x k).mem = s.mem ∧ (State.stopThread s x k).ts = s.ts ∧ (State.stopThread s x k).pending = s.pending := by
  unfold State.stopThread
  refine ⟨?_, ?_, ?_⟩ <;> (try dsimp only) <;> (repeat' split) <;> simp [*]

@[simp] theorem State.haltChans_same (s : State) (x : Nat) (k : Nat) (code : Nat) :
    (State.haltChans s x k code).mem = s.mem ∧ (State.haltChans s x k code).ts = s.ts ∧ (State.haltChans s x k code).pending = s.pending := by
  unfold State.haltChans
  refine ⟨?_, ?_, ?_⟩ <;> (try dsimp only) <;> (repeat' split) <;> simp [*]

@[simp] theorem State.undoStart_same (s : State) (x : Nat) (k : Nat) :
    (State.undoStart s x k).mem = s.mem ∧ (State.undoStart s x k).ts = s.ts ∧ (State.undoStart s x k).pending = s.pending := by
  unfold State.undoStart
  refine ⟨?_, ?_, ?_⟩ <;> (try dsimp only) <;> (repeat' split) <;> simp [*]

@[simp] theorem State.trapThread_same (s : State) (x : Nat) (k : Nat) (code : Nat) (info : Nat) (shared : Bool) (multi : Bool) (idx : Nat) :
    (State.trapThread s x k code info shared multi idx).mem = s.mem ∧ (State.trapThread s x k code info shared multi idx).ts = s.ts ∧ (State.trapThread s x k code info shared multi idx).pending = s.pending := by
  unfold State.trapThread
  refine ⟨?_, ?_, ?_⟩ <;> (try dsimp only) <;> (repeat' split) <;> simp [*]

@[simp] theorem State.raise_same (s : State) (x : Nat) (k : Nat) (reqs : List TrapReq) (idx : Nat) :
    (State.raise s x k reqs idx).mem = s.mem ∧ (State.raise s x k reqs idx).ts = s.ts ∧ (State.raise s x k reqs idx).pending = s.pending := by
  unfold State.raise
  refine ⟨?_, ?_, ?_⟩ <;> (try dsimp only) <;> (repeat' split) <;> simp [*]

@[simp] theorem State.trapOne_same (s : State) (x : Nat) (k : Nat) (code : Nat) (info : Nat) :
    (State.trapOne s x k code info).mem = s.mem ∧ (State.trapOne s x k code info).ts = s.ts ∧ (State.trapOne s x k code info).pending = s.pending := by
  unfold State.trapOne
  refine ⟨?_, ?_, ?_⟩ <;> (try dsimp only) <;> (repeat' split) <;> simp [*]

@[simp] theorem State.trapAll_same (s : State) (x : Nat) (code : Nat) (info : Nat) :
    (State.trapAll s x code info).mem = s.mem ∧ (State.trapAll s x code info).ts = s.ts ∧ (State.trapAll s x code info).pending = s.pending := by
  unfold State.trapAll
  refine ⟨?_, ?_, ?_⟩ <;> (try dsimp only) <;> (repeat' split) <;> simp [*]

@[simp] theorem State.setFlags_same (s : State) (x : Nat) (k : Nat) (fl : Flags) :
    (State.setFlags s x k fl).mem = s.mem ∧ (State.setFlags s x k fl).ts = s.ts ∧ (State.setFlags s x k fl).pending = s.pending := by
  unfold State.setFlags
  refine ⟨?_, ?_, ?_⟩ <;> (try dsimp only) <;> (repeat' split) <;> simp [*]

end Sys2Proof.Machine
end

