-- ==== Sys2Proof/Laws/Keep/BeatOps.lean ====
section
/-! SUPPORT. What every operation of Machine/BeatOps.lean does to the memories and to the queue: it leaves them alone, or keeps the memories in
their canonical form. -/

set_option Elab.async false

namespace Sys2Proof.Machine

@[simp] theorem State.applyMsg_same (s : State) (m : Msg) :
    (State.applyMsg s m).mem = s.mem ∧ (State.applyMsg s m).ts = s.ts ∧ (State.applyMsg s m).pending = s.pending := by
  unfold State.applyMsg
  refine ⟨?_, ?_, ?_⟩ <;> (try dsimp only) <;> (repeat' split) <;> simp [*]

@[simp] theorem State.issue_same (s : State) (type : Nat) (target : Nat) :
    (State.issue s type target).mem = s.mem ∧ (State.issue s type target).ts = s.ts ∧ (State.issue s type target).pending = s.pending := by
  unfold State.issue
  refine ⟨?_, ?_, ?_⟩ <;> (try dsimp only) <;> (repeat' split) <;> simp [*]

@[simp] theorem State.issueRest_same (s : State) :
    (State.issueRest s).mem = s.mem ∧ (State.issueRest s).ts = s.ts ∧ (State.issueRest s).pending = s.pending := by
  unfold State.issueRest
  refine ⟨?_, ?_, ?_⟩ <;> (try dsimp only) <;> (repeat' split) <;> simp [*]

@[simp] theorem State.requestHold_same (s : State) :
    (State.requestHold s).mem = s.mem ∧ (State.requestHold s).ts = s.ts ∧ (State.requestHold s).pending = s.pending := by
  unfold State.requestHold
  refine ⟨?_, ?_, ?_⟩ <;> (try dsimp only) <;> (repeat' split) <;> simp [*]

@[simp] theorem State.updImg_same (s : State) (i : Nat) (f : Image → Image) :
    (State.updImg s i f).mem = s.mem ∧ (State.updImg s i f).ts = s.ts ∧ (State.updImg s i f).pending = s.pending := by
  unfold State.updImg
  refine ⟨?_, ?_, ?_⟩ <;> (try dsimp only) <;> (repeat' split) <;> simp [*]

@[simp] theorem State.overrun_same (s : State) (x : Nat) (cause : Nat) (detail : Nat) :
    (State.overrun s x cause detail).mem = s.mem ∧ (State.overrun s x cause detail).ts = s.ts ∧ (State.overrun s x cause detail).pending = s.pending := by
  unfold State.overrun
  refine ⟨?_, ?_, ?_⟩ <;> (try dsimp only) <;> (repeat' split) <;> simp [*]

@[simp] theorem State.overrunAll_same (s : State) (cause : Nat) (detail : Nat) :
    (State.overrunAll s cause detail).mem = s.mem ∧ (State.overrunAll s cause detail).ts = s.ts ∧ (State.overrunAll s cause detail).pending = s.pending := by
  unfold State.overrunAll
  refine ⟨?_, ?_, ?_⟩ <;> (try dsimp only) <;> (repeat' split) <;> simp [*]

@[simp] theorem State.noteShift_same (s : State) (x : Nat) (u : Nat) (late : Nat) :
    (State.noteShift s x u late).mem = s.mem ∧ (State.noteShift s x u late).ts = s.ts ∧ (State.noteShift s x u late).pending = s.pending := by
  unfold State.noteShift
  refine ⟨?_, ?_, ?_⟩ <;> (try dsimp only) <;> (repeat' split) <;> simp [*]

end Sys2Proof.Machine
end

