-- ==== Sys2Proof/Laws/Keep/StoreOps.lean ====
section
/-! SUPPORT. What every operation of Machine/StoreOps.lean does to the memories and to the queue: it leaves them alone, or keeps the memories in
their canonical form. -/

set_option Elab.async false

namespace Sys2Proof.Machine

@[simp] theorem State.remapRow_same (s : State) (x : Nat) (row : Nat) (copy : Bool) :
    (State.remapRow s x row copy).mem = s.mem ∧ (State.remapRow s x row copy).ts = s.ts ∧ (State.remapRow s x row copy).pending = s.pending := by
  unfold State.remapRow
  refine ⟨?_, ?_, ?_⟩ <;> (try dsimp only) <;> (repeat' split) <;> simp [*]

@[simp] theorem State.tsCorr_same (s : State) (x : Nat) (row : Nat) :
    (State.tsCorr s x row).mem = s.mem ∧ (State.tsCorr s x row).ts = s.ts ∧ (State.tsCorr s x row).pending = s.pending := by
  unfold State.tsCorr
  refine ⟨?_, ?_, ?_⟩ <;> (try dsimp only) <;> (repeat' split) <;> simp [*]

@[simp] theorem State.tsUncorr_same (s : State) (x : Nat) (row : Nat) :
    (State.tsUncorr s x row).mem = s.mem ∧ (State.tsUncorr s x row).ts = s.ts ∧ (State.tsUncorr s x row).pending = s.pending := by
  unfold State.tsUncorr
  refine ⟨?_, ?_, ?_⟩ <;> (try dsimp only) <;> (repeat' split) <;> simp [*]

@[simp] theorem State.tsErrs_same (s : State) (x : Nat) (a : Nat) (n : Nat) (a1 : List MemErr) :
    (State.tsErrs s x a n a1).mem = s.mem ∧ (State.tsErrs s x a n a1).ts = s.ts ∧ (State.tsErrs s x a n a1).pending = s.pending := by
  induction a1 generalizing s with
  | nil => exact ⟨rfl, rfl, rfl⟩
  | cons e r ih => simp [State.tsErrs, ih]

@[simp] theorem State.tsWriteRow_canon (s : State) (x : Nat) (a : Nat) (bs : Bytes) (hm : Memory.wf s.mem = true) (ht : Memory.wf s.ts = true) :
    Memory.wf (State.tsWriteRow s x a bs).mem = true ∧ Memory.wf (State.tsWriteRow s x a bs).ts = true := by
  unfold State.tsWriteRow
  try dsimp only
  repeat' split
  all_goals simp [*]
@[simp] theorem State.tsWriteRow_pending (s : State) (x : Nat) (a : Nat) (bs : Bytes) : (State.tsWriteRow s x a bs).pending = s.pending := by
  unfold State.tsWriteRow
  try dsimp only
  repeat' split
  all_goals simp [*]

@[simp] theorem State.tsWriteFrom_canon (s : State) (x : Nat) (a1 : Nat) (a2 : Nat) (a3 : Bytes) (hm : Memory.wf s.mem = true) (ht : Memory.wf s.ts = true) :
    Memory.wf (State.tsWriteFrom s x a1 a2 a3).mem = true ∧ Memory.wf (State.tsWriteFrom s x a1 a2 a3).ts = true := by
  induction a1 generalizing s a2 a3 with
  | zero => exact ⟨hm, ht⟩
  | succ n ih =>
    unfold State.tsWriteFrom
    dsimp only
    split
    · exact ⟨hm, ht⟩
    · have w := State.tsWriteRow_canon s x a2 (a3.take (64 - a2 % 64)) hm ht
      exact ih _ _ _ w.1 w.2
@[simp] theorem State.tsWriteFrom_pending (s : State) (x : Nat) (a1 : Nat) (a2 : Nat) (a3 : Bytes) : (State.tsWriteFrom s x a1 a2 a3).pending = s.pending := by
  induction a1 generalizing s a2 a3 with
  | zero => rfl
  | succ n ih =>
    unfold State.tsWriteFrom
    dsimp only
    split
    · rfl
    · simp [ih]

@[simp] theorem State.tsWrite_canon (s : State) (x : Nat) (a : Nat) (bs : Bytes) (hm : Memory.wf s.mem = true) (ht : Memory.wf s.ts = true) :
    Memory.wf (State.tsWrite s x a bs).mem = true ∧ Memory.wf (State.tsWrite s x a bs).ts = true := by
  unfold State.tsWrite
  try dsimp only
  repeat' split
  all_goals simp [*]
@[simp] theorem State.tsWrite_pending (s : State) (x : Nat) (a : Nat) (bs : Bytes) : (State.tsWrite s x a bs).pending = s.pending := by
  unfold State.tsWrite
  try dsimp only
  repeat' split
  all_goals simp [*]

@[simp] theorem State.poisonRows_same (s : State) (x : Nat) (row : Nat) (a1 : Nat) :
    (State.poisonRows s x row a1).mem = s.mem ∧ (State.poisonRows s x row a1).ts = s.ts ∧ (State.poisonRows s x row a1).pending = s.pending := by
  induction a1 generalizing s row with
  | zero => exact ⟨rfl, rfl, rfl⟩
  | succ n ih => simp [State.poisonRows, ih]

theorem State.takeSlot_same (s : State) (x : Nat) (p : Slot → Bool) (res : Slot × State) (h : (State.takeSlot s x p) = some res) :
    res.2.mem = s.mem ∧ res.2.ts = s.ts ∧ res.2.pending = s.pending := by
  unfold State.takeSlot at h
  repeat' split at h
  all_goals try cases h
  all_goals simp

@[simp] theorem State.setVreg_same (s : State) (x : Nat) (r : Nat) (lanes : List Nat) :
    (State.setVreg s x r lanes).mem = s.mem ∧ (State.setVreg s x r lanes).ts = s.ts ∧ (State.setVreg s x r lanes).pending = s.pending := by
  exact State.updEng_same _ _ _

end Sys2Proof.Machine
end

