-- ==== Sys2Proof/Laws/Keep/Vector.lean ====
section
/-! SUPPORT. What every operation of Machine/Vector.lean does to the memories and to the queue: it leaves them alone, or keeps the memories in
their canonical form. -/

set_option Elab.async false

namespace Sys2Proof.Machine

@[simp] theorem State.vecPush_same (s : State) (x : Nat) (dst : Nat) (due : Nat) (lanes : List Nat) :
    (State.vecPush s x dst due lanes).mem = s.mem ∧ (State.vecPush s x dst due lanes).ts = s.ts ∧ (State.vecPush s x dst due lanes).pending = s.pending := by
  unfold State.vecPush
  refine ⟨?_, ?_, ?_⟩ <;> (try dsimp only) <;> (repeat' split)
  all_goals first | with_reducible rfl | (simp; done) | (have w := State.takeSlot_same _ _ _ _ (by assumption); simp at w; simp [w]; done) | simp [*]

@[simp] theorem State.vecRun_same (s : State) (x : Nat) (op : Nat) :
    (State.vecRun s x op).mem = s.mem ∧ (State.vecRun s x op).ts = s.ts ∧ (State.vecRun s x op).pending = s.pending := by
  unfold State.vecRun
  refine ⟨?_, ?_, ?_⟩ <;> (try dsimp only) <;> (repeat' split)
  all_goals first | with_reducible rfl | (simp; done) | (have w := State.takeSlot_same _ _ _ _ (by assumption); simp at w; simp [w]; done) | simp [*]

theorem execVectorAdd_same (t : Nat) (x : TileIx) (s : State) (s' : State) (h : (execVectorAdd t x s) = .next s') :
    s'.mem = s.mem ∧ s'.ts = s.ts ∧ s'.pending = s.pending := by
  unfold execVectorAdd at h
  repeat' split at h
  all_goals try cases h
  all_goals simp

theorem execVectorMul_same (t : Nat) (x : TileIx) (s : State) (s' : State) (h : (execVectorMul t x s) = .next s') :
    s'.mem = s.mem ∧ s'.ts = s.ts ∧ s'.pending = s.pending := by
  unfold execVectorMul at h
  repeat' split at h
  all_goals try cases h
  all_goals simp

theorem execVectorFma_same (t : Nat) (x : TileIx) (s : State) (s' : State) (h : (execVectorFma t x s) = .next s') :
    s'.mem = s.mem ∧ s'.ts = s.ts ∧ s'.pending = s.pending := by
  unfold execVectorFma at h
  repeat' split at h
  all_goals try cases h
  all_goals simp

theorem execVectorMax_same (t : Nat) (x : TileIx) (s : State) (s' : State) (h : (execVectorMax t x s) = .next s') :
    s'.mem = s.mem ∧ s'.ts = s.ts ∧ s'.pending = s.pending := by
  unfold execVectorMax at h
  repeat' split at h
  all_goals try cases h
  all_goals simp

theorem execVectorMin_same (t : Nat) (x : TileIx) (s : State) (s' : State) (h : (execVectorMin t x s) = .next s') :
    s'.mem = s.mem ∧ s'.ts = s.ts ∧ s'.pending = s.pending := by
  unfold execVectorMin at h
  repeat' split at h
  all_goals try cases h
  all_goals simp

theorem execVectorCmplt_same (t : Nat) (x : TileIx) (s : State) (s' : State) (h : (execVectorCmplt t x s) = .next s') :
    s'.mem = s.mem ∧ s'.ts = s.ts ∧ s'.pending = s.pending := by
  unfold execVectorCmplt at h
  repeat' split at h
  all_goals try cases h
  all_goals simp

theorem execVectorSel_same (t : Nat) (x : TileIx) (s : State) (s' : State) (h : (execVectorSel t x s) = .next s') :
    s'.mem = s.mem ∧ s'.ts = s.ts ∧ s'.pending = s.pending := by
  unfold execVectorSel at h
  repeat' split at h
  all_goals try cases h
  all_goals simp

theorem execVectorBcast_same (t : Nat) (x : TileIx) (s : State) (s' : State) (h : (execVectorBcast t x s) = .next s') :
    s'.mem = s.mem ∧ s'.ts = s.ts ∧ s'.pending = s.pending := by
  unfold execVectorBcast at h
  repeat' split at h
  all_goals try cases h
  all_goals simp

theorem execVectorExp2_same (t : Nat) (x : TileIx) (s : State) (s' : State) (h : (execVectorExp2 t x s) = .next s') :
    s'.mem = s.mem ∧ s'.ts = s.ts ∧ s'.pending = s.pending := by
  unfold execVectorExp2 at h
  repeat' split at h
  all_goals try cases h
  all_goals simp

theorem execVectorLog2_same (t : Nat) (x : TileIx) (s : State) (s' : State) (h : (execVectorLog2 t x s) = .next s') :
    s'.mem = s.mem ∧ s'.ts = s.ts ∧ s'.pending = s.pending := by
  unfold execVectorLog2 at h
  repeat' split at h
  all_goals try cases h
  all_goals simp

theorem execVectorRcp_same (t : Nat) (x : TileIx) (s : State) (s' : State) (h : (execVectorRcp t x s) = .next s') :
    s'.mem = s.mem ∧ s'.ts = s.ts ∧ s'.pending = s.pending := by
  unfold execVectorRcp at h
  repeat' split at h
  all_goals try cases h
  all_goals simp

theorem execVectorRsqrt_same (t : Nat) (x : TileIx) (s : State) (s' : State) (h : (execVectorRsqrt t x s) = .next s') :
    s'.mem = s.mem ∧ s'.ts = s.ts ∧ s'.pending = s.pending := by
  unfold execVectorRsqrt at h
  repeat' split at h
  all_goals try cases h
  all_goals simp

theorem execVectorTanh_same (t : Nat) (x : TileIx) (s : State) (s' : State) (h : (execVectorTanh t x s) = .next s') :
    s'.mem = s.mem ∧ s'.ts = s.ts ∧ s'.pending = s.pending := by
  unfold execVectorTanh at h
  repeat' split at h
  all_goals try cases h
  all_goals simp

theorem execVectorRedsum_same (t : Nat) (x : TileIx) (s : State) (s' : State) (h : (execVectorRedsum t x s) = .next s') :
    s'.mem = s.mem ∧ s'.ts = s.ts ∧ s'.pending = s.pending := by
  unfold execVectorRedsum at h
  repeat' split at h
  all_goals try cases h
  all_goals simp

@[simp] theorem State.updCtx_same (s : State) (x : Nat) (n : Nat) (f : Ctx → Ctx) :
    (State.updCtx s x n f).mem = s.mem ∧ (State.updCtx s x n f).ts = s.ts ∧ (State.updCtx s x n f).pending = s.pending := by
  unfold State.updCtx
  refine ⟨?_, ?_, ?_⟩ <;> (try dsimp only) <;> (repeat' split)
  all_goals first | with_reducible rfl | (simp; done) | (have w := State.takeSlot_same _ _ _ _ (by assumption); simp at w; simp [w]; done) | simp [*]

@[simp] theorem State.cvtRun_same (s : State) (x : Nat) :
    (State.cvtRun s x).mem = s.mem ∧ (State.cvtRun s x).ts = s.ts ∧ (State.cvtRun s x).pending = s.pending := by
  unfold State.cvtRun
  refine ⟨?_, ?_, ?_⟩ <;> (try dsimp only) <;> (repeat' split)
  all_goals first | with_reducible rfl | (simp; done) | (have w := State.takeSlot_same _ _ _ _ (by assumption); simp at w; simp [w]; done) | simp [*]

theorem execVectorCvt_same (t : Nat) (x : TileIx) (s : State) (s' : State) (h : (execVectorCvt t x s) = .next s') :
    s'.mem = s.mem ∧ s'.ts = s.ts ∧ s'.pending = s.pending := by
  unfold execVectorCvt at h
  repeat' split at h
  all_goals try cases h
  all_goals simp

@[simp] theorem State.vecLand_same (s : State) (x : Nat) :
    (State.vecLand s x).mem = s.mem ∧ (State.vecLand s x).ts = s.ts ∧ (State.vecLand s x).pending = s.pending := by
  unfold State.vecLand
  refine ⟨?_, ?_, ?_⟩ <;> (try dsimp only) <;> (repeat' split)
  all_goals first | with_reducible rfl | (simp; done) | (have w := State.takeSlot_same _ _ _ _ (by assumption); simp at w; simp [w]; done) | simp [*]

theorem execVectorResult_same (t : Nat) (x : TileIx) (s : State) (s' : State) (h : (execVectorResult t x s) = .next s') :
    s'.mem = s.mem ∧ s'.ts = s.ts ∧ s'.pending = s.pending := by
  unfold execVectorResult at h
  repeat' split at h
  all_goals try cases h
  all_goals simp

end Sys2Proof.Machine
end

