-- ==== Sys2Proof/Laws/Keep/Store.lean ====
section
/-! SUPPORT. What every operation of Machine/Store.lean does to the memories and to the queue: it leaves them alone, or keeps the memories in
their canonical form. -/

set_option Elab.async false

namespace Sys2Proof.Machine

@[simp] theorem State.storePush_same (s : State) (x : Nat) (p : StorePend) :
    (State.storePush s x p).mem = s.mem ∧ (State.storePush s x p).ts = s.ts ∧ (State.storePush s x p).pending = s.pending := by
  unfold State.storePush
  refine ⟨?_, ?_, ?_⟩ <;> (try dsimp only) <;> (repeat' split)
  all_goals first | with_reducible rfl | (simp; done) | (have w := State.takeSlot_same _ _ _ _ (by assumption); simp at w; simp [w]; done) | simp [*]

@[simp] theorem State.storeLoad_same (s : State) (x : Nat) (errs : List MemErr) :
    (State.storeLoad s x errs).mem = s.mem ∧ (State.storeLoad s x errs).ts = s.ts ∧ (State.storeLoad s x errs).pending = s.pending := by
  unfold State.storeLoad
  refine ⟨?_, ?_, ?_⟩ <;> (try dsimp only) <;> (repeat' split)
  all_goals first | with_reducible rfl | (simp; done) | (have w := State.takeSlot_same _ _ _ _ (by assumption); simp at w; simp [w]; done) | simp [*]

theorem execStoreToRegister_same (t : Nat) (x : TileIx) (errs : List MemErr) (s : State) (s' : State) (h : (execStoreToRegister t x errs s) = .next s') :
    s'.mem = s.mem ∧ s'.ts = s.ts ∧ s'.pending = s.pending := by
  unfold execStoreToRegister at h
  try dsimp only at h
  repeat' split at h
  all_goals try cases h
  all_goals simp

@[simp] theorem State.storeSave_same (s : State) (x : Nat) :
    (State.storeSave s x).mem = s.mem ∧ (State.storeSave s x).ts = s.ts ∧ (State.storeSave s x).pending = s.pending := by
  unfold State.storeSave
  refine ⟨?_, ?_, ?_⟩ <;> (try dsimp only) <;> (repeat' split)
  all_goals first | with_reducible rfl | (simp; done) | (have w := State.takeSlot_same _ _ _ _ (by assumption); simp at w; simp [w]; done) | simp [*]

theorem execRegisterToStore_same (t : Nat) (x : TileIx) (s : State) (s' : State) (h : (execRegisterToStore t x s) = .next s') :
    s'.mem = s.mem ∧ s'.ts = s.ts ∧ s'.pending = s.pending := by
  unfold execRegisterToStore at h
  try dsimp only at h
  repeat' split at h
  all_goals try cases h
  all_goals simp

@[simp] theorem State.storeLand_canon (s : State) (x : Nat) (hm : Memory.wf s.mem = true) (ht : Memory.wf s.ts = true) :
    Memory.wf (State.storeLand s x).mem = true ∧ Memory.wf (State.storeLand s x).ts = true := by
  unfold State.storeLand
  try dsimp only
  repeat' split
  all_goals first | (simp [*]; done) | (have w := State.takeSlot_same _ _ _ _ (by assumption); simp at w; simp [*, w]; done)
@[simp] theorem State.storeLand_pending (s : State) (x : Nat) : (State.storeLand s x).pending = s.pending := by
  unfold State.storeLand
  try dsimp only
  repeat' split
  all_goals first | (simp [*]; done) | (have w := State.takeSlot_same _ _ _ _ (by assumption); simp at w; simp [*, w]; done)

theorem execStoreMoveComplete_canon (t : Nat) (x : TileIx) (s : State) (s' : State) (h : (execStoreMoveComplete t x s) = .next s') (hm : Memory.wf s.mem = true) (ht : Memory.wf s.ts = true) :
    Memory.wf s'.mem = true ∧ Memory.wf s'.ts = true := by
  unfold execStoreMoveComplete at h
  try dsimp only at h
  repeat' split at h
  all_goals try cases h
  all_goals simp [*]
theorem execStoreMoveComplete_pending (t : Nat) (x : TileIx) (s : State) (s' : State) (h : (execStoreMoveComplete t x s) = .next s') : s'.pending = s.pending := by
  unfold execStoreMoveComplete at h
  try dsimp only at h
  repeat' split at h
  all_goals try cases h
  all_goals simp [*]

theorem execTstoreRemapCopyDone_same (t : Nat) (x : TileIx) (bank : Fin 64) (s : State) (s' : State) (h : (execTstoreRemapCopyDone t x bank s) = .next s') :
    s'.mem = s.mem ∧ s'.ts = s.ts ∧ s'.pending = s.pending := by
  unfold execTstoreRemapCopyDone at h
  try dsimp only at h
  repeat' split at h
  all_goals try cases h
  all_goals simp

theorem execTstoreZeroingDone_canon (t : Nat) (x : TileIx) (s : State) (s' : State) (h : (execTstoreZeroingDone t x s) = .next s') (hm : Memory.wf s.mem = true) (ht : Memory.wf s.ts = true) :
    Memory.wf s'.mem = true ∧ Memory.wf s'.ts = true := by
  unfold execTstoreZeroingDone at h
  try dsimp only at h
  repeat' split at h
  all_goals try cases h
  all_goals simp [*]
theorem execTstoreZeroingDone_pending (t : Nat) (x : TileIx) (s : State) (s' : State) (h : (execTstoreZeroingDone t x s) = .next s') : s'.pending = s.pending := by
  unfold execTstoreZeroingDone at h
  try dsimp only at h
  repeat' split at h
  all_goals try cases h
  all_goals simp [*]

end Sys2Proof.Machine
end

