-- ==== Sys2Proof/Laws/Keep/Exchange.lean ====
section
/-! SUPPORT. What every operation of Machine/Exchange.lean does to the memories and to the queue: it leaves them alone, or keeps the memories in
their canonical form. -/

set_option Elab.async false

namespace Sys2Proof.Machine

@[simp] theorem State.updChan_same (s : State) (x : Nat) (c : Nat) (f : Chan → Chan) :
    (State.updChan s x c f).mem = s.mem ∧ (State.updChan s x c f).ts = s.ts ∧ (State.updChan s x c f).pending = s.pending := by
  unfold State.updChan
  refine ⟨?_, ?_, ?_⟩ <;> (try dsimp only) <;> (repeat' split)
  all_goals first | with_reducible rfl | (simp; done) | (have w := State.takeSlot_same _ _ _ _ (by assumption); simp at w; simp [w]; done) | simp [*]

@[simp] theorem State.dropAccs_same (s : State) (x : Nat) (c : Nat) (j : Nat) :
    (State.dropAccs s x c j).mem = s.mem ∧ (State.dropAccs s x c j).ts = s.ts ∧ (State.dropAccs s x c j).pending = s.pending := by
  unfold State.dropAccs
  refine ⟨?_, ?_, ?_⟩ <;> (try dsimp only) <;> (repeat' split)
  all_goals first | with_reducible rfl | (simp; done) | (have w := State.takeSlot_same _ _ _ _ (by assumption); simp at w; simp [w]; done) | simp [*]

@[simp] theorem State.chanFail_same (s : State) (x : Nat) (c : Nat) (j : Nat) (halt : Nat) (info : Nat) :
    (State.chanFail s x c j halt info).mem = s.mem ∧ (State.chanFail s x c j halt info).ts = s.ts ∧ (State.chanFail s x c j halt info).pending = s.pending := by
  unfold State.chanFail
  refine ⟨?_, ?_, ?_⟩ <;> (try dsimp only) <;> (repeat' split)
  all_goals first | with_reducible rfl | (simp; done) | (have w := State.takeSlot_same _ _ _ _ (by assumption); simp at w; simp [w]; done) | simp [*]

@[simp] theorem State.chanServed_same (s : State) (x : Nat) (c : Nat) :
    (State.chanServed s x c).mem = s.mem ∧ (State.chanServed s x c).ts = s.ts ∧ (State.chanServed s x c).pending = s.pending := by
  unfold State.chanServed
  refine ⟨?_, ?_, ?_⟩ <;> (try dsimp only) <;> (repeat' split)
  all_goals first | with_reducible rfl | (simp; done) | (have w := State.takeSlot_same _ _ _ _ (by assumption); simp at w; simp [w]; done) | simp [*]

@[simp] theorem State.xchStart_same (s : State) (x : Nat) :
    (State.xchStart s x).mem = s.mem ∧ (State.xchStart s x).ts = s.ts ∧ (State.xchStart s x).pending = s.pending := by
  unfold State.xchStart
  refine ⟨?_, ?_, ?_⟩ <;> (try dsimp only) <;> (repeat' split)
  all_goals first | with_reducible rfl | (simp; done) | (have w := State.takeSlot_same _ _ _ _ (by assumption); simp at w; simp [w]; done) | simp [*]

theorem execExchangeStart_same (t : Nat) (x : TileIx) (s : State) (s' : State) (h : (execExchangeStart t x s) = .next s') :
    s'.mem = s.mem ∧ s'.ts = s.ts ∧ s'.pending = s.pending := by
  unfold execExchangeStart at h
  try dsimp only at h
  repeat' split at h
  all_goals try cases h
  all_goals simp

@[simp] theorem State.updSlice_same (s : State) (x : Nat) (f : Slice → Slice) :
    (State.updSlice s x f).mem = s.mem ∧ (State.updSlice s x f).ts = s.ts ∧ (State.updSlice s x f).pending = s.pending := by
  unfold State.updSlice
  refine ⟨?_, ?_, ?_⟩ <;> (try dsimp only) <;> (repeat' split)
  all_goals first | with_reducible rfl | (simp; done) | (have w := State.takeSlot_same _ _ _ _ (by assumption); simp at w; simp [w]; done) | simp [*]

@[simp] theorem State.sendInbound_same (s : State) (a : Acc) :
    (State.sendInbound s a).mem = s.mem ∧ (State.sendInbound s a).ts = s.ts ∧ (State.sendInbound s a).pending = s.pending := by
  unfold State.sendInbound
  refine ⟨?_, ?_, ?_⟩ <;> (try dsimp only) <;> (repeat' split)
  all_goals first | with_reducible rfl | (simp; done) | (have w := State.takeSlot_same _ _ _ _ (by assumption); simp at w; simp [w]; done) | simp [*]

@[simp] theorem State.chunkOut_canon (s : State) (x : Nat) (c : Nat) (j : Nat) (e : Nat) (data : Bytes) (hm : Memory.wf s.mem = true) (ht : Memory.wf s.ts = true) :
    Memory.wf (State.chunkOut s x c j e data).mem = true ∧ Memory.wf (State.chunkOut s x c j e data).ts = true := by
  unfold State.chunkOut
  try dsimp only
  repeat' split
  all_goals first | (simp [*]; done) | (have w := State.takeSlot_same _ _ _ _ (by assumption); simp at w; simp [*, w]; done)
@[simp] theorem State.chunkOut_pending (s : State) (x : Nat) (c : Nat) (j : Nat) (e : Nat) (data : Bytes) : (State.chunkOut s x c j e data).pending = s.pending := by
  unfold State.chunkOut
  try dsimp only
  repeat' split
  all_goals first | (simp [*]; done) | (have w := State.takeSlot_same _ _ _ _ (by assumption); simp at w; simp [*, w]; done)

@[simp] theorem State.chunkMove_canon (s : State) (x : Nat) (c : Nat) (errs : List MemErr) (hm : Memory.wf s.mem = true) (ht : Memory.wf s.ts = true) :
    Memory.wf (State.chunkMove s x c errs).mem = true ∧ Memory.wf (State.chunkMove s x c errs).ts = true := by
  unfold State.chunkMove
  try dsimp only
  repeat' split
  all_goals first | (simp [*]; done) | (have w := State.takeSlot_same _ _ _ _ (by assumption); simp at w; simp [*, w]; done)
@[simp] theorem State.chunkMove_pending (s : State) (x : Nat) (c : Nat) (errs : List MemErr) : (State.chunkMove s x c errs).pending = s.pending := by
  unfold State.chunkMove
  try dsimp only
  repeat' split
  all_goals first | (simp [*]; done) | (have w := State.takeSlot_same _ _ _ _ (by assumption); simp at w; simp [*, w]; done)

theorem execExchangeChunkMove_canon (t : Nat) (x : TileIx) (c : ChanIx) (errs : List MemErr) (s : State) (s' : State) (h : (execExchangeChunkMove t x c errs s) = .next s') (hm : Memory.wf s.mem = true) (ht : Memory.wf s.ts = true) :
    Memory.wf s'.mem = true ∧ Memory.wf s'.ts = true := by
  unfold execExchangeChunkMove at h
  try dsimp only at h
  repeat' split at h
  all_goals try cases h
  all_goals simp [*]
theorem execExchangeChunkMove_pending (t : Nat) (x : TileIx) (c : ChanIx) (errs : List MemErr) (s : State) (s' : State) (h : (execExchangeChunkMove t x c errs s) = .next s') : s'.pending = s.pending := by
  unfold execExchangeChunkMove at h
  try dsimp only at h
  repeat' split at h
  all_goals try cases h
  all_goals simp [*]

@[simp] theorem State.chanHalt_same (s : State) (x : Nat) (c : Nat) :
    (State.chanHalt s x c).mem = s.mem ∧ (State.chanHalt s x c).ts = s.ts ∧ (State.chanHalt s x c).pending = s.pending := by
  unfold State.chanHalt
  refine ⟨?_, ?_, ?_⟩ <;> (try dsimp only) <;> (repeat' split)
  all_goals first | with_reducible rfl | (simp; done) | (have w := State.takeSlot_same _ _ _ _ (by assumption); simp at w; simp [w]; done) | simp [*]

theorem execExchangeChannelHalt_same (t : Nat) (x : TileIx) (c : ChanIx) (s : State) (s' : State) (h : (execExchangeChannelHalt t x c s) = .next s') :
    s'.mem = s.mem ∧ s'.ts = s.ts ∧ s'.pending = s.pending := by
  unfold execExchangeChannelHalt at h
  try dsimp only at h
  repeat' split at h
  all_goals try cases h
  all_goals simp

end Sys2Proof.Machine
end

