-- ==== Sys2Proof/Laws/Keep/MarginOps.lean ====
section
/-! SUPPORT. What every operation of Machine/MarginOps.lean does to the memories and to the queue: it leaves them alone, or keeps the memories in
their canonical form. -/

set_option Elab.async false

namespace Sys2Proof.Machine

@[simp] theorem State.marginShow_same (s : State) (cause : Nat) :
    (State.marginShow s cause).mem = s.mem ∧ (State.marginShow s cause).ts = s.ts ∧ (State.marginShow s cause).pending = s.pending := by
  unfold State.marginShow
  refine ⟨?_, ?_, ?_⟩ <;> (try dsimp only) <;> (repeat' split)
  all_goals first | with_reducible rfl | (simp; done) | (have w := State.takeSlot_same _ _ _ _ (by assumption); simp at w; simp [w]; done) | simp [*]

@[simp] theorem State.marginEnd_same (s : State) (cause : Nat) :
    (State.marginEnd s cause).mem = s.mem ∧ (State.marginEnd s cause).ts = s.ts ∧ (State.marginEnd s cause).pending = s.pending := by
  unfold State.marginEnd
  refine ⟨?_, ?_, ?_⟩ <;> (try dsimp only) <;> (repeat' split)
  all_goals first | with_reducible rfl | (simp; done) | (have w := State.takeSlot_same _ _ _ _ (by assumption); simp at w; simp [w]; done) | simp [*]

@[simp] theorem State.marginAbort_same (s : State) (cause : Nat) (hit : MarginRun → Bool) :
    (State.marginAbort s cause hit).mem = s.mem ∧ (State.marginAbort s cause hit).ts = s.ts ∧ (State.marginAbort s cause hit).pending = s.pending := by
  unfold State.marginAbort
  refine ⟨?_, ?_, ?_⟩ <;> (try dsimp only) <;> (repeat' split)
  all_goals first | with_reducible rfl | (simp; done) | (have w := State.takeSlot_same _ _ _ _ (by assumption); simp at w; simp [w]; done) | simp [*]

end Sys2Proof.Machine
end

