-- ==== Sys2Proof/Laws/Keep/Threads.lean ====
section
/-! SUPPORT. What every operation of Machine/Threads.lean does to the memories and to the queue: it leaves them alone, or keeps the memories in
their canonical form. -/

set_option Elab.async false

namespace Sys2Proof.Machine

@[simp] theorem State.updPart_same (s : State) (x : Nat) (k : Nat) (f : Part → Part) :
    (State.updPart s x k f).mem = s.mem ∧ (State.updPart s x k f).ts = s.ts ∧ (State.updPart s x k f).pending = s.pending := by
  unfold State.updPart
  refine ⟨?_, ?_, ?_⟩ <;> (try dsimp only) <;> (repeat' split)
  all_goals first | with_reducible rfl | (simp; done) | (have w := State.takeSlot_same _ _ _ _ (by assumption); simp at w; simp [w]; done) | simp [*]

@[simp] theorem State.startThread_same (s : State) (x : Nat) (k : Nat) :
    (State.startThread s x k).mem = s.mem ∧ (State.startThread s x k).ts = s.ts ∧ (State.startThread s x k).pending = s.pending := by
  unfold State.startThread
  refine ⟨?_, ?_, ?_⟩ <;> (try dsimp only) <;> (repeat' split)
  all_goals first | with_reducible rfl | (simp; done) | (have w := State.takeSlot_same _ _ _ _ (by assumption); simp at w; simp [w]; done) | simp [*]

theorem execThreadStart_same (t : Nat) (x : TileIx) (mask : BitVec 4) (s : State) (s' : State) (h : (execThreadStart t x mask s) = .next s') :
    s'.mem = s.mem ∧ s'.ts = s.ts ∧ s'.pending = s.pending := by
  unfold execThreadStart at h
  try dsimp only at h
  repeat' split at h
  all_goals try cases h
  all_goals simp

theorem execThreadStop_same (t : Nat) (x : TileIx) (mask : BitVec 4) (s : State) (s' : State) (h : (execThreadStop t x mask s) = .next s') :
    s'.mem = s.mem ∧ s'.ts = s.ts ∧ s'.pending = s.pending := by
  unfold execThreadStop at h
  try dsimp only at h
  repeat' split at h
  all_goals try cases h
  all_goals simp

@[simp] theorem State.setAttTrap_same (s : State) (x : Nat) (v : Bool) :
    (State.setAttTrap s x v).mem = s.mem ∧ (State.setAttTrap s x v).ts = s.ts ∧ (State.setAttTrap s x v).pending = s.pending := by
  unfold State.setAttTrap
  refine ⟨?_, ?_, ?_⟩ <;> (try dsimp only) <;> (repeat' split)
  all_goals first | with_reducible rfl | (simp; done) | (have w := State.takeSlot_same _ _ _ _ (by assumption); simp at w; simp [w]; done) | simp [*]

@[simp] theorem State.recordTrap_same (s : State) (x : Nat) (k : Nat) :
    (State.recordTrap s x k).mem = s.mem ∧ (State.recordTrap s x k).ts = s.ts ∧ (State.recordTrap s x k).pending = s.pending := by
  unfold State.recordTrap
  refine ⟨?_, ?_, ?_⟩ <;> (try dsimp only) <;> (repeat' split)
  all_goals first | with_reducible rfl | (simp; done) | (have w := State.takeSlot_same _ _ _ _ (by assumption); simp at w; simp [w]; done) | simp [*]

theorem execTrapRecord_same (t : Nat) (x : TileIx) (k : ThreadIx) (s : State) (s' : State) (h : (execTrapRecord t x k s) = .next s') :
    s'.mem = s.mem ∧ s'.ts = s.ts ∧ s'.pending = s.pending := by
  unfold execTrapRecord at h
  try dsimp only at h
  repeat' split at h
  all_goals try cases h
  all_goals simp

end Sys2Proof.Machine
end

