-- ==== Sys2Proof/Laws/Keep/SliceOps.lean ====
section
/-! SUPPORT. What every operation of Machine/SliceOps.lean does to the memories and to the queue: it leaves them alone, or keeps the memories in
their canonical form. -/

set_option Elab.async false

namespace Sys2Proof.Machine

@[simp] theorem State.logUncorr_same (s : State) (x : Nat) (path : Nat) (line : Nat) :
    (State.logUncorr s x path line).mem = s.mem ∧ (State.logUncorr s x path line).ts = s.ts ∧ (State.logUncorr s x path line).pending = s.pending := by
  unfold State.logUncorr
  refine ⟨?_, ?_, ?_⟩ <;> (try dsimp only) <;> (repeat' split)
  all_goals first | with_reducible rfl | (simp; done) | (have w := State.takeSlot_same _ _ _ _ (by assumption); simp at w; simp [w]; done) | simp [*]

@[simp] theorem State.lineCorr_same (s : State) (x : Nat) (line : Nat) (die : Bool) :
    (State.lineCorr s x line die).mem = s.mem ∧ (State.lineCorr s x line die).ts = s.ts ∧ (State.lineCorr s x line die).pending = s.pending := by
  unfold State.lineCorr
  refine ⟨?_, ?_, ?_⟩ <;> (try dsimp only) <;> (repeat' split)
  all_goals first | with_reducible rfl | (simp; done) | (have w := State.takeSlot_same _ _ _ _ (by assumption); simp at w; simp [w]; done) | simp [*]

@[simp] theorem State.lineErr_same (s : State) (x : Nat) (line : Nat) (k : ErrKind) :
    (State.lineErr s x line k).mem = s.mem ∧ (State.lineErr s x line k).ts = s.ts ∧ (State.lineErr s x line k).pending = s.pending := by
  unfold State.lineErr
  refine ⟨?_, ?_, ?_⟩ <;> (try dsimp only) <;> (repeat' split)
  all_goals first | with_reducible rfl | (simp; done) | (have w := State.takeSlot_same _ _ _ _ (by assumption); simp at w; simp [w]; done) | simp [*]

@[simp] theorem State.dramTouch_same (s : State) (x : Nat) (off : Nat) (n : Nat) (path : Nat) (errs : List MemErr) :
    (State.dramTouch s x off n path errs).1.mem = s.mem ∧ (State.dramTouch s x off n path errs).1.ts = s.ts ∧ (State.dramTouch s x off n path errs).1.pending = s.pending := by
  unfold State.dramTouch
  refine ⟨?_, ?_, ?_⟩ <;> (try dsimp only) <;> (repeat' split)
  all_goals first | with_reducible rfl | (simp; done) | (have w := State.takeSlot_same _ _ _ _ (by assumption); simp at w; simp [w]; done) | simp [*]

@[simp] theorem State.dramWrite_canon (s : State) (x : Nat) (off : Nat) (path : Nat) (bs : Bytes) (hm : Memory.wf s.mem = true) (ht : Memory.wf s.ts = true) :
    Memory.wf (State.dramWrite s x off path bs).mem = true ∧ Memory.wf (State.dramWrite s x off path bs).ts = true := by
  unfold State.dramWrite
  try dsimp only
  repeat' split
  all_goals first | (simp [*]; done) | (refine foldl_canon _ _ _ (fun a b hm ht => ?_) (by simp [*]) (by simp [*]); dsimp only; (repeat' split) <;> simp [*]; done) | (have w := State.takeSlot_same _ _ _ _ (by assumption); simp at w; simp [*, w]; done)
@[simp] theorem State.dramWrite_pending (s : State) (x : Nat) (off : Nat) (path : Nat) (bs : Bytes) : (State.dramWrite s x off path bs).pending = s.pending := by
  unfold State.dramWrite
  try dsimp only
  repeat' split
  all_goals first | (simp [*]; done) | (have w := State.takeSlot_same _ _ _ _ (by assumption); simp at w; simp [*, w]; done)

@[simp] theorem State.pchUpdate_same (s : State) (a : Nat) (bs : Bytes) :
    (State.pchUpdate s a bs).mem = s.mem ∧ (State.pchUpdate s a bs).ts = s.ts ∧ (State.pchUpdate s a bs).pending = s.pending := by
  unfold State.pchUpdate
  refine ⟨?_, ?_, ?_⟩ <;> (try dsimp only) <;> (repeat' split)
  all_goals first | with_reducible rfl | (simp; done) | (have w := State.takeSlot_same _ _ _ _ (by assumption); simp at w; simp [w]; done) | simp [*]

@[simp] theorem State.sliceWriteBytes_canon (s : State) (x : Nat) (off : Nat) (path : Nat) (bs : Bytes) (hm : Memory.wf s.mem = true) (ht : Memory.wf s.ts = true) :
    Memory.wf (State.sliceWriteBytes s x off path bs).mem = true ∧ Memory.wf (State.sliceWriteBytes s x off path bs).ts = true := by
  unfold State.sliceWriteBytes
  try dsimp only
  repeat' split
  all_goals first | (simp [*]; done) | (refine foldl_canon _ _ _ (fun a b hm ht => ?_) (by simp [*]) (by simp [*]); dsimp only; (repeat' split) <;> simp [*]; done) | (have w := State.takeSlot_same _ _ _ _ (by assumption); simp at w; simp [*, w]; done)
@[simp] theorem State.sliceWriteBytes_pending (s : State) (x : Nat) (off : Nat) (path : Nat) (bs : Bytes) : (State.sliceWriteBytes s x off path bs).pending = s.pending := by
  unfold State.sliceWriteBytes
  try dsimp only
  repeat' split
  all_goals first | (simp [*]; done) | (have w := State.takeSlot_same _ _ _ _ (by assumption); simp at w; simp [*, w]; done)

@[simp] theorem State.sliceReadBytes_same (s : State) (x : Nat) (off : Nat) (n : Nat) (path : Nat) (errs : List MemErr) :
    (State.sliceReadBytes s x off n path errs).2.1.mem = s.mem ∧ (State.sliceReadBytes s x off n path errs).2.1.ts = s.ts ∧ (State.sliceReadBytes s x off n path errs).2.1.pending = s.pending := by
  unfold State.sliceReadBytes
  refine ⟨?_, ?_, ?_⟩ <;> (try dsimp only) <;> (repeat' split)
  all_goals first | with_reducible rfl | (simp; done) | (have w := State.takeSlot_same _ _ _ _ (by assumption); simp at w; simp [w]; done) | simp [*]

@[simp] theorem State.writeBackLine_canon (s : State) (x : Nat) (c : CLine) (hm : Memory.wf s.mem = true) (ht : Memory.wf s.ts = true) :
    Memory.wf (State.writeBackLine s x c).mem = true ∧ Memory.wf (State.writeBackLine s x c).ts = true := by
  unfold State.writeBackLine
  try dsimp only
  repeat' split
  all_goals first | (simp [*]; done) | (refine foldl_canon _ _ _ (fun a b hm ht => ?_) (by simp [*]) (by simp [*]); dsimp only; (repeat' split) <;> simp [*]; done) | (have w := State.takeSlot_same _ _ _ _ (by assumption); simp at w; simp [*, w]; done)
@[simp] theorem State.writeBackLine_pending (s : State) (x : Nat) (c : CLine) : (State.writeBackLine s x c).pending = s.pending := by
  unfold State.writeBackLine
  try dsimp only
  repeat' split
  all_goals first | (simp [*]; done) | (have w := State.takeSlot_same _ _ _ _ (by assumption); simp at w; simp [*, w]; done)

@[simp] theorem State.drainOne_canon (s : State) (x : Nat) (hm : Memory.wf s.mem = true) (ht : Memory.wf s.ts = true) :
    Memory.wf (State.drainOne s x).mem = true ∧ Memory.wf (State.drainOne s x).ts = true := by
  unfold State.drainOne
  try dsimp only
  repeat' split
  all_goals first | (simp [*]; done) | (refine foldl_canon _ _ _ (fun a b hm ht => ?_) (by simp [*]) (by simp [*]); dsimp only; (repeat' split) <;> simp [*]; done) | (have w := State.takeSlot_same _ _ _ _ (by assumption); simp at w; simp [*, w]; done)
@[simp] theorem State.drainOne_pending (s : State) (x : Nat) : (State.drainOne s x).pending = s.pending := by
  unfold State.drainOne
  try dsimp only
  repeat' split
  all_goals first | (simp [*]; done) | (have w := State.takeSlot_same _ _ _ _ (by assumption); simp at w; simp [*, w]; done)

@[simp] theorem State.cacheAlloc_canon (s : State) (x : Nat) (chunk : Nat) (dirty : Bool) (data : Bytes) (hm : Memory.wf s.mem = true) (ht : Memory.wf s.ts = true) :
    Memory.wf (State.cacheAlloc s x chunk dirty data).mem = true ∧ Memory.wf (State.cacheAlloc s x chunk dirty data).ts = true := by
  unfold State.cacheAlloc
  try dsimp only
  repeat' split
  all_goals first | (simp [*]; done) | (refine foldl_canon _ _ _ (fun a b hm ht => ?_) (by simp [*]) (by simp [*]); dsimp only; (repeat' split) <;> simp [*]; done) | (have w := State.takeSlot_same _ _ _ _ (by assumption); simp at w; simp [*, w]; done)
@[simp] theorem State.cacheAlloc_pending (s : State) (x : Nat) (chunk : Nat) (dirty : Bool) (data : Bytes) : (State.cacheAlloc s x chunk dirty data).pending = s.pending := by
  unfold State.cacheAlloc
  try dsimp only
  repeat' split
  all_goals first | (simp [*]; done) | (have w := State.takeSlot_same _ _ _ _ (by assumption); simp at w; simp [*, w]; done)

@[simp] theorem State.flushChunk_canon (s : State) (x : Nat) (chunk : Nat) (hm : Memory.wf s.mem = true) (ht : Memory.wf s.ts = true) :
    Memory.wf (State.flushChunk s x chunk).mem = true ∧ Memory.wf (State.flushChunk s x chunk).ts = true := by
  unfold State.flushChunk
  try dsimp only
  repeat' split
  all_goals first | (simp [*]; done) | (refine foldl_canon _ _ _ (fun a b hm ht => ?_) (by simp [*]) (by simp [*]); dsimp only; (repeat' split) <;> simp [*]; done) | (have w := State.takeSlot_same _ _ _ _ (by assumption); simp at w; simp [*, w]; done)
@[simp] theorem State.flushChunk_pending (s : State) (x : Nat) (chunk : Nat) : (State.flushChunk s x chunk).pending = s.pending := by
  unfold State.flushChunk
  try dsimp only
  repeat' split
  all_goals first | (simp [*]; done) | (have w := State.takeSlot_same _ _ _ _ (by assumption); simp at w; simp [*, w]; done)

@[simp] theorem State.invalChunk_same (s : State) (x : Nat) (chunk : Nat) :
    (State.invalChunk s x chunk).mem = s.mem ∧ (State.invalChunk s x chunk).ts = s.ts ∧ (State.invalChunk s x chunk).pending = s.pending := by
  unfold State.invalChunk
  refine ⟨?_, ?_, ?_⟩ <;> (try dsimp only) <;> (repeat' split)
  all_goals first | with_reducible rfl | (simp; done) | (have w := State.takeSlot_same _ _ _ _ (by assumption); simp at w; simp [w]; done) | simp [*]

@[simp] theorem State.writeBackAll_canon (s : State) (x : Nat) (hm : Memory.wf s.mem = true) (ht : Memory.wf s.ts = true) :
    Memory.wf (State.writeBackAll s x).mem = true ∧ Memory.wf (State.writeBackAll s x).ts = true := by
  unfold State.writeBackAll
  dsimp only
  have w := foldl_canon (fun (a : State) (_ : Nat) => a.drainOne x) [0, 1, 2, 3] s (fun a b hm ht => by simp [*]) hm ht
  exact foldl_canon _ _ _ (fun a b hm ht => by simp [*]) w.1 w.2
@[simp] theorem State.writeBackAll_pending (s : State) (x : Nat) : (State.writeBackAll s x).pending = s.pending := by
  unfold State.writeBackAll
  try dsimp only
  repeat' split
  all_goals first | (simp [*]; done) | (have w := State.takeSlot_same _ _ _ _ (by assumption); simp at w; simp [*, w]; done)

@[simp] theorem State.pchFill_same (s : State) (a : Nat) (data : Bytes) :
    (State.pchFill s a data).mem = s.mem ∧ (State.pchFill s a data).ts = s.ts ∧ (State.pchFill s a data).pending = s.pending := by
  unfold State.pchFill
  refine ⟨?_, ?_, ?_⟩ <;> (try dsimp only) <;> (repeat' split)
  all_goals first | with_reducible rfl | (simp; done) | (have w := State.takeSlot_same _ _ _ _ (by assumption); simp at w; simp [w]; done) | simp [*]

@[simp] theorem State.intrusion_same (s : State) (x : Nat) (held : Nat) :
    (State.intrusion s x held).mem = s.mem ∧ (State.intrusion s x held).ts = s.ts ∧ (State.intrusion s x held).pending = s.pending := by
  unfold State.intrusion
  refine ⟨?_, ?_, ?_⟩ <;> (try dsimp only) <;> (repeat' split)
  all_goals first | with_reducible rfl | (simp; done) | (have w := State.takeSlot_same _ _ _ _ (by assumption); simp at w; simp [w]; done) | simp [*]

end Sys2Proof.Machine
end

