-- ==== Sys2Proof/Laws/Keep/Array.lean ====
section
/-! SUPPORT. What every operation of Machine/Array.lean does to the memories and to the queue: it leaves them alone, or keeps the memories in
their canonical form. -/

set_option Elab.async false

namespace Sys2Proof.Machine

@[simp] theorem State.loadStart_same (s : State) (x : Nat) (k : Nat) (cyc : Nat) (j : Nat) (errs : List MemErr) :
    (State.loadStart s x k cyc j errs).mem = s.mem ∧ (State.loadStart s x k cyc j errs).ts = s.ts ∧ (State.loadStart s x k cyc j errs).pending = s.pending := by
  unfold State.loadStart
  extract_lets d i fmt
  split
  · simp
  · rename_i len sl base colAt scaleAt cols scales w s1 tsRanges s2 poison slice bad s3 s4 hc
    have e1 : s1.mem = s.mem ∧ s1.ts = s.ts ∧ s1.pending = s.pending := by simp [s1]
    have e2 : s2.mem = s.mem ∧ s2.ts = s.ts ∧ s2.pending = s.pending := by
      refine ⟨?_, ?_, ?_⟩ <;> simp only [s2] <;> split <;> simp [e1]
    have e3 : slice.1.mem = s2.mem ∧ slice.1.ts = s2.ts ∧ slice.1.pending = s2.pending := by
      by_cases hp : pdSlice d = true
      · simp only [slice, hp, if_true]
        exact foldl_keep3 (fun (q : State × Option Nat) => q.1) _ _ _ (fun a b => by simp)
      · simp only [slice, hp]
        simp
    have e4 : s3.mem = slice.1.mem ∧ s3.ts = slice.1.ts ∧ s3.pending = slice.1.pending := by simp [s3]
    have e5 : s4.mem = s3.mem ∧ s4.ts = s3.ts ∧ s4.pending = s3.pending := by
      clear_value poison
      refine ⟨?_, ?_, ?_⟩ <;> simp only [s4] <;> cases poison <;> simp
    have e6 := same_trans (same_trans (same_trans e2 e3) e4) e5
    split
    · exact same_trans e6 (by simp)
    · exact e6

@[simp] theorem State.loadDone_same (s : State) (x : Nat) (k : Nat) :
    (State.loadDone s x k).mem = s.mem ∧ (State.loadDone s x k).ts = s.ts ∧ (State.loadDone s x k).pending = s.pending := by
  unfold State.loadDone
  refine ⟨?_, ?_, ?_⟩ <;> (try dsimp only) <;> (repeat' split)
  all_goals first | with_reducible rfl | (simp; done) | (have w := State.takeSlot_same _ _ _ _ (by assumption); simp at w; simp [w]; done) | simp [*]

theorem execShadowLoadComplete_same (t : Nat) (x : TileIx) (k : ThreadIx) (s : State) (s' : State) (h : (execShadowLoadComplete t x k s) = .next s') :
    s'.mem = s.mem ∧ s'.ts = s.ts ∧ s'.pending = s.pending := by
  unfold execShadowLoadComplete at h
  try dsimp only at h
  repeat' split at h
  all_goals try cases h
  all_goals simp

@[simp] theorem State.passStart_same (s : State) (x : Nat) (k : Nat) (cyc : Nat) (j : Nat) (swap : Bool) :
    (State.passStart s x k cyc j swap).mem = s.mem ∧ (State.passStart s x k cyc j swap).ts = s.ts ∧ (State.passStart s x k cyc j swap).pending = s.pending := by
  unfold State.passStart
  refine ⟨?_, ?_, ?_⟩ <;> (try dsimp only) <;> (repeat' split)
  all_goals first | with_reducible rfl | (simp; done) | (have w := State.takeSlot_same _ _ _ _ (by assumption); simp at w; simp [w]; done) | simp [*]

@[simp] theorem State.arrayRun_same (s : State) (x : Nat) (cmd : Nat) (errs : List MemErr) :
    (State.arrayRun s x cmd errs).mem = s.mem ∧ (State.arrayRun s x cmd errs).ts = s.ts ∧ (State.arrayRun s x cmd errs).pending = s.pending := by
  unfold State.arrayRun
  refine ⟨?_, ?_, ?_⟩ <;> (try dsimp only) <;> (repeat' split)
  all_goals first | with_reducible rfl | (simp; done) | (have w := State.takeSlot_same _ _ _ _ (by assumption); simp at w; simp [w]; done) | simp [*]

theorem execArrayLoad_same (t : Nat) (x : TileIx) (errs : List MemErr) (s : State) (s' : State) (h : (execArrayLoad t x errs s) = .next s') :
    s'.mem = s.mem ∧ s'.ts = s.ts ∧ s'.pending = s.pending := by
  unfold execArrayLoad at h
  try dsimp only at h
  repeat' split at h
  all_goals try cases h
  all_goals simp

theorem execArrayPass_same (t : Nat) (x : TileIx) (s : State) (s' : State) (h : (execArrayPass t x s) = .next s') :
    s'.mem = s.mem ∧ s'.ts = s.ts ∧ s'.pending = s.pending := by
  unfold execArrayPass at h
  try dsimp only at h
  repeat' split at h
  all_goals try cases h
  all_goals simp

theorem execArrayPassLoad_same (t : Nat) (x : TileIx) (errs : List MemErr) (s : State) (s' : State) (h : (execArrayPassLoad t x errs s) = .next s') :
    s'.mem = s.mem ∧ s'.ts = s.ts ∧ s'.pending = s.pending := by
  unfold execArrayPassLoad at h
  try dsimp only at h
  repeat' split at h
  all_goals try cases h
  all_goals simp

@[simp] theorem State.abandon_same (s : State) (x : Nat) (k : Nat) :
    (State.abandon s x k).mem = s.mem ∧ (State.abandon s x k).ts = s.ts ∧ (State.abandon s x k).pending = s.pending := by
  unfold State.abandon
  refine ⟨?_, ?_, ?_⟩ <;> (try dsimp only) <;> (repeat' split)
  all_goals first | with_reducible rfl | (simp; done) | (have w := State.takeSlot_same _ _ _ _ (by assumption); simp at w; simp [w]; done) | simp [*]

@[simp] theorem State.outputRun_canon (s : State) (x : Nat) (k : Nat) (pi : Nat) (i : Nat) (n : Nat) (errs : List MemErr) (hm : Memory.wf s.mem = true) (ht : Memory.wf s.ts = true) :
    Memory.wf (State.outputRun s x k pi i n errs).mem = true ∧ Memory.wf (State.outputRun s x k pi i n errs).ts = true := by
  unfold State.outputRun
  split
  · exact ⟨hm, ht⟩
  · extract_lets d due
    split
    · exact ⟨hm, ht⟩
    · rename_i inF eb ranges s0 o s1 s2 s3 q s4 hc
      have e0 : Memory.wf s0.mem = true ∧ Memory.wf s0.ts = true := by simp [s0, *]
      have e1 : Memory.wf s1.mem = true ∧ Memory.wf s1.ts = true := by simp [s1, e0]
      have e2 : Memory.wf s2.mem = true ∧ Memory.wf s2.ts = true := by simp only [s2]; split <;> simp [e1]
      have e3 : Memory.wf s3.mem = true ∧ Memory.wf s3.ts = true := by simp only [s3]; split <;> simp [e2]
      have e4 : Memory.wf s4.mem = true ∧ Memory.wf s4.ts = true := by simp [s4, e3]
      split
      · simp [e0]
      · split
        · split <;> simp [e0, e4]
        · simp [e0, e4]
@[simp] theorem State.outputRun_pending (s : State) (x : Nat) (k : Nat) (pi : Nat) (i : Nat) (n : Nat) (errs : List MemErr) : (State.outputRun s x k pi i n errs).pending = s.pending := by
  unfold State.outputRun
  split
  · rfl
  · extract_lets d due
    split
    · rfl
    · rename_i inF eb ranges s0 o s1 s2 s3 q s4 hc
      have e0 : s0.pending = s.pending := by simp [s0]
      have e1 : s1.pending = s.pending := by simp [s1, e0]
      have e2 : s2.pending = s.pending := by simp only [s2]; split <;> simp [e1]
      have e3 : s3.pending = s.pending := by simp only [s3]; split <;> simp [e2]
      have e4 : s4.pending = s.pending := by simp [s4, e3]
      split
      · simp [e0]
      · split
        · split <;> simp [e0, e4]
        · simp [e0, e4]

theorem execArrayOutput_canon (t : Nat) (x : TileIx) (k : ThreadIx) (pass : Nat) (row : Nat) (col : Nat) (errs : List MemErr) (s : State) (s' : State) (h : (execArrayOutput t x k pass row col errs s) = .next s') (hm : Memory.wf s.mem = true) (ht : Memory.wf s.ts = true) :
    Memory.wf s'.mem = true ∧ Memory.wf s'.ts = true := by
  unfold execArrayOutput at h
  try dsimp only at h
  repeat' split at h
  all_goals try cases h
  all_goals simp [*]
theorem execArrayOutput_pending (t : Nat) (x : TileIx) (k : ThreadIx) (pass : Nat) (row : Nat) (col : Nat) (errs : List MemErr) (s : State) (s' : State) (h : (execArrayOutput t x k pass row col errs s) = .next s') : s'.pending = s.pending := by
  unfold execArrayOutput at h
  try dsimp only at h
  repeat' split at h
  all_goals try cases h
  all_goals simp [*]

theorem execArrayPassFault_same (t : Nat) (x : TileIx) (k : ThreadIx) (col : Nat) (parity : Bool) (s : State) (s' : State) (h : (execArrayPassFault t x k col parity s) = .next s') :
    s'.mem = s.mem ∧ s'.ts = s.ts ∧ s'.pending = s.pending := by
  unfold execArrayPassFault at h
  try dsimp only at h
  repeat' split at h
  all_goals try cases h
  all_goals simp

theorem execWeightParityIdle_same (t : Nat) (x : TileIx) (k : ThreadIx) (s : State) (s' : State) (h : (execWeightParityIdle t x k s) = .next s') :
    s'.mem = s.mem ∧ s'.ts = s.ts ∧ s'.pending = s.pending := by
  unfold execWeightParityIdle at h
  try dsimp only at h
  repeat' split at h
  all_goals try cases h
  all_goals simp

theorem execSharedControlFault_same (t : Nat) (x : TileIx) (s : State) (s' : State) (h : (execSharedControlFault t x s) = .next s') :
    s'.mem = s.mem ∧ s'.ts = s.ts ∧ s'.pending = s.pending := by
  unfold execSharedControlFault at h
  try dsimp only at h
  repeat' split at h
  all_goals try cases h
  all_goals simp

end Sys2Proof.Machine
end

