-- ==== Sys2Proof/Laws/Keep/MvPath.lean ====
section
/-! SUPPORT. What every operation of Machine/MvPath.lean does to the memories and to the queue: it leaves them alone, or keeps the memories in
their canonical form. -/

set_option Elab.async false

namespace Sys2Proof.Machine

set_option maxRecDepth 4000

@[simp] theorem State.mvStart_same (s : State) (x : Nat) :
    (State.mvStart s x).mem = s.mem ∧ (State.mvStart s x).ts = s.ts ∧ (State.mvStart s x).pending = s.pending := by
  unfold State.mvStart
  refine ⟨?_, ?_, ?_⟩ <;> (try dsimp only) <;> (repeat' split)
  all_goals first | with_reducible rfl | (simp; done) | (have w := State.takeSlot_same _ _ _ _ (by assumption); simp at w; simp [w]; done) | simp [*]

theorem execMvStart_same (t : Nat) (x : TileIx) (s : State) (s' : State) (h : (execMvStart t x s) = .next s') :
    s'.mem = s.mem ∧ s'.ts = s.ts ∧ s'.pending = s.pending := by
  unfold execMvStart at h
  try dsimp only at h
  repeat' split at h
  all_goals try cases h
  all_goals simp

@[simp] theorem State.putMv_same (s : State) (x : Nat) (old : MvRun) (new : Option MvRun) :
    (State.putMv s x old new).mem = s.mem ∧ (State.putMv s x old new).ts = s.ts ∧ (State.putMv s x old new).pending = s.pending := by
  unfold State.putMv
  refine ⟨?_, ?_, ?_⟩ <;> (try dsimp only) <;> (repeat' split)
  all_goals first | with_reducible rfl | (simp; done) | (have w := State.takeSlot_same _ _ _ _ (by assumption); simp at w; simp [w]; done) | simp [*]

@[simp] theorem State.slicePause_same (s : State) (x : Nat) (held : Option Nat) :
    (State.slicePause s x held).mem = s.mem ∧ (State.slicePause s x held).ts = s.ts ∧ (State.slicePause s x held).pending = s.pending := by
  unfold State.slicePause
  refine ⟨?_, ?_, ?_⟩ <;> (try dsimp only) <;> (repeat' split)
  all_goals first | with_reducible rfl | (simp; done) | (have w := State.takeSlot_same _ _ _ _ (by assumption); simp at w; simp [w]; done) | simp [*]

@[simp] theorem State.mvChunk_same (s : State) (x : Nat) (errs : List MemErr) :
    (State.mvChunk s x errs).mem = s.mem ∧ (State.mvChunk s x errs).ts = s.ts ∧ (State.mvChunk s x errs).pending = s.pending := by
  unfold State.mvChunk
  refine ⟨?_, ?_, ?_⟩ <;> (try dsimp only) <;> (repeat' split)
  all_goals first | with_reducible rfl | (simp; done) | (have w := State.takeSlot_same _ _ _ _ (by assumption); simp at w; simp [w]; done) | simp [*]

theorem execMvChunkRead_same (t : Nat) (x : TileIx) (errs : List MemErr) (s : State) (s' : State) (h : (execMvChunkRead t x errs s) = .next s') :
    s'.mem = s.mem ∧ s'.ts = s.ts ∧ s'.pending = s.pending := by
  unfold execMvChunkRead at h
  try dsimp only at h
  repeat' split at h
  all_goals try cases h
  all_goals simp

@[simp] theorem State.mvGroup_canon (s : State) (x : Nat) (errs : List MemErr) (hm : Memory.wf s.mem = true) (ht : Memory.wf s.ts = true) :
    Memory.wf (State.mvGroup s x errs).mem = true ∧ Memory.wf (State.mvGroup s x errs).ts = true := by
  unfold State.mvGroup
  cases (s.tile x).mv with
  | nil => exact ⟨hm, ht⟩
  | cons m r =>
    dsimp -zeta only
    extract_lets d w gc due g f eb vs n0 ranges s0 sums s1 done
    have e0 : Memory.wf s0.mem = true ∧ Memory.wf s0.ts = true := by simp [s0, *]
    have e1 : Memory.wf s1.mem = true ∧ Memory.wf s1.ts = true := by
      clear_value sums
      refine foldl_canon _ _ _ (fun a v am at' => ?_) e0.1 e0.2
      extract_lets row outs a1 a2 at0
      have b1 : Memory.wf a1.mem = true ∧ Memory.wf a1.ts = true := by simp [a1, *]
      have b2 : Memory.wf a2.mem = true ∧ Memory.wf a2.ts = true := by simp [a2, *]
      clear_value a1 a2
      refine canon_ite _ _ _ ?_ b2
      simp [b2]
    clear_value s0 s1
    repeat' split
    all_goals simp [*]
@[simp] theorem State.mvGroup_pending (s : State) (x : Nat) (errs : List MemErr) : (State.mvGroup s x errs).pending = s.pending := by
  unfold State.mvGroup
  cases (s.tile x).mv with
  | nil => rfl
  | cons m r =>
    dsimp -zeta only
    extract_lets d w gc due g f eb vs n0 ranges s0 sums s1 done
    have e0 : s0.pending = s.pending := by simp [s0]
    have e1 : s1.pending = s0.pending := by
      refine foldl_keep State.pending _ _ _ (fun a v => ?_)
      simp
    clear_value s0 s1
    repeat' split
    all_goals simp [*]

theorem execMvGroupOutput_canon (t : Nat) (x : TileIx) (errs : List MemErr) (s : State) (s' : State) (h : (execMvGroupOutput t x errs s) = .next s') (hm : Memory.wf s.mem = true) (ht : Memory.wf s.ts = true) :
    Memory.wf s'.mem = true ∧ Memory.wf s'.ts = true := by
  unfold execMvGroupOutput at h
  try dsimp only at h
  repeat' split at h
  all_goals try cases h
  all_goals simp [*]
theorem execMvGroupOutput_pending (t : Nat) (x : TileIx) (errs : List MemErr) (s : State) (s' : State) (h : (execMvGroupOutput t x errs s) = .next s') : s'.pending = s.pending := by
  unfold execMvGroupOutput at h
  try dsimp only at h
  repeat' split at h
  all_goals try cases h
  all_goals simp [*]

theorem execMvFault_same (t : Nat) (x : TileIx) (vec : Fin 16) (s : State) (s' : State) (h : (execMvFault t x vec s) = .next s') :
    s'.mem = s.mem ∧ s'.ts = s.ts ∧ s'.pending = s.pending := by
  unfold execMvFault at h
  try dsimp only at h
  repeat' split at h
  all_goals try cases h
  all_goals simp

end Sys2Proof.Machine
end

