-- ==== Sys2Proof/Laws/Keep/Kv.lean ====
section
/-! SUPPORT. What every operation of Machine/Kv.lean does to the memories and to the queue: it leaves them alone, or keeps the memories in
their canonical form. -/

set_option Elab.async false

namespace Sys2Proof.Machine

set_option maxRecDepth 4000

@[simp] theorem Work.s_same (self : Work) :
    (Work.s self).mem = self.s.mem ∧ (Work.s self).ts = self.s.ts ∧ (Work.s self).pending = self.s.pending := by
  unfold Work.s
  refine ⟨?_, ?_, ?_⟩ <;> (try dsimp only) <;> (repeat' split)
  all_goals first | with_reducible rfl | (simp; done) | (have w := State.takeSlot_same _ _ _ _ (by assumption); simp at w; simp [w]; done) | simp [*]

@[simp] theorem Work.putPt_canon (w : Work) (x : Nat) (h : Nat) (i : Nat) (e : PtE) (hm : Memory.wf w.s.mem = true) (ht : Memory.wf w.s.ts = true) :
    Memory.wf (Work.putPt w x h i e).s.mem = true ∧ Memory.wf (Work.putPt w x h i e).s.ts = true := by
  unfold Work.putPt
  try dsimp only
  repeat' split
  all_goals first | (simp [*]; done) | (refine foldl_canon _ _ _ (fun a b hm ht => ?_) (by simp [*]) (by simp [*]); dsimp only; (repeat' split) <;> simp [*]; done) | (have w := State.takeSlot_same _ _ _ _ (by assumption); simp at w; simp [*, w]; done)
@[simp] theorem Work.putPt_pending (w : Work) (x : Nat) (h : Nat) (i : Nat) (e : PtE) : (Work.putPt w x h i e).s.pending = w.s.pending := by
  unfold Work.putPt
  try dsimp only
  repeat' split
  all_goals first | (simp [*]; done) | (have w := State.takeSlot_same _ _ _ _ (by assumption); simp at w; simp [*, w]; done)

@[simp] theorem Work.putE_same (w : Work) (i : Nat) (e : LtE) :
    (Work.putE w i e).s.mem = w.s.mem ∧ (Work.putE w i e).s.ts = w.s.ts ∧ (Work.putE w i e).s.pending = w.s.pending := by
  unfold Work.putE
  refine ⟨?_, ?_, ?_⟩ <;> (try dsimp only) <;> (repeat' split)
  all_goals first | with_reducible rfl | (simp; done) | (have w := State.takeSlot_same _ _ _ _ (by assumption); simp at w; simp [w]; done) | simp [*]

@[simp] theorem Work.freeSlot_canon (w : Work) (x : Nat) (h : Nat) (i : Nat) (hm : Memory.wf w.s.mem = true) (ht : Memory.wf w.s.ts = true) :
    Memory.wf (Work.freeSlot w x h i).s.mem = true ∧ Memory.wf (Work.freeSlot w x h i).s.ts = true := by
  unfold Work.freeSlot
  try dsimp only
  repeat' split
  all_goals first | (simp [*]; done) | (refine foldl_canon _ _ _ (fun a b hm ht => ?_) (by simp [*]) (by simp [*]); dsimp only; (repeat' split) <;> simp [*]; done) | (have w := State.takeSlot_same _ _ _ _ (by assumption); simp at w; simp [*, w]; done)
@[simp] theorem Work.freeSlot_pending (w : Work) (x : Nat) (h : Nat) (i : Nat) : (Work.freeSlot w x h i).s.pending = w.s.pending := by
  unfold Work.freeSlot
  try dsimp only
  repeat' split
  all_goals first | (simp [*]; done) | (have w := State.takeSlot_same _ _ _ _ (by assumption); simp at w; simp [*, w]; done)

@[simp] theorem State.setScore_same (s : State) (x : Nat) (key : Nat) (v : Nat) :
    (State.setScore s x key v).mem = s.mem ∧ (State.setScore s x key v).ts = s.ts ∧ (State.setScore s x key v).pending = s.pending := by
  unfold State.setScore
  refine ⟨?_, ?_, ?_⟩ <;> (try dsimp only) <;> (repeat' split)
  all_goals first | with_reducible rfl | (simp; done) | (have w := State.takeSlot_same _ _ _ _ (by assumption); simp at w; simp [w]; done) | simp [*]

@[simp] theorem Work.evict_canon (w : Work) (x : Nat) (h : Nat) (i : Nat) (slot : Nat) (by0 : Nat) (hm : Memory.wf w.s.mem = true) (ht : Memory.wf w.s.ts = true) :
    Memory.wf (Work.evict w x h i slot by0).s.mem = true ∧ Memory.wf (Work.evict w x h i slot by0).s.ts = true := by
  unfold Work.evict
  try dsimp only
  repeat' split
  all_goals first | (simp [*]; done) | (refine foldl_canon _ _ _ (fun a b hm ht => ?_) (by simp [*]) (by simp [*]); dsimp only; (repeat' split) <;> simp [*]; done) | (have w := State.takeSlot_same _ _ _ _ (by assumption); simp at w; simp [*, w]; done)
@[simp] theorem Work.evict_pending (w : Work) (x : Nat) (h : Nat) (i : Nat) (slot : Nat) (by0 : Nat) : (Work.evict w x h i slot by0).s.pending = w.s.pending := by
  unfold Work.evict
  try dsimp only
  repeat' split
  all_goals first | (simp [*]; done) | (have w := State.takeSlot_same _ _ _ _ (by assumption); simp at w; simp [*, w]; done)

theorem Work.takeFree_same (w : Work) (x h : Nat) (r : Nat × Work) (hr : w.takeFree x h = some r) :
    r.2.s.mem = w.s.mem ∧ r.2.s.ts = w.s.ts ∧ r.2.s.pending = w.s.pending := by
  unfold Work.takeFree at hr
  dsimp only at hr
  split at hr
  · cases hr
  · cases hr
    simp

@[simp] theorem Work.addPage_canon (w : Work) (x : Nat) (h : Nat) (i : Nat) (hm : Memory.wf w.s.mem = true) (ht : Memory.wf w.s.ts = true) :
    Memory.wf (Work.addPage w x h i).s.mem = true ∧ Memory.wf (Work.addPage w x h i).s.ts = true := by
  unfold Work.addPage
  split
  · exact ⟨hm, ht⟩
  · rename_i slot w1 hw
    have e := canon_of_same (Work.takeFree_same _ _ _ _ hw) hm ht
    extract_lets e1 lp w2 src w3 w4
    have e2 : Memory.wf w2.s.mem = true ∧ Memory.wf w2.s.ts = true := by simp only [w2]; exact ⟨(Work.putPt_canon _ _ _ _ _ e.1 e.2).1, (Work.putPt_canon _ _ _ _ _ e.1 e.2).2⟩
    have e3 : Memory.wf w3.s.mem = true ∧ Memory.wf w3.s.ts = true := by simp only [w3]; split <;> simp [e2]
    have e4 : Memory.wf w4.s.mem = true ∧ Memory.wf w4.s.ts = true := by simp [w4, Work.putE, e3]
    simp [e4]
@[simp] theorem Work.addPage_pending (w : Work) (x : Nat) (h : Nat) (i : Nat) : (Work.addPage w x h i).s.pending = w.s.pending := by
  unfold Work.addPage
  split
  · rfl
  · rename_i slot w1 hw
    have e := (Work.takeFree_same _ _ _ _ hw).2.2
    extract_lets e1 lp w2 src w3 w4
    have e2 : w2.s.pending = w.s.pending := by simp only [w2]; exact (Work.putPt_pending _ _ _ _ _).trans e
    have e3 : w3.s.pending = w.s.pending := by simp only [w3]; split <;> simp [e2]
    have e4 : w4.s.pending = w.s.pending := by simp [w4, Work.putE, e3]
    simp [e4]

@[simp] theorem Work.addPages_canon (w : Work) (x : Nat) (h : Nat) (i : Nat) (a1 : Nat) (hm : Memory.wf w.s.mem = true) (ht : Memory.wf w.s.ts = true) :
    Memory.wf (Work.addPages w x h i a1).s.mem = true ∧ Memory.wf (Work.addPages w x h i a1).s.ts = true := by
  induction a1 generalizing w with
  | zero => exact ⟨hm, ht⟩
  | succ n ih =>
    unfold Work.addPages
    split
    · exact ⟨hm, ht⟩
    · exact ih _ (by simp [*]) (by simp [*])
@[simp] theorem Work.addPages_pending (w : Work) (x : Nat) (h : Nat) (i : Nat) (a1 : Nat) : (Work.addPages w x h i a1).s.pending = w.s.pending := by
  induction a1 generalizing w with
  | zero => rfl
  | succ n ih =>
    unfold Work.addPages
    split
    · rfl
    · simp [ih]

@[simp] theorem State.ownWrite_canon (s : State) (x : Nat) (off : Nat) (bs : Bytes) (hm : Memory.wf s.mem = true) (ht : Memory.wf s.ts = true) :
    Memory.wf (State.ownWrite s x off bs).mem = true ∧ Memory.wf (State.ownWrite s x off bs).ts = true := by
  unfold State.ownWrite
  try dsimp only
  repeat' split
  all_goals first | (simp [*]; done) | (refine foldl_canon _ _ _ (fun a b hm ht => ?_) (by simp [*]) (by simp [*]); dsimp only; (repeat' split) <;> simp [*]; done) | (have w := State.takeSlot_same _ _ _ _ (by assumption); simp at w; simp [*, w]; done)
@[simp] theorem State.ownWrite_pending (s : State) (x : Nat) (off : Nat) (bs : Bytes) : (State.ownWrite s x off bs).pending = s.pending := by
  unfold State.ownWrite
  try dsimp only
  repeat' split
  all_goals first | (simp [*]; done) | (have w := State.takeSlot_same _ _ _ _ (by assumption); simp at w; simp [*, w]; done)

theorem State.putKey_fine (s : State) (x base : Nat) (f : Fmt) (d o : Nat) (r : CvtRes) : Fine s (s.putKey x base f d o r) := by
  unfold State.putKey
  extract_lets g gc w
  refine Fine.folds _ _ _ (fun a j => ?_)
  extract_lets ch piece a1 hd e
  have h1 : Fine a a1 := ⟨fun h => by simp [a1, h], by simp [a1]⟩
  clear_value a1
  refine h1.trans (Fine.ite _ (Fine.refl _) (Fine.ite _ ?_ ?_)) <;> exact ⟨fun h => by simp [h], by simp⟩

theorem State.putValue_fine (s : State) (x base d k : Nat) (r : CvtRes) : Fine s (s.putValue x base d k r) := by
  unfold State.putValue
  refine Fine.folds _ _ _ (fun a j => ?_)
  exact ⟨fun h => by simp [h], by simp⟩

theorem Work.putPt_fine (w : Work) (x h i : Nat) (e : PtE) : Fine w.s (w.putPt x h i e).s := ⟨fun h => by simp [h], by simp⟩

theorem Work.append_fine (w : Work) (x h i p ka va : Nat) : Fine w.s (w.append x h i p ka va).s := by
  unfold Work.append
  cases w.slotOf x h i (p / 64) with
  | none => exact Fine.refl _
  | some slot =>
    dsimp -zeta only
    extract_lets s d kf vf tag row rk rv base kc s1 w1 pe
    have h1 : Fine w.s s1 := (State.putKey_fine _ _ _ _ _ _ _).trans (State.putValue_fine _ _ _ _ _ _)
    clear_value s1
    have h2 : Fine s1 w1.s := Fine.refl _
    exact (h1.trans h2).trans (Work.putPt_fine _ _ _ _ _)

theorem Work.appends_fine (w : Work) (x h i p ka va st n : Nat) : Fine w.s (w.appends x h i p ka va st n).s := by
  induction n generalizing w p ka va with
  | zero => exact Fine.refl _
  | succ n ih => exact (Work.append_fine _ _ _ _ _ _ _).trans (ih _ _ _ _)

theorem Work.release_fine (w : Work) (x h i : Nat) : Fine w.s (w.release x h i).s := by
  unfold Work.release
  cases w.slots x h i with
  | none => exact Fine.refl _
  | some ch =>
    exact Fine.foldl (fun (w : Work) => w.s) _ _ _ (fun a q => ⟨fun h => by simp [h], by simp⟩)

/-- The work that an allocation comes to. -/
def Alloc.work : Alloc → Work
  | .ok w => w
  | .stalled w => w
  | .noPage w => w
  | .bad w _ => w

theorem Work.makeRoom_fine (w : Work) (x h i n k : Nat) : Fine w.s (w.makeRoom x h i n k).work.s := by
  induction k generalizing w with
  | zero => exact Fine.refl _
  | succ k ih =>
    unfold Work.makeRoom
    repeat' split
    all_goals first
      | exact Fine.refl _
      | exact Fine.trans (b := (w.evict x h _ _ i).s) ⟨fun h => by simp [h], by simp⟩ (ih _)

@[simp] theorem State.putKey_canon (s : State) (x : Nat) (base : Nat) (f : Fmt) (d : Nat) (o : Nat) (r : CvtRes) (hm : Memory.wf s.mem = true) (ht : Memory.wf s.ts = true) :
    Memory.wf (State.putKey s x base f d o r).mem = true ∧ Memory.wf (State.putKey s x base f d o r).ts = true := by
  exact (State.putKey_fine ..).1 ⟨hm, ht⟩
@[simp] theorem State.putKey_pending (s : State) (x : Nat) (base : Nat) (f : Fmt) (d : Nat) (o : Nat) (r : CvtRes) : (State.putKey s x base f d o r).pending = s.pending := by
  exact (State.putKey_fine ..).2

@[simp] theorem State.putValue_canon (s : State) (x : Nat) (base : Nat) (d : Nat) (k : Nat) (r : CvtRes) (hm : Memory.wf s.mem = true) (ht : Memory.wf s.ts = true) :
    Memory.wf (State.putValue s x base d k r).mem = true ∧ Memory.wf (State.putValue s x base d k r).ts = true := by
  exact (State.putValue_fine ..).1 ⟨hm, ht⟩
@[simp] theorem State.putValue_pending (s : State) (x : Nat) (base : Nat) (d : Nat) (k : Nat) (r : CvtRes) : (State.putValue s x base d k r).pending = s.pending := by
  exact (State.putValue_fine ..).2

@[simp] theorem Work.append_canon (w : Work) (x : Nat) (h : Nat) (i : Nat) (p : Nat) (kAddr : Nat) (vAddr : Nat) (hm : Memory.wf w.s.mem = true) (ht : Memory.wf w.s.ts = true) :
    Memory.wf (Work.append w x h i p kAddr vAddr).s.mem = true ∧ Memory.wf (Work.append w x h i p kAddr vAddr).s.ts = true := by
  exact (Work.append_fine ..).1 ⟨hm, ht⟩
@[simp] theorem Work.append_pending (w : Work) (x : Nat) (h : Nat) (i : Nat) (p : Nat) (kAddr : Nat) (vAddr : Nat) : (Work.append w x h i p kAddr vAddr).s.pending = w.s.pending := by
  exact (Work.append_fine ..).2

@[simp] theorem Work.appends_canon (w : Work) (x : Nat) (h : Nat) (i : Nat) (p : Nat) (kAddr : Nat) (vAddr : Nat) (stride : Nat) (a1 : Nat) (hm : Memory.wf w.s.mem = true) (ht : Memory.wf w.s.ts = true) :
    Memory.wf (Work.appends w x h i p kAddr vAddr stride a1).s.mem = true ∧ Memory.wf (Work.appends w x h i p kAddr vAddr stride a1).s.ts = true := by
  exact (Work.appends_fine ..).1 ⟨hm, ht⟩
@[simp] theorem Work.appends_pending (w : Work) (x : Nat) (h : Nat) (i : Nat) (p : Nat) (kAddr : Nat) (vAddr : Nat) (stride : Nat) (a1 : Nat) : (Work.appends w x h i p kAddr vAddr stride a1).s.pending = w.s.pending := by
  exact (Work.appends_fine ..).2

@[simp] theorem Work.release_canon (w : Work) (x : Nat) (h : Nat) (i : Nat) (hm : Memory.wf w.s.mem = true) (ht : Memory.wf w.s.ts = true) :
    Memory.wf (Work.release w x h i).s.mem = true ∧ Memory.wf (Work.release w x h i).s.ts = true := by
  exact (Work.release_fine ..).1 ⟨hm, ht⟩
@[simp] theorem Work.release_pending (w : Work) (x : Nat) (h : Nat) (i : Nat) : (Work.release w x h i).s.pending = w.s.pending := by
  exact (Work.release_fine ..).2

end Sys2Proof.Machine
end

