-- ==== Sys2Proof/Laws/Keep/Attend.lean ====
section
/-! SUPPORT. What every operation of Machine/Attend.lean does to the memories and to the queue: it leaves them alone, or keeps the memories in
their canonical form. -/

set_option Elab.async false

namespace Sys2Proof.Machine

set_option maxRecDepth 4000

@[simp] theorem State.clearScores_same (s : State) (x : Nat) (h : Nat) :
    (State.clearScores s x h).mem = s.mem ∧ (State.clearScores s x h).ts = s.ts ∧ (State.clearScores s x h).pending = s.pending := by
  unfold State.clearScores
  refine ⟨?_, ?_, ?_⟩ <;> (try dsimp only) <;> (repeat' split)
  all_goals first | with_reducible rfl | (simp; done) | (have w := State.takeSlot_same _ _ _ _ (by assumption); simp at w; simp [w]; done) | simp [*]

@[simp] theorem State.attendStart_same (s : State) (x : Nat) :
    (State.attendStart s x).mem = s.mem ∧ (State.attendStart s x).ts = s.ts ∧ (State.attendStart s x).pending = s.pending := by
  unfold State.attendStart
  refine ⟨?_, ?_, ?_⟩ <;> (try dsimp only) <;> (repeat' split)
  all_goals first | with_reducible rfl | (simp; done) | (have w := State.takeSlot_same _ _ _ _ (by assumption); simp at w; simp [w]; done) | simp [*]

theorem execAttend_same (t : Nat) (x : TileIx) (s : State) (s' : State) (h : (execAttend t x s) = .next s') :
    s'.mem = s.mem ∧ s'.ts = s.ts ∧ s'.pending = s.pending := by
  unfold execAttend at h
  try dsimp only at h
  repeat' split at h
  all_goals try cases h
  all_goals simp

@[simp] theorem State.addTerms_same (s : State) (x : Nat) (h : Nat) (a1 : List (Nat × Nat)) :
    (State.addTerms s x h a1).mem = s.mem ∧ (State.addTerms s x h a1).ts = s.ts ∧ (State.addTerms s x h a1).pending = s.pending := by
  induction a1 generalizing s with
  | nil => exact ⟨rfl, rfl, rfl⟩
  | cons e r ih =>
    obtain ⟨slot, v⟩ := e
    exact same_trans (by simp [State.setScore]) (ih _)

@[simp] theorem State.headLost_mem (s : State) (ix : Nat) : (s.headLost ix).mem = s.mem := rfl
@[simp] theorem State.headLost_ts (s : State) (ix : Nat) : (s.headLost ix).ts = s.ts := rfl
@[simp] theorem State.headLost_pending (s : State) (ix : Nat) : (s.headLost ix).pending = s.pending := rfl

theorem Work.releases_fine (w : Work) (x h : Nat) (l : List Nat) : Fine w.s (w.releases x h l).s := by
  induction l generalizing w with
  | nil => exact Fine.refl _
  | cons i r ih =>
    unfold Work.releases
    refine (?_ : Fine w.s _)
    by_cases hf : w.fail.isSome = true
    · rw [if_pos hf]; exact Fine.refl _
    · rw [if_neg hf]
      by_cases hr : (w.e i).release = true
      · rw [if_pos hr]
        refine (Work.release_fine w x h i).trans ?_
        extract_lets w1
        by_cases hg : w1.fail.isSome = true
        · rw [if_pos hg]; exact ih (w1.putE i { w1.e i with status := 2 })
        · rw [if_neg hg]; exact ih w1
      · rw [if_neg hr]; exact ih w

theorem Work.scores_fine (w : Work) (x h : Nat) : Fine w.s (w.scores x h).s :=
  Fine.foldl (fun (w : Work) => w.s) _ _ _ (fun a q => Work.putPt_fine _ _ _ _ _)

theorem StepAcc.rows_fine (a : StepAcc) (x h d i r0 len : Nat) (errs : List MemErr) : Fine a.w.s (a.rows x h d i r0 len errs).w.s := by
  unfold StepAcc.rows
  extract_lets w e s g dim n slots info ranges seen touch
  have h1 : Fine s touch.1 := by
    have key : ∀ (b0 : State × Bool) (g : State × Bool → Nat × Nat × Nat → State × Bool) (l : List (Nat × Nat × Nat)),
        (∀ b r, Fine b.1 (g b r).1) → Fine b0.1 (l.foldl g b0).1 := fun b0 g l hg => Fine.foldl (fun (b : State × Bool) => b.1) g l b0 hg
    refine key (s, false) _ _ ?_
    intro z p
    exact Fine.same (State.dramTouch_same _ _ _ _ _ _)
  clear_value touch
  clear_value seen info
  split
  · exact h1
  · refine h1.trans ?_
    have key : ∀ (b0 : StepAcc) (g : StepAcc → Nat → StepAcc) (l : List Nat), (∀ b r, Fine b.w.s (g b r).w.s) → Fine b0.w.s (l.foldl g b0).w.s :=
      fun b0 g l hg => Fine.foldl (fun (b : StepAcc) => b.w.s) g l b0 hg
    refine key { a with w := { w with s := touch.1 } } _ _ ?_
    intro b r
    extract_lets range qf qrow views holes y s1 s2 hit
    have h2 : Fine b.w.s s1 := Fine.refl _
    have h3 : Fine s1 s2 := Fine.ite _ (Fine.refl _) (Fine.same (State.addTerms_same _ _ _ _))
    exact h2.trans h3

theorem StepAcc.entry_fine (a : StepAcc) (x h d i : Nat) (news : List Nat) (errs : List MemErr) :
    Fine a.w.s (a.entry x h d i news errs).w.s := by
  unfold StepAcc.entry
  extract_lets w e g n0 r0 rows skip n
  split
  · exact Fine.refl _
  split
  · exact Fine.refl _
  split
  · exact Fine.refl _
  split
  · exact Fine.refl _
  have h1 : Fine w.s (if n = 0 then Alloc.ok w else w.makeRoom x h i n (w.s.kvPool x h + 1)).work.s := by
    split
    · exact Fine.refl _
    · exact Work.makeRoom_fine _ _ _ _ _ _
  generalize (if n = 0 then Alloc.ok w else w.makeRoom x h i n (w.s.kvPool x h + 1)) = al at h1
  cases al with
  | bad w1 j => exact h1
  | noPage w1 => exact h1
  | stalled w1 => exact h1
  | ok w1 =>
    dsimp -zeta only [Alloc.work] at h1 ⊢
    extract_lets w2 w3 src w4
    have h2 : Fine w1.s w2.s := ⟨fun h => by simp [w2, h], by simp [w2]⟩
    have h3 : Fine w2.s w3.s := by
      simp only [w3]
      split
      · exact Fine.refl _
      · exact Work.appends_fine _ _ _ _ _ _ _ _ _
    have h4 : Fine w3.s w4.s := by
      simp only [w4]
      split <;> exact Fine.refl _
    clear_value w2
    split
    · exact h1.trans h2
    · exact (((h1.trans h2).trans h3).trans h4).trans (StepAcc.rows_fine { a with w := w4 } x h d i r0 e.length errs)


@[simp] theorem Work.releases_canon (w : Work) (x : Nat) (h : Nat) (a1 : List Nat) (hm : Memory.wf w.s.mem = true) (ht : Memory.wf w.s.ts = true) :
    Memory.wf (Work.releases w x h a1).s.mem = true ∧ Memory.wf (Work.releases w x h a1).s.ts = true := by
  exact (Work.releases_fine ..).1 ⟨hm, ht⟩
@[simp] theorem Work.releases_pending (w : Work) (x : Nat) (h : Nat) (a1 : List Nat) : (Work.releases w x h a1).s.pending = w.s.pending := by
  exact (Work.releases_fine ..).2

@[simp] theorem Work.scores_canon (w : Work) (x : Nat) (h : Nat) (hm : Memory.wf w.s.mem = true) (ht : Memory.wf w.s.ts = true) :
    Memory.wf (Work.scores w x h).s.mem = true ∧ Memory.wf (Work.scores w x h).s.ts = true := by
  exact (Work.scores_fine ..).1 ⟨hm, ht⟩
@[simp] theorem Work.scores_pending (w : Work) (x : Nat) (h : Nat) : (Work.scores w x h).s.pending = w.s.pending := by
  exact (Work.scores_fine ..).2

@[simp] theorem State.putAttend_same (s : State) (x : Nat) (old : Attend) (new : Option Attend) :
    (State.putAttend s x old new).mem = s.mem ∧ (State.putAttend s x old new).ts = s.ts ∧ (State.putAttend s x old new).pending = s.pending := by
  unfold State.putAttend
  refine ⟨?_, ?_, ?_⟩ <;> (try dsimp only) <;> (repeat' split)
  all_goals first | with_reducible rfl | (simp; done) | (have w := State.takeSlot_same _ _ _ _ (by assumption); simp at w; simp [w]; done) | simp [*]

theorem State.attendWork_fine (s : State) (x : Nat) (a : Attend) (errs : List MemErr) : Fine s (s.attendWork x a errs) := by
  unfold State.attendWork
  extract_lets d h n orig news w0 bad w1 stopAt r w2 es w3 table step s1 s2 s3
  have h1 : Fine s w1.s := Work.releases_fine w0 x h _
  have h2 : Fine w1.s r.w.s := by
    refine Fine.foldl (fun (b : StepAcc) => b.w.s) _ _ ⟨{ w1 with fail := none }, [], 0, none⟩ (fun b i => ?_)
    have e := StepAcc.entry_fine b x h d i news errs
    dsimp only
    split <;> exact e
  clear_value r
  have h3 : Fine r.w.s w2.s := by
    simp only [w2]
    split
    · exact Fine.refl _
    · exact Work.scores_fine _ _ _
  have h4 : Fine w2.s w3.s := Fine.refl _
  have h5 : Fine w3.s s1 := Fine.same (same_trans (State.putAttend_same _ _ _ _) (State.setFlags_same _ _ _ _))
  have h6 : Fine s1 s2 := by
    simp only [s2]
    cases r.ovf with
    | none => exact Fine.refl _
    | some v => exact Fine.same (by simp)
  have h7 := ((((h1.trans h2).trans h3).trans h4).trans h5).trans h6
  clear_value s2 w3
  cases w3.fail with
  | none => exact h7
  | some f =>
    refine h7.trans ?_
    dsimp only
    exact Fine.ite _ (Fine.same (by simp)) (Fine.same (by simp))

@[simp] theorem State.attendWork_canon (s : State) (x : Nat) (a : Attend) (errs : List MemErr) (hm : Memory.wf s.mem = true) (ht : Memory.wf s.ts = true) :
    Memory.wf (State.attendWork s x a errs).mem = true ∧ Memory.wf (State.attendWork s x a errs).ts = true := by
  exact (State.attendWork_fine ..).1 ⟨hm, ht⟩
@[simp] theorem State.attendWork_pending (s : State) (x : Nat) (a : Attend) (errs : List MemErr) : (State.attendWork s x a errs).pending = s.pending := by
  exact (State.attendWork_fine ..).2

@[simp] theorem State.attendCheck_canon (s : State) (x : Nat) (errs : List MemErr) (hm : Memory.wf s.mem = true) (ht : Memory.wf s.ts = true) :
    Memory.wf (State.attendCheck s x errs).mem = true ∧ Memory.wf (State.attendCheck s x errs).ts = true := by
  unfold State.attendCheck
  try dsimp only
  repeat' split
  all_goals first | (simp [*]; done) | (refine foldl_canon _ _ _ (fun a b hm ht => ?_) (by simp [*]) (by simp [*]); dsimp only; (repeat' split) <;> simp [*]; done) | (have w := State.takeSlot_same _ _ _ _ (by assumption); simp at w; simp [*, w]; done)
@[simp] theorem State.attendCheck_pending (s : State) (x : Nat) (errs : List MemErr) : (State.attendCheck s x errs).pending = s.pending := by
  unfold State.attendCheck
  try dsimp only
  repeat' split
  all_goals first | (simp [*]; done) | (have w := State.takeSlot_same _ _ _ _ (by assumption); simp at w; simp [*, w]; done)

theorem execAttendBudgetCheck_canon (t : Nat) (x : TileIx) (errs : List MemErr) (s : State) (s' : State) (h : (execAttendBudgetCheck t x errs s) = .next s') (hm : Memory.wf s.mem = true) (ht : Memory.wf s.ts = true) :
    Memory.wf s'.mem = true ∧ Memory.wf s'.ts = true := by
  unfold execAttendBudgetCheck at h
  try dsimp only at h
  repeat' split at h
  all_goals try cases h
  all_goals simp [*]
theorem execAttendBudgetCheck_pending (t : Nat) (x : TileIx) (errs : List MemErr) (s : State) (s' : State) (h : (execAttendBudgetCheck t x errs s) = .next s') : s'.pending = s.pending := by
  unfold execAttendBudgetCheck at h
  try dsimp only at h
  repeat' split at h
  all_goals try cases h
  all_goals simp [*]

theorem State.attendLand_fine (s : State) (x : Nat) : Fine s (s.attendLand x) := by
  unfold State.attendLand
  split
  · exact Fine.refl _
  · rename_i a ha
    extract_lets h ix s1 s2
    have h0 : Fine s (a.writes.foldl (fun z w => z.tsWrite x w.1 w.2) s) :=
      Fine.folds _ _ _ (fun z w => ⟨fun h => by simp [h], by simp⟩)
    have h1 : Fine s s1 := h0.trans (Fine.same (State.putAttend_same _ _ _ _))
    clear_value s1
    exact h1.trans (Fine.ite _ (Fine.same (by simp [s2])) (Fine.same (by simp [s2])))

@[simp] theorem State.attendLand_canon (s : State) (x : Nat) (hm : Memory.wf s.mem = true) (ht : Memory.wf s.ts = true) :
    Memory.wf (State.attendLand s x).mem = true ∧ Memory.wf (State.attendLand s x).ts = true := by
  exact (State.attendLand_fine ..).1 ⟨hm, ht⟩
@[simp] theorem State.attendLand_pending (s : State) (x : Nat) : (State.attendLand s x).pending = s.pending := by
  exact (State.attendLand_fine ..).2

theorem execAttendWriteBack_canon (t : Nat) (x : TileIx) (s : State) (s' : State) (h : (execAttendWriteBack t x s) = .next s') (hm : Memory.wf s.mem = true) (ht : Memory.wf s.ts = true) :
    Memory.wf s'.mem = true ∧ Memory.wf s'.ts = true := by
  unfold execAttendWriteBack at h
  try dsimp only at h
  repeat' split at h
  all_goals try cases h
  all_goals simp [*]
theorem execAttendWriteBack_pending (t : Nat) (x : TileIx) (s : State) (s' : State) (h : (execAttendWriteBack t x s) = .next s') : s'.pending = s.pending := by
  unfold execAttendWriteBack at h
  try dsimp only at h
  repeat' split at h
  all_goals try cases h
  all_goals simp [*]

theorem execShadowWriteThrough_canon (t : Nat) (x : TileIx) (h : HeadIx) (s : State) (s' : State) (h : (execShadowWriteThrough t x h s) = .next s') (hm : Memory.wf s.mem = true) (ht : Memory.wf s.ts = true) :
    Memory.wf s'.mem = true ∧ Memory.wf s'.ts = true := by
  unfold execShadowWriteThrough at h
  dsimp only at h
  split at h
  · cases h; exact ⟨hm, ht⟩
  · cases h
    have e := (Fine.folds (fun (z : State) (w : Nat × Bytes) => z.ownWrite x w.1 w.2) (by assumption : ShadowDue).writes (s.tick t)
      (fun z w => ⟨fun h => by simp [h], by simp⟩)).1 ⟨hm, ht⟩
    simp [e]
theorem execShadowWriteThrough_pending (t : Nat) (x : TileIx) (h : HeadIx) (s : State) (s' : State) (h : (execShadowWriteThrough t x h s) = .next s') : s'.pending = s.pending := by
  unfold execShadowWriteThrough at h
  try dsimp only at h
  repeat' split at h
  all_goals try cases h
  all_goals simp [*]

@[simp] theorem State.kvRestore_canon (s : State) (x : Nat) (h : Nat) (hm : Memory.wf s.mem = true) (ht : Memory.wf s.ts = true) :
    Memory.wf (State.kvRestore s x h).mem = true ∧ Memory.wf (State.kvRestore s x h).ts = true := by
  unfold State.kvRestore
  try dsimp only
  repeat' split
  all_goals first | (simp [*]; done) | (refine foldl_canon _ _ _ (fun a b hm ht => ?_) (by simp [*]) (by simp [*]); dsimp only; (repeat' split) <;> simp [*]; done) | (have w := State.takeSlot_same _ _ _ _ (by assumption); simp at w; simp [*, w]; done)
@[simp] theorem State.kvRestore_pending (s : State) (x : Nat) (h : Nat) : (State.kvRestore s x h).pending = s.pending := by
  unfold State.kvRestore
  try dsimp only
  repeat' split
  all_goals first | (simp [*]; done) | (have w := State.takeSlot_same _ _ _ _ (by assumption); simp at w; simp [*, w]; done)

@[simp] theorem State.shadowWhole_canon (s : State) (x : Nat) (h : Nat) (hm : Memory.wf s.mem = true) (ht : Memory.wf s.ts = true) :
    Memory.wf (State.shadowWhole s x h).mem = true ∧ Memory.wf (State.shadowWhole s x h).ts = true := by
  unfold State.shadowWhole
  try dsimp only
  repeat' split
  all_goals first | (simp [*]; done) | (refine foldl_canon _ _ _ (fun a b hm ht => ?_) (by simp [*]) (by simp [*]); dsimp only; (repeat' split) <;> simp [*]; done) | (have w := State.takeSlot_same _ _ _ _ (by assumption); simp at w; simp [*, w]; done)
@[simp] theorem State.shadowWhole_pending (s : State) (x : Nat) (h : Nat) : (State.shadowWhole s x h).pending = s.pending := by
  unfold State.shadowWhole
  try dsimp only
  repeat' split
  all_goals first | (simp [*]; done) | (have w := State.takeSlot_same _ _ _ _ (by assumption); simp at w; simp [*, w]; done)

theorem execKvShadowRestore_canon (t : Nat) (x : TileIx) (h : HeadIx) (s : State) (s' : State) (h : (execKvShadowRestore t x h s) = .next s') (hm : Memory.wf s.mem = true) (ht : Memory.wf s.ts = true) :
    Memory.wf s'.mem = true ∧ Memory.wf s'.ts = true := by
  unfold execKvShadowRestore at h
  try dsimp only at h
  repeat' split at h
  all_goals try cases h
  all_goals simp [*]
theorem execKvShadowRestore_pending (t : Nat) (x : TileIx) (h : HeadIx) (s : State) (s' : State) (h : (execKvShadowRestore t x h s) = .next s') : s'.pending = s.pending := by
  unfold execKvShadowRestore at h
  try dsimp only at h
  repeat' split at h
  all_goals try cases h
  all_goals simp [*]

end Sys2Proof.Machine
end

