-- ==== Sys2Proof/Laws/Regs.lean ====
section
/-! SUPPORT. The laws of the register file: what a write of one field copy does to reads of it and of every other. -/

set_option Elab.async false

namespace Sys2Proof.Machine

/-- A field written reads as the value taken to its width. -/
theorem State.rd_wr_same (s : State) (f : Fld) (i n : Nat) (h : f.w ≤ 64) : (s.wr f i n).rd f i = n % 2 ^ f.w := by
  have : n % 2 ^ f.w < 2 ^ 64 := Nat.lt_of_lt_of_le (Nat.mod_lt _ (Nat.two_pow_pos _)) (Nat.pow_le_pow_right (by decide) h)
  have h2 : n % 2 ^ f.w % 2 ^ 64 % 2 ^ f.w = n % 2 ^ f.w := by rw [Nat.mod_eq_of_lt this, Nat.mod_mod]
  simpa [State.rd, State.wr] using h2

/-- Every other field copy reads as before. -/
theorem State.rd_wr_ne (s : State) (f g : Fld) (i j n : Nat) (h : f.key i ≠ g.key j) : (s.wr g j n).rd f i = s.rd f i := by
  simp [State.rd, State.wr, Tab.get_put_ne _ _ _ _ h]

/-- A write of another field leaves a field as it was. -/
theorem State.rd_wr_id (s : State) (f g : Fld) (i j n : Nat) (h : f.id ≠ g.id) (hi : i < 65536) (hj : j < 65536) :
    (s.wr g j n).rd f i = s.rd f i := State.rd_wr_ne s f g i j n (by unfold Fld.key; omega)

theorem State.keeps_refl (w : List (Fld × Nat)) (s : State) : KeepsRegs w s s := fun _ _ _ => rfl

theorem State.keeps_wr (w : List (Fld × Nat)) (s s' : State) (g : Fld) (j n : Nat) (hm : g.key j ∈ w.map (fun e => e.1.key e.2))
    (h : KeepsRegs w s s') : KeepsRegs w s (s'.wr g j n) := by
  intro f i hf
  have e : f.key i ≠ g.key j := fun e => hf (by rw [e]; exact hm)
  rw [State.rd_wr_ne s' f g i j n e]
  exact h f i hf

/-! ### Chains of register writes -/

theorem Sets.refl (s : State) : Sets [] s s := ⟨by simp, fun _ _ _ => rfl⟩

/-- One more write, of a copy not yet written. -/
theorem Sets.wr {w : List (Fld × Nat × Nat)} {s s' : State} (h : Sets w s s') (f : Fld) (i n : Nat) (hw : f.w ≤ 64)
    (hk : ∀ e ∈ w, e.1.key e.2.1 ≠ f.key i) : Sets ((f, i, n % 2 ^ f.w) :: w) s (s'.wr f i n) := by
  refine ⟨?_, ?_⟩
  · intro e he
    rcases List.mem_cons.1 he with rfl | he
    · exact State.rd_wr_same s' f i n hw
    · exact (State.rd_wr_ne s' e.1 f e.2.1 i n (hk e he)).trans (h.1 e he)
  · refine State.keeps_wr _ _ _ _ _ _ (by simp) ?_
    intro g j hg
    exact h.2 g j (fun hm => hg (by simp at hm ⊢; exact Or.inr hm))

/-- A change that leaves the register file alone. -/
theorem Sets.of_fv {w : List (Fld × Nat × Nat)} {s a b : State} (h : Sets w s a) (e : b.fv = a.fv) : Sets w s b := by
  have r : ∀ f i, b.rd f i = a.rd f i := fun f i => by unfold State.rd; rw [e]
  exact ⟨fun x hx => (r _ _).trans (h.1 x hx), fun f i hf => (r f i).trans (h.2 f i hf)⟩

/-- A start that differs outside the register file only. -/
theorem Sets.from_fv {w : List (Fld × Nat × Nat)} {s a b : State} (h : Sets w a b) (e : a.fv = s.fv) : Sets w s b := by
  have r : ∀ f i, a.rd f i = s.rd f i := fun f i => by unfold State.rd; rw [e]
  exact ⟨h.1, fun f i hf => (h.2 f i hf).trans (r f i)⟩

end Sys2Proof.Machine
end

