-- ==== Sys2Proof/Laws/Ops.lean ====
section
/-! SUPPORT. What each shared operation can do, said once: numeric flags, slots, thread stops, memory writes. -/

set_option Elab.async false

namespace Sys2Proof.Machine

/-! ### What a chain of register writes leaves alone -/

/-- The parts of the state that no register write touches are as they were. -/
def SameButRegs (s s' : State) : Prop := s' = { s with fv := s'.fv }

theorem SameButRegs.refl (s : State) : SameButRegs s s := rfl
theorem SameButRegs.wr {s s' : State} (h : SameButRegs s s') (f : Fld) (i n : Nat) : SameButRegs s (s'.wr f i n) := by
  unfold SameButRegs at h ⊢
  rw [h]; rfl

theorem SameButRegs.wrIf {s s' : State} (c : Prop) [Decidable c] (f : Fld) (i n : Nat) (h : SameButRegs s s') :
    SameButRegs s (if c then s'.wr f i n else s') := by
  split
  · exact h.wr f i n
  · exact h

theorem SameButRegs.tile {s s' : State} (h : SameButRegs s s') (x : Nat) : s'.tile x = s.tile x := by rw [h]; rfl
theorem SameButRegs.mem {s s' : State} (h : SameButRegs s s') : KeepsMem s s' := by rw [h]; exact ⟨fun _ => rfl, fun _ _ => rfl⟩

theorem KeepsMem.refl (s : State) : KeepsMem s s := ⟨fun _ => rfl, fun _ _ => rfl⟩
theorem KeepsMem.trans {a b c : State} (h : KeepsMem a b) (g : KeepsMem b c) : KeepsMem a c :=
  ⟨fun n => (g.1 n).trans (h.1 n), fun x n => (g.2 x n).trans (h.2 x n)⟩
theorem KeepsRegs.trans {w : List (Fld × Nat)} {a b c : State} (h : KeepsRegs w a b) (g : KeepsRegs w b c) : KeepsRegs w a c :=
  fun f i hf => (g f i hf).trans (h f i hf)
theorem KeepsTiles.trans {x : Nat} {a b c : State} (h : KeepsTiles x a b) (g : KeepsTiles x b c) : KeepsTiles x a c :=
  fun y hy => (g y hy).trans (h y hy)
theorem KeepsRegs.mono {w w' : List (Fld × Nat)} {a b : State} (h : KeepsRegs w a b) (hw : ∀ e ∈ w, e ∈ w') : KeepsRegs w' a b := by
  intro f i hf
  refine h f i (fun hm => hf ?_)
  obtain ⟨e, he, hk⟩ := List.mem_map.1 hm
  exact List.mem_map.2 ⟨e, hw e he, hk⟩

/-! ### Numeric flags (R102) -/

/-- Flags set for work of a thread change the thread's five flag fields and nothing else. -/
theorem State.setFlags_regs (s : State) (x k : Nat) (fl : Flags) : SameButRegs s (s.setFlags x k fl) := by
  unfold State.setFlags
  dsimp only
  repeat' apply SameButRegs.wrIf
  exact SameButRegs.refl s

theorem State.keeps_wrIf (c : Prop) [Decidable c] (w : List (Fld × Nat)) (s s' : State) (g : Fld) (j n : Nat)
    (hm : g.key j ∈ w.map (fun e => e.1.key e.2)) (h : KeepsRegs w s s') : KeepsRegs w s (if c then s'.wr g j n else s') := by
  split
  · exact State.keeps_wr w s s' g j n hm h
  · exact h

theorem State.rd_wrIf_same (c : Prop) [Decidable c] (a : State) (f : Fld) (i : Nat) (h : f.w = 1) :
    (if c then a.wr f i 1 else a).rd f i = if c then 1 else a.rd f i := by
  split
  · rw [State.rd_wr_same _ _ _ _ (by omega), h]
    try simp
  · rfl

theorem State.rd_wrIf_ne (c : Prop) [Decidable c] (g : Fld) (a : State) (f : Fld) (i : Nat) (h : g.id ≠ f.id) :
    (if c then a.wr f i 1 else a).rd g i = a.rd g i := by
  split
  · exact State.rd_wr_ne _ _ _ _ _ _ (by unfold Fld.key; omega)
  · rfl

/-- The five flag fields after a thread's flags have been set: 1 where the flag is raised, as before elsewhere. -/
theorem State.setFlags_rd (s : State) (x k : Nat) (fl : Flags) :
    (s.setFlags x k fl).rd F.SEQ_NUMFLAGS_LS_INEXACT (x * 4 + k) = (if fl.testBit 0 then 1 else s.rd F.SEQ_NUMFLAGS_LS_INEXACT (x * 4 + k)) ∧
    (s.setFlags x k fl).rd F.SEQ_NUMFLAGS_NAN_MADE (x * 4 + k) = (if fl.testBit 1 then 1 else s.rd F.SEQ_NUMFLAGS_NAN_MADE (x * 4 + k)) ∧
    (s.setFlags x k fl).rd F.SEQ_NUMFLAGS_SATURATED (x * 4 + k) = (if fl.testBit 2 then 1 else s.rd F.SEQ_NUMFLAGS_SATURATED (x * 4 + k)) ∧
    (s.setFlags x k fl).rd F.SEQ_NUMFLAGS_CONV_SPECIAL (x * 4 + k) =
      (if fl.testBit 3 then 1 else s.rd F.SEQ_NUMFLAGS_CONV_SPECIAL (x * 4 + k)) ∧
    (s.setFlags x k fl).rd F.SEQ_NUMFLAGS_OVERFLOW_INF (x * 4 + k) =
      (if fl.testBit 4 then 1 else s.rd F.SEQ_NUMFLAGS_OVERFLOW_INF (x * 4 + k)) := by
  unfold State.setFlags
  dsimp only
  refine ⟨?_, ?_, ?_, ?_, ?_⟩ <;>
    simp (disch := decide) only [State.rd_wrIf_same, State.rd_wrIf_ne]

/-- Every other field copy reads as before. -/
theorem State.setFlags_keeps (s : State) (x k : Nat) (fl : Flags) :
    KeepsRegs [(F.SEQ_NUMFLAGS_LS_INEXACT, x * 4 + k), (F.SEQ_NUMFLAGS_NAN_MADE, x * 4 + k), (F.SEQ_NUMFLAGS_SATURATED, x * 4 + k),
      (F.SEQ_NUMFLAGS_CONV_SPECIAL, x * 4 + k), (F.SEQ_NUMFLAGS_OVERFLOW_INF, x * 4 + k)] s (s.setFlags x k fl) := by
  unfold State.setFlags
  dsimp only
  refine State.keeps_wrIf _ _ _ _ _ _ _ (by simp) (State.keeps_wrIf _ _ _ _ _ _ _ (by simp) (State.keeps_wrIf _ _ _ _ _ _ _ (by simp)
    (State.keeps_wrIf _ _ _ _ _ _ _ (by simp) (State.keeps_wrIf _ _ _ _ _ _ _ (by simp) (State.keeps_refl _ _)))))

end Sys2Proof.Machine
end

