-- ==== Sys2Proof/WellFormed.lean ====
section
/-! DEFINITION. Which commands are well formed: operands within the ranges that registers, records and memories give them. Also the
cycle of a command. -/

namespace Sys2Proof

/-- Errors lie in a slice, a way of a pier cache, or a tile store. -/
def errsOk (errs : List MemErr) : Bool := errs.all (fun e => decide (e.loc < 2 ^ 34 + 0x1800000))

/-- A read of host memory that brings n bytes, or fails before the last of them. -/
def readOk (n : Nat) (r : HostRead) : Bool :=
  match r with
  | .data bs => decide (bs.length = n)
  | .fault moved bs => decide (moved < n) && decide (bs.length = moved)

/-- A read of host memory that brings at most n bytes. -/
def readLe (n : Nat) (r : HostRead) : Bool :=
  match r with
  | .data bs => decide (bs.length ≤ n)
  | .fault moved bs => decide (moved ≤ n) && decide (bs.length = moved)

/-- Wire groups of a bridge's main path (R21). -/
def wiresOk (w : BridgeWires) : Bool := w.up.all (fun g => decide (g < 32)) && w.down.all (fun g => decide (g < 32))

/-- What start-up finds names existing piers, tiles, ports, bridges and units. -/
def bootOk (b : Boot) : Bool :=
  b.badDies.all (fun p => decide (p < 8)) && decide (b.steppings.length ≤ 8) && b.logic.all (fun x => decide (x < 104)) &&
    b.retrained.all (fun x => decide (x < 104)) && b.slices.all (fun x => decide (x < 104)) && b.absent.all (fun x => decide (x < 104)) &&
    b.units.all (fun u => decide (u.1 < 104) && decide (u.2 < 64)) && b.units2.all (fun u => decide (u.1 < 104) && decide (u.2 < 64)) &&
    b.ports.all (fun q => decide (q.1 < 16)) && decide (b.bridges.length ≤ 10) && b.bridges.all (fun g => wiresOk g.wires) &&
    decide (b.ship.length = 8) && b.ship.all (fun m => decide (m < 2 ^ 13))

/-- What commissioning fits holds the nominal values of eight piers first. -/
def fitOk (fit : Option (List Nat)) : Bool :=
  match fit with
  | none => true
  | some l => decide (16 ≤ l.length)

/-- A pairing record's numbers lie in their fields. -/
def pairOk (r : PairRec) : Bool :=
  decide (r.units ≤ 16) && r.tiles.all (fun x => decide (x < 128)) && r.heads.all (fun h => decide (h.tile < 128) && decide (h.head < 4)) &&
    decide (r.modules ≤ 512) && decide (r.index < 512)

/-- A mirror record has its 32-byte header and at most 4,096 bytes. -/
def recOk (r : Bytes) : Bool := decide (32 ≤ r.length) && decide (r.length ≤ 4096)

/-- Whether a command is well formed. -/
def WellFormed (i : Instr) : Bool :=
  match i with
  | .registerWrite _ _ off wide value => decide (off < 2 ^ 24) && decide (off % (if wide then 8 else 4) = 0) && (wide || decide (value.toNat < 2 ^ 32))
  | .storeToRegister _ _ errs => errsOk errs
  | .exchangeChunkMove _ _ _ errs => errsOk errs
  | .arrayLoad _ _ errs => errsOk errs
  | .arrayPassLoad _ _ errs => errsOk errs
  | .arrayOutput _ _ _ pass row col errs => decide (pass < 2 ^ 16) && decide (row < 2 ^ 16) && decide (col < 512) && errsOk errs
  | .arrayPassFault _ _ _ col _ => decide (col < 512)
  | .mvChunkRead _ _ errs => errsOk errs
  | .mvGroupOutput _ _ errs => errsOk errs
  | .attendBudgetCheck _ _ errs => errsOk errs
  | .latchedWorkStart _ _ unit => decide (unit < 7)
  | .inboundAccess _ _ _ errs => errsOk errs
  | .unscheduledRequest _ _ req => decide (req.dpa < 2 ^ 40) && decide (req.len ≤ 512) && decide (req.data.length ≤ 520)
  | .openCycleServe _ _ errs => errsOk errs
  | .sliceSlotChunk _ _ errs => errsOk errs
  | .bkuLd _ _ _ _ errs => errsOk errs
  | .frameBoundary _ meas => decide (meas.piers.length = 8)
  | .cellReceive _ _ _ cell => decide (cell.payload.length = 256)
  | .cellNak _ _ slots => slots.all (fun n => decide (n < 64))
  | .bridgeRetrainDone _ _ wires => wiresOk wires
  | .submissionFetch _ rec => readOk 64 rec
  | .windowRead _ off len => decide (0 < len) && decide (off.toNat + len ≤ 2 ^ 36)
  | .windowWrite _ off data => decide (0 < data.length) && decide (off.toNat + data.length ≤ 2 ^ 36)
  | .powerGood _ boot => bootOk boot
  | .microcodeChunk _ _ _ rec => decide (rec.length = 304)
  | .moduleReset _ _ boot => bootOk boot
  | .coldStart _ boot => bootOk boot
  | .watchdogExpiry _ boot => bootOk boot
  | .powerStateChangeDone _ retired => retired.all (fun n => decide (n < 6656))
  | .thermalModelUpdate _ meas => decide (meas.powers.length = 8) && decide (meas.fillers.length = 8)
  | .rthWindow _ win => decide (win.length = 8)
  | .ledgerUpdate _ rails _ _ => decide (rails.length = 16)
  | .commissionDone _ fit => fitOk fit
  | .pairingRecord _ rec => pairOk rec
  | .mirrorHeartbeat _ _ rec => recOk rec
  | .mirrorPage _ _ rec => recOk rec
  | .mirrorPte _ _ rec => recOk rec
  | .mirrorLte _ _ rec => recOk rec
  | .mirrorContext _ _ rec => recOk rec
  | .mirrorCarry _ _ rec => recOk rec
  | .mirrorEnd _ _ rec => recOk rec
  | .mirrorVoid _ _ rec => recOk rec
  | .mirrorHandover _ _ rec => recOk rec
  | .loadKey _ len src => decide (len < 2 ^ 32) && readLe len src
  | .quoUnseal _ count => decide (count < 2 ^ 32)
  | .enrol _ len src => decide (len < 2 ^ 32) && readLe len src
  | .quoRelease _ len src boot => decide (len < 2 ^ 32) && readLe len src && bootOk boot
  | .debugOpen _ len src => decide (len < 2 ^ 32) && readLe len src
  | .quoExtend _ len _ src => decide (len < 2 ^ 32) && readLe len src
  | .fwStage _ len src => decide (len < 2 ^ 32) && readLe len src
  | .scbDataRead _ size off => decide (off < 8) && decide (off + size ≤ 8)
  | .perstAssert _ boot => bootOk boot
  | .resetEffecter _ boot => bootOk boot
  | .floorPlanChange _ | .playIssue _ _ _ _ | .threadStart _ _ _ | .threadStop _ _ _ | .vectorAdd _ _ | .vectorMul _ _
  | .vectorFma _ _ | .vectorMax _ _ | .vectorMin _ _ | .vectorCmplt _ _ | .vectorSel _ _ | .vectorCvt _ _ | .vectorBcast _ _
  | .vectorExp2 _ _ | .vectorLog2 _ _ | .vectorRcp _ _ | .vectorRsqrt _ _ | .vectorTanh _ _ | .vectorRedsum _ _
  | .vectorResult _ _ | .registerToStore _ _ | .storeMoveComplete _ _ | .tstoreRemapCopyDone _ _ _ | .tstoreZeroingDone _ _
  | .exchangeStart _ _ | .exchangeChannelHalt _ _ _ | .trapRecord _ _ _ | .arrayPass _ _ | .shadowLoadComplete _ _ _
  | .weightParityIdle _ _ _ | .sharedControlFault _ _ | .mvStart _ _ | .mvFault _ _ _ | .attend _ _ | .attendWriteBack _ _
  | .shadowWriteThrough _ _ _ | .kvShadowRestore _ _ _ | .refreshSlot _ _ | .sliceReadDeliver _ _ | .sliceRead _ _
  | .sliceWrite _ _ | .sliceFlush _ _ | .sliceInval _ _ | .sliceFlushInval _ _ | .scrubStart _ _ _ | .scrubAbort _ _
  | .flipMaskArm _ _ _ | .pchInval _ _ _ | .pchInvalDone _ _ | .bkuGo _ _ | .bkuProg _ _ | .bkuSync _ _ | .bkuAbort _ _
  | .bkuCommandAreaWrite _ _ | .bkuSequenceBegin _ _ | .progWordsWrite _ _ | .bkuSt _ _ _ _ | .bkuAdd _ _ _ _ | .bkuMul _ _ _ _
  | .bkuFma _ _ _ _ | .bkuMax _ _ _ _ | .bkuMin _ _ _ _ | .bkuScale _ _ _ _ | .bkuCvt _ _ _ _ | .bkuCsel _ _ _ _
  | .bkuMov _ _ _ _ | .chout _ _ _ _ | .chin _ _ _ _ | .chadd _ _ _ _ | .bkuSet _ _ _ _ | .bkuSadd _ _ _ _ | .bkuLoop _ _ _ _
  | .bkuEnd _ _ _ _ | .bkuWait _ _ _ _ | .chainArrive _ _ _ | .segmentBoundary _ _ _ | .bkuPauseEnd _ _ _ | .bkuIdle _ _ _
  | .randomOpen _ _ | .randomSeek _ _ | .randomDraw _ _ | .openReady _ _ _ | .seekReady _ _ _ | .drawWrite _ _ | .epochWord _ _
  | .holdoverEnter _ | .holdoverExpire _ | .msgRest _ _ _ _ | .msgHold _ _ _ _ | .msgResume _ _ _ _ | .msgClamp _ _ _ _
  | .msgUnclamp _ _ _ _ | .domainFreezeBegin _ | .domainFreezeEnd _ | .reqRest _ | .reqHold _ | .reqResume _ | .rampBoundary _
  | .cellSlotSend _ _ | .cellRelease _ _ | .cellReceipt _ _ _ | .partnerDetect _ _ | .trainingAttemptEnd _ _ _
  | .portLockLoss _ _ | .sessionDrop _ _ | .linkRetrain _ _ | .portDisable _ _ | .bridgeHandshakeTry _ _ _ _ _ _
  | .bridgeRetrain _ _ | .bridgeFallback _ _ _ | .subNop _ _ | .copyIn _ _ _ | .copyOut _ _ _ _ | .activate _ _ _ | .subStart _ _
  | .subStop _ _ | .subSave _ _ _ | .subRestore _ _ _ | .unload _ _ | .replyRecord _ _ | .heartbeat _ _ | .ringOpen _ _
  | .ringClose _ _ | .sqTailWrite _ _ | .rqHeadWrite _ _ | .windowReadDeadline _ _ | .flr _ | .hotReset _ | .pcieLinkDown _
  | .tileReset _ _ _ | .pierReset _ _ | .computeReset _ | .resetComplete _ _ | .reqRunning _ | .reqWarmIdle _ | .reqStandby _
  | .reqPark _ | .sensorSample _ _ _ | .capUpdate _ | .keepWarmUpdate _ | .ledgerWriteBack _ | .holdupCheck _ _ _ | .powerFail _
  | .inputRangeChange _ _ | .inputOverpower _ | .phaseFail _ _ _ | .coolantPressureAssert _ | .coolantPressureDeassert _
  | .pressureClampTimeout _ | .coolantLossShutdown _ | .boostIntervalEnd _ | .cooldownEnd _ | .commissionStart _
  | .tripRecordClear _ | .bondStreamLoad _ | .bondStreamRead _ _ | .substZeroingDone _ | .mirrorHeartbeatSend _
  | .heartbeatMissed _ | .takeover _ | .takeoverRestoreDone _ | .backfill _ | .backfillPass _ | .twinRelease _ | .evictKey _ _
  | .unsealDone _ | .debugNonce _ | .debugClose _ | .commitSvn _ | .trngHealthFail _ | .getVersion _ _ _ | .getCapabilities _ _ _
  | .negotiateAlgorithms _ _ _ | .getDigests _ _ _ | .getCertificate _ _ _ | .challenge _ _ _ | .getMeasurements _ _ _
  | .keyExchange _ _ _ | .finish _ _ _ | .spdmHeartbeat _ _ _ | .keyUpdate _ _ _ | .endSession _ _ _ | .respondIfReady _ _ _
  | .spdmUnsupportedRequest _ _ _ | .scbFreeze _ | .scbThaw _ | .scbAutoThaw _ | .flushRequest _ | .flushTimer _
  | .flushComplete _ _ | .scbClear _ | .scbClearAll _ | .bucketRefill _ _ | .marginStart _ | .marginStep _ _ _ _ | .marginAbort _
  | .pcieLaneMargin _ _ _ | .mateMake _ | .prechargeStart _ | .prechargeEnd _ | .mateBreak _ | .perstDeassert _
  | .surpriseRemoval _ | .entdaa _ _ | .pldmRequest _ _ | .beatMark _ _ _ | .tripLatchRelease _ => true

/-- The cycle of a command. -/
def Instr.time (i : Instr) : Nat :=
  match i with
  | .registerWrite t _ _ _ _ | .floorPlanChange t | .playIssue t _ _ _ | .threadStart t _ _ | .threadStop t _ _ | .vectorAdd t _
  | .vectorMul t _ | .vectorFma t _ | .vectorMax t _ | .vectorMin t _ | .vectorCmplt t _ | .vectorSel t _ | .vectorCvt t _
  | .vectorBcast t _ | .vectorExp2 t _ | .vectorLog2 t _ | .vectorRcp t _ | .vectorRsqrt t _ | .vectorTanh t _
  | .vectorRedsum t _ | .vectorResult t _ | .storeToRegister t _ _ | .registerToStore t _ | .storeMoveComplete t _
  | .tstoreRemapCopyDone t _ _ | .tstoreZeroingDone t _ | .exchangeStart t _ | .exchangeChunkMove t _ _ _
  | .exchangeChannelHalt t _ _ | .trapRecord t _ _ | .arrayLoad t _ _ | .arrayPass t _ | .arrayPassLoad t _ _
  | .shadowLoadComplete t _ _ | .arrayOutput t _ _ _ _ _ _ | .arrayPassFault t _ _ _ _ | .weightParityIdle t _ _
  | .sharedControlFault t _ | .mvStart t _ | .mvChunkRead t _ _ | .mvGroupOutput t _ _ | .mvFault t _ _ | .attend t _
  | .attendBudgetCheck t _ _ | .attendWriteBack t _ | .shadowWriteThrough t _ _ | .kvShadowRestore t _ _
  | .latchedWorkStart t _ _ | .inboundAccess t _ _ _ | .unscheduledRequest t _ _ | .openCycleServe t _ _ | .refreshSlot t _
  | .sliceReadDeliver t _ | .sliceRead t _ | .sliceWrite t _ | .sliceFlush t _ | .sliceInval t _ | .sliceFlushInval t _
  | .sliceSlotChunk t _ _ | .scrubStart t _ _ | .scrubAbort t _ | .flipMaskArm t _ _ | .pchInval t _ _ | .pchInvalDone t _
  | .bkuGo t _ | .bkuProg t _ | .bkuSync t _ | .bkuAbort t _ | .bkuCommandAreaWrite t _ | .bkuSequenceBegin t _
  | .progWordsWrite t _ | .bkuLd t _ _ _ _ | .bkuSt t _ _ _ | .bkuAdd t _ _ _ | .bkuMul t _ _ _ | .bkuFma t _ _ _
  | .bkuMax t _ _ _ | .bkuMin t _ _ _ | .bkuScale t _ _ _ | .bkuCvt t _ _ _ | .bkuCsel t _ _ _ | .bkuMov t _ _ _ | .chout t _ _ _
  | .chin t _ _ _ | .chadd t _ _ _ | .bkuSet t _ _ _ | .bkuSadd t _ _ _ | .bkuLoop t _ _ _ | .bkuEnd t _ _ _ | .bkuWait t _ _ _
  | .chainArrive t _ _ | .segmentBoundary t _ _ | .bkuPauseEnd t _ _ | .bkuIdle t _ _ | .randomOpen t _ | .randomSeek t _
  | .randomDraw t _ | .openReady t _ _ | .seekReady t _ _ | .drawWrite t _ | .frameBoundary t _ | .epochWord t _
  | .holdoverEnter t | .holdoverExpire t | .msgRest t _ _ _ | .msgHold t _ _ _ | .msgResume t _ _ _ | .msgClamp t _ _ _
  | .msgUnclamp t _ _ _ | .domainFreezeBegin t | .domainFreezeEnd t | .reqRest t | .reqHold t | .reqResume t | .rampBoundary t
  | .cellSlotSend t _ | .cellReceive t _ _ _ | .cellRelease t _ | .cellNak t _ _ | .cellReceipt t _ _ | .partnerDetect t _
  | .trainingAttemptEnd t _ _ | .portLockLoss t _ | .sessionDrop t _ | .linkRetrain t _ | .portDisable t _
  | .bridgeHandshakeTry t _ _ _ _ _ | .bridgeRetrain t _ | .bridgeRetrainDone t _ _ | .bridgeFallback t _ _
  | .submissionFetch t _ | .subNop t _ | .copyIn t _ _ | .copyOut t _ _ _ | .activate t _ _ | .subStart t _ | .subStop t _
  | .subSave t _ _ | .subRestore t _ _ | .unload t _ | .replyRecord t _ | .heartbeat t _ | .ringOpen t _ | .ringClose t _
  | .sqTailWrite t _ | .rqHeadWrite t _ | .windowRead t _ _ | .windowWrite t _ _ | .windowReadDeadline t _ | .flr t | .hotReset t
  | .pcieLinkDown t | .powerGood t _ | .microcodeChunk t _ _ _ | .tileReset t _ _ | .pierReset t _ | .computeReset t
  | .moduleReset t _ _ | .coldStart t _ | .resetComplete t _ | .watchdogExpiry t _ | .reqRunning t | .reqWarmIdle t
  | .reqStandby t | .reqPark t | .powerStateChangeDone t _ | .sensorSample t _ _ | .thermalModelUpdate t _ | .rthWindow t _
  | .capUpdate t | .keepWarmUpdate t | .ledgerUpdate t _ _ _ | .ledgerWriteBack t | .holdupCheck t _ _ | .powerFail t
  | .inputRangeChange t _ | .inputOverpower t | .phaseFail t _ _ | .coolantPressureAssert t | .coolantPressureDeassert t
  | .pressureClampTimeout t | .coolantLossShutdown t | .boostIntervalEnd t | .cooldownEnd t | .commissionStart t
  | .commissionDone t _ | .tripRecordClear t | .bondStreamLoad t | .bondStreamRead t _ | .substZeroingDone t | .pairingRecord t _
  | .mirrorHeartbeatSend t | .heartbeatMissed t | .mirrorHeartbeat t _ _ | .mirrorPage t _ _ | .mirrorPte t _ _
  | .mirrorLte t _ _ | .mirrorContext t _ _ | .mirrorCarry t _ _ | .mirrorEnd t _ _ | .mirrorVoid t _ _ | .mirrorHandover t _ _
  | .takeover t | .takeoverRestoreDone t | .backfill t | .backfillPass t | .twinRelease t | .loadKey t _ _ | .evictKey t _
  | .quoUnseal t _ | .unsealDone t | .enrol t _ _ | .quoRelease t _ _ _ | .debugNonce t | .debugOpen t _ _ | .debugClose t
  | .quoExtend t _ _ _ | .fwStage t _ _ | .commitSvn t | .trngHealthFail t | .getVersion t _ _ | .getCapabilities t _ _
  | .negotiateAlgorithms t _ _ | .getDigests t _ _ | .getCertificate t _ _ | .challenge t _ _ | .getMeasurements t _ _
  | .keyExchange t _ _ | .finish t _ _ | .spdmHeartbeat t _ _ | .keyUpdate t _ _ | .endSession t _ _ | .respondIfReady t _ _
  | .spdmUnsupportedRequest t _ _ | .scbFreeze t | .scbThaw t | .scbAutoThaw t | .flushRequest t | .flushTimer t
  | .flushComplete t _ | .scbClear t | .scbClearAll t | .bucketRefill t _ | .scbDataRead t _ _ | .marginStart t
  | .marginStep t _ _ _ | .marginAbort t | .pcieLaneMargin t _ _ | .mateMake t | .prechargeStart t | .prechargeEnd t
  | .mateBreak t | .perstAssert t _ | .perstDeassert t | .surpriseRemoval t | .entdaa t _ | .pldmRequest t _ | .resetEffecter t _
  | .beatMark t _ _ | .tripLatchRelease t => t

end Sys2Proof
end

