-- ==== Sys2Proof/Laws/PerInstr.lean ====
section
/-! SUPPORT. What holds of every command as syntax: whether it is well formed does not depend on when it happens, and putting it off by n
cycles puts its cycle off by n. -/

set_option Elab.async false

namespace Sys2Proof.Laws.Timed

/-- The same command n cycles later. -/
noncomputable def later (n : Nat) (i : Instr) : Instr :=
  match i with
  | .registerWrite t view off wide value => .registerWrite (t + n) view off wide value
  | .floorPlanChange t => .floorPlanChange (t + n)
  | .playIssue t x k fetch => .playIssue (t + n) x k fetch
  | .threadStart t x mask => .threadStart (t + n) x mask
  | .threadStop t x mask => .threadStop (t + n) x mask
  | .vectorAdd t x => .vectorAdd (t + n) x
  | .vectorMul t x => .vectorMul (t + n) x
  | .vectorFma t x => .vectorFma (t + n) x
  | .vectorMax t x => .vectorMax (t + n) x
  | .vectorMin t x => .vectorMin (t + n) x
  | .vectorCmplt t x => .vectorCmplt (t + n) x
  | .vectorSel t x => .vectorSel (t + n) x
  | .vectorCvt t x => .vectorCvt (t + n) x
  | .vectorBcast t x => .vectorBcast (t + n) x
  | .vectorExp2 t x => .vectorExp2 (t + n) x
  | .vectorLog2 t x => .vectorLog2 (t + n) x
  | .vectorRcp t x => .vectorRcp (t + n) x
  | .vectorRsqrt t x => .vectorRsqrt (t + n) x
  | .vectorTanh t x => .vectorTanh (t + n) x
  | .vectorRedsum t x => .vectorRedsum (t + n) x
  | .vectorResult t x => .vectorResult (t + n) x
  | .storeToRegister t x errs => .storeToRegister (t + n) x errs
  | .registerToStore t x => .registerToStore (t + n) x
  | .storeMoveComplete t x => .storeMoveComplete (t + n) x
  | .tstoreRemapCopyDone t x bank => .tstoreRemapCopyDone (t + n) x bank
  | .tstoreZeroingDone t x => .tstoreZeroingDone (t + n) x
  | .exchangeStart t x => .exchangeStart (t + n) x
  | .exchangeChunkMove t x c errs => .exchangeChunkMove (t + n) x c errs
  | .exchangeChannelHalt t x c => .exchangeChannelHalt (t + n) x c
  | .trapRecord t x k => .trapRecord (t + n) x k
  | .arrayLoad t x errs => .arrayLoad (t + n) x errs
  | .arrayPass t x => .arrayPass (t + n) x
  | .arrayPassLoad t x errs => .arrayPassLoad (t + n) x errs
  | .shadowLoadComplete t x k => .shadowLoadComplete (t + n) x k
  | .arrayOutput t x k pass row col errs => .arrayOutput (t + n) x k pass row col errs
  | .arrayPassFault t x k col parity => .arrayPassFault (t + n) x k col parity
  | .weightParityIdle t x k => .weightParityIdle (t + n) x k
  | .sharedControlFault t x => .sharedControlFault (t + n) x
  | .mvStart t x => .mvStart (t + n) x
  | .mvChunkRead t x errs => .mvChunkRead (t + n) x errs
  | .mvGroupOutput t x errs => .mvGroupOutput (t + n) x errs
  | .mvFault t x vec => .mvFault (t + n) x vec
  | .attend t x => .attend (t + n) x
  | .attendBudgetCheck t x errs => .attendBudgetCheck (t + n) x errs
  | .attendWriteBack t x => .attendWriteBack (t + n) x
  | .shadowWriteThrough t x h => .shadowWriteThrough (t + n) x h
  | .kvShadowRestore t x h => .kvShadowRestore (t + n) x h
  | .latchedWorkStart t x unit => .latchedWorkStart (t + n) x unit
  | .inboundAccess t x i errs => .inboundAccess (t + n) x i errs
  | .unscheduledRequest t x req => .unscheduledRequest (t + n) x req
  | .openCycleServe t x errs => .openCycleServe (t + n) x errs
  | .refreshSlot t x => .refreshSlot (t + n) x
  | .sliceReadDeliver t x => .sliceReadDeliver (t + n) x
  | .sliceRead t x => .sliceRead (t + n) x
  | .sliceWrite t x => .sliceWrite (t + n) x
  | .sliceFlush t x => .sliceFlush (t + n) x
  | .sliceInval t x => .sliceInval (t + n) x
  | .sliceFlushInval t x => .sliceFlushInval (t + n) x
  | .sliceSlotChunk t x errs => .sliceSlotChunk (t + n) x errs
  | .scrubStart t x value => .scrubStart (t + n) x value
  | .scrubAbort t x => .scrubAbort (t + n) x
  | .flipMaskArm t x value => .flipMaskArm (t + n) x value
  | .pchInval t p value => .pchInval (t + n) p value
  | .pchInvalDone t p => .pchInvalDone (t + n) p
  | .bkuGo t x => .bkuGo (t + n) x
  | .bkuProg t x => .bkuProg (t + n) x
  | .bkuSync t x => .bkuSync (t + n) x
  | .bkuAbort t x => .bkuAbort (t + n) x
  | .bkuCommandAreaWrite t x => .bkuCommandAreaWrite (t + n) x
  | .bkuSequenceBegin t x => .bkuSequenceBegin (t + n) x
  | .progWordsWrite t x => .progWordsWrite (t + n) x
  | .bkuLd t x u e errs => .bkuLd (t + n) x u e errs
  | .bkuSt t x u e => .bkuSt (t + n) x u e
  | .bkuAdd t x u e => .bkuAdd (t + n) x u e
  | .bkuMul t x u e => .bkuMul (t + n) x u e
  | .bkuFma t x u e => .bkuFma (t + n) x u e
  | .bkuMax t x u e => .bkuMax (t + n) x u e
  | .bkuMin t x u e => .bkuMin (t + n) x u e
  | .bkuScale t x u e => .bkuScale (t + n) x u e
  | .bkuCvt t x u e => .bkuCvt (t + n) x u e
  | .bkuCsel t x u e => .bkuCsel (t + n) x u e
  | .bkuMov t x u e => .bkuMov (t + n) x u e
  | .chout t x u e => .chout (t + n) x u e
  | .chin t x u e => .chin (t + n) x u e
  | .chadd t x u e => .chadd (t + n) x u e
  | .bkuSet t x u e => .bkuSet (t + n) x u e
  | .bkuSadd t x u e => .bkuSadd (t + n) x u e
  | .bkuLoop t x u e => .bkuLoop (t + n) x u e
  | .bkuEnd t x u e => .bkuEnd (t + n) x u e
  | .bkuWait t x u e => .bkuWait (t + n) x u e
  | .chainArrive t x u => .chainArrive (t + n) x u
  | .segmentBoundary t x u => .segmentBoundary (t + n) x u
  | .bkuPauseEnd t x u => .bkuPauseEnd (t + n) x u
  | .bkuIdle t x u => .bkuIdle (t + n) x u
  | .randomOpen t x => .randomOpen (t + n) x
  | .randomSeek t x => .randomSeek (t + n) x
  | .randomDraw t x => .randomDraw (t + n) x
  | .openReady t x k => .openReady (t + n) x k
  | .seekReady t x k => .seekReady (t + n) x k
  | .drawWrite t x => .drawWrite (t + n) x
  | .frameBoundary t meas => .frameBoundary (t + n) meas
  | .epochWord t w => .epochWord (t + n) w
  | .holdoverEnter t => .holdoverEnter (t + n)
  | .holdoverExpire t => .holdoverExpire (t + n)
  | .msgRest t src issuer value => .msgRest (t + n) src issuer value
  | .msgHold t src issuer value => .msgHold (t + n) src issuer value
  | .msgResume t src issuer value => .msgResume (t + n) src issuer value
  | .msgClamp t src issuer value => .msgClamp (t + n) src issuer value
  | .msgUnclamp t src issuer value => .msgUnclamp (t + n) src issuer value
  | .domainFreezeBegin t => .domainFreezeBegin (t + n)
  | .domainFreezeEnd t => .domainFreezeEnd (t + n)
  | .reqRest t => .reqRest (t + n)
  | .reqHold t => .reqHold (t + n)
  | .reqResume t => .reqResume (t + n)
  | .rampBoundary t => .rampBoundary (t + n)
  | .cellSlotSend t q => .cellSlotSend (t + n) q
  | .cellReceive t q slot cell => .cellReceive (t + n) q slot cell
  | .cellRelease t q => .cellRelease (t + n) q
  | .cellNak t q slots => .cellNak (t + n) q slots
  | .cellReceipt t q status => .cellReceipt (t + n) q status
  | .partnerDetect t q => .partnerDetect (t + n) q
  | .trainingAttemptEnd t q res => .trainingAttemptEnd (t + n) q res
  | .portLockLoss t q => .portLockLoss (t + n) q
  | .sessionDrop t q => .sessionDrop (t + n) q
  | .linkRetrain t q => .linkRetrain (t + n) q
  | .portDisable t q => .portDisable (t + n) q
  | .bridgeHandshakeTry t b low high govLow govHigh => .bridgeHandshakeTry (t + n) b low high govLow govHigh
  | .bridgeRetrain t b => .bridgeRetrain (t + n) b
  | .bridgeRetrainDone t b wires => .bridgeRetrainDone (t + n) b wires
  | .bridgeFallback t b up => .bridgeFallback (t + n) b up
  | .submissionFetch t rec => .submissionFetch (t + n) rec
  | .subNop t i => .subNop (t + n) i
  | .copyIn t i src => .copyIn (t + n) i src
  | .copyOut t i failAt errs => .copyOut (t + n) i failAt errs
  | .activate t i src => .activate (t + n) i src
  | .subStart t i => .subStart (t + n) i
  | .subStop t i => .subStop (t + n) i
  | .subSave t i failAt => .subSave (t + n) i failAt
  | .subRestore t i src => .subRestore (t + n) i src
  | .unload t i => .unload (t + n) i
  | .replyRecord t ok => .replyRecord (t + n) ok
  | .heartbeat t ok => .heartbeat (t + n) ok
  | .ringOpen t value => .ringOpen (t + n) value
  | .ringClose t value => .ringClose (t + n) value
  | .sqTailWrite t value => .sqTailWrite (t + n) value
  | .rqHeadWrite t value => .rqHeadWrite (t + n) value
  | .windowRead t off len => .windowRead (t + n) off len
  | .windowWrite t off data => .windowWrite (t + n) off data
  | .windowReadDeadline t i => .windowReadDeadline (t + n) i
  | .flr t => .flr (t + n)
  | .hotReset t => .hotReset (t + n)
  | .pcieLinkDown t => .pcieLinkDown (t + n)
  | .powerGood t boot => .powerGood (t + n) boot
  | .microcodeChunk t x u rec => .microcodeChunk (t + n) x u rec
  | .tileReset t p pos => .tileReset (t + n) p pos
  | .pierReset t p => .pierReset (t + n) p
  | .computeReset t => .computeReset (t + n)
  | .moduleReset t cause boot => .moduleReset (t + n) cause boot
  | .coldStart t boot => .coldStart (t + n) boot
  | .resetComplete t kind => .resetComplete (t + n) kind
  | .watchdogExpiry t boot => .watchdogExpiry (t + n) boot
  | .reqRunning t => .reqRunning (t + n)
  | .reqWarmIdle t => .reqWarmIdle (t + n)
  | .reqStandby t => .reqStandby (t + n)
  | .reqPark t => .reqPark (t + n)
  | .powerStateChangeDone t retired => .powerStateChangeDone (t + n) retired
  | .sensorSample t i reading => .sensorSample (t + n) i reading
  | .thermalModelUpdate t meas => .thermalModelUpdate (t + n) meas
  | .rthWindow t win => .rthWindow (t + n) win
  | .capUpdate t => .capUpdate (t + n)
  | .keepWarmUpdate t => .keepWarmUpdate (t + n)
  | .ledgerUpdate t rails cycles hours => .ledgerUpdate (t + n) rails cycles hours
  | .ledgerWriteBack t => .ledgerWriteBack (t + n)
  | .holdupCheck t energy ok => .holdupCheck (t + n) energy ok
  | .powerFail t => .powerFail (t + n)
  | .inputRangeChange t volts => .inputRangeChange (t + n) volts
  | .inputOverpower t => .inputOverpower (t + n)
  | .phaseFail t course p => .phaseFail (t + n) course p
  | .coolantPressureAssert t => .coolantPressureAssert (t + n)
  | .coolantPressureDeassert t => .coolantPressureDeassert (t + n)
  | .pressureClampTimeout t => .pressureClampTimeout (t + n)
  | .coolantLossShutdown t => .coolantLossShutdown (t + n)
  | .boostIntervalEnd t => .boostIntervalEnd (t + n)
  | .cooldownEnd t => .cooldownEnd (t + n)
  | .commissionStart t => .commissionStart (t + n)
  | .commissionDone t fit => .commissionDone (t + n) fit
  | .tripRecordClear t => .tripRecordClear (t + n)
  | .bondStreamLoad t => .bondStreamLoad (t + n)
  | .bondStreamRead t src => .bondStreamRead (t + n) src
  | .substZeroingDone t => .substZeroingDone (t + n)
  | .pairingRecord t rec => .pairingRecord (t + n) rec
  | .mirrorHeartbeatSend t => .mirrorHeartbeatSend (t + n)
  | .heartbeatMissed t => .heartbeatMissed (t + n)
  | .mirrorHeartbeat t q rec => .mirrorHeartbeat (t + n) q rec
  | .mirrorPage t q rec => .mirrorPage (t + n) q rec
  | .mirrorPte t q rec => .mirrorPte (t + n) q rec
  | .mirrorLte t q rec => .mirrorLte (t + n) q rec
  | .mirrorContext t q rec => .mirrorContext (t + n) q rec
  | .mirrorCarry t q rec => .mirrorCarry (t + n) q rec
  | .mirrorEnd t q rec => .mirrorEnd (t + n) q rec
  | .mirrorVoid t q rec => .mirrorVoid (t + n) q rec
  | .mirrorHandover t q rec => .mirrorHandover (t + n) q rec
  | .takeover t => .takeover (t + n)
  | .takeoverRestoreDone t => .takeoverRestoreDone (t + n)
  | .backfill t => .backfill (t + n)
  | .backfillPass t => .backfillPass (t + n)
  | .twinRelease t => .twinRelease (t + n)
  | .loadKey t len src => .loadKey (t + n) len src
  | .evictKey t slot => .evictKey (t + n) slot
  | .quoUnseal t count => .quoUnseal (t + n) count
  | .unsealDone t => .unsealDone (t + n)
  | .enrol t len src => .enrol (t + n) len src
  | .quoRelease t len src boot => .quoRelease (t + n) len src boot
  | .debugNonce t => .debugNonce (t + n)
  | .debugOpen t len src => .debugOpen (t + n) len src
  | .debugClose t => .debugClose (t + n)
  | .quoExtend t len reg src => .quoExtend (t + n) len reg src
  | .fwStage t len src => .fwStage (t + n) len src
  | .commitSvn t => .commitSvn (t + n)
  | .trngHealthFail t => .trngHealthFail (t + n)
  | .getVersion t tr req => .getVersion (t + n) tr req
  | .getCapabilities t tr req => .getCapabilities (t + n) tr req
  | .negotiateAlgorithms t tr req => .negotiateAlgorithms (t + n) tr req
  | .getDigests t tr req => .getDigests (t + n) tr req
  | .getCertificate t tr req => .getCertificate (t + n) tr req
  | .challenge t tr req => .challenge (t + n) tr req
  | .getMeasurements t tr req => .getMeasurements (t + n) tr req
  | .keyExchange t tr req => .keyExchange (t + n) tr req
  | .finish t tr req => .finish (t + n) tr req
  | .spdmHeartbeat t tr req => .spdmHeartbeat (t + n) tr req
  | .keyUpdate t tr req => .keyUpdate (t + n) tr req
  | .endSession t tr req => .endSession (t + n) tr req
  | .respondIfReady t tr req => .respondIfReady (t + n) tr req
  | .spdmUnsupportedRequest t tr req => .spdmUnsupportedRequest (t + n) tr req
  | .scbFreeze t => .scbFreeze (t + n)
  | .scbThaw t => .scbThaw (t + n)
  | .scbAutoThaw t => .scbAutoThaw (t + n)
  | .flushRequest t => .flushRequest (t + n)
  | .flushTimer t => .flushTimer (t + n)
  | .flushComplete t ok => .flushComplete (t + n) ok
  | .scbClear t => .scbClear (t + n)
  | .scbClearAll t => .scbClearAll (t + n)
  | .bucketRefill t code => .bucketRefill (t + n) code
  | .scbDataRead t size off => .scbDataRead (t + n) size off
  | .marginStart t => .marginStart (t + n)
  | .marginStep t pass worst spareErrs => .marginStep (t + n) pass worst spareErrs
  | .marginAbort t => .marginAbort (t + n)
  | .pcieLaneMargin t lane cmd => .pcieLaneMargin (t + n) lane cmd
  | .mateMake t => .mateMake (t + n)
  | .prechargeStart t => .prechargeStart (t + n)
  | .prechargeEnd t => .prechargeEnd (t + n)
  | .mateBreak t => .mateBreak (t + n)
  | .perstAssert t boot => .perstAssert (t + n) boot
  | .perstDeassert t => .perstDeassert (t + n)
  | .surpriseRemoval t => .surpriseRemoval (t + n)
  | .entdaa t addr => .entdaa (t + n) addr
  | .pldmRequest t req => .pldmRequest (t + n) req
  | .resetEffecter t boot => .resetEffecter (t + n) boot
  | .beatMark t q field => .beatMark (t + n) q field
  | .tripLatchRelease t => .tripLatchRelease (t + n)

/-- Putting a command off by n cycles. -/
def Statement (i : Instr) : Prop := ∀ n, WellFormed (later n i) = WellFormed i ∧ (later n i).time = i.time + n

theorem registerWrite (t : Nat) (view : View) (off : Nat) (wide : Bool) (value : Word64) : Statement (.registerWrite t view off wide value) := fun _ => ⟨rfl, rfl⟩
theorem floorPlanChange (t : Nat) : Statement (.floorPlanChange t) := fun _ => ⟨rfl, rfl⟩
theorem playIssue (t : Nat) (x : TileIx) (k : ThreadIx) (fetch : Fetch) : Statement (.playIssue t x k fetch) := fun _ => ⟨rfl, rfl⟩
theorem threadStart (t : Nat) (x : TileIx) (mask : BitVec 4) : Statement (.threadStart t x mask) := fun _ => ⟨rfl, rfl⟩
theorem threadStop (t : Nat) (x : TileIx) (mask : BitVec 4) : Statement (.threadStop t x mask) := fun _ => ⟨rfl, rfl⟩
theorem vectorAdd (t : Nat) (x : TileIx) : Statement (.vectorAdd t x) := fun _ => ⟨rfl, rfl⟩
theorem vectorMul (t : Nat) (x : TileIx) : Statement (.vectorMul t x) := fun _ => ⟨rfl, rfl⟩
theorem vectorFma (t : Nat) (x : TileIx) : Statement (.vectorFma t x) := fun _ => ⟨rfl, rfl⟩
theorem vectorMax (t : Nat) (x : TileIx) : Statement (.vectorMax t x) := fun _ => ⟨rfl, rfl⟩
theorem vectorMin (t : Nat) (x : TileIx) : Statement (.vectorMin t x) := fun _ => ⟨rfl, rfl⟩
theorem vectorCmplt (t : Nat) (x : TileIx) : Statement (.vectorCmplt t x) := fun _ => ⟨rfl, rfl⟩
theorem vectorSel (t : Nat) (x : TileIx) : Statement (.vectorSel t x) := fun _ => ⟨rfl, rfl⟩
theorem vectorCvt (t : Nat) (x : TileIx) : Statement (.vectorCvt t x) := fun _ => ⟨rfl, rfl⟩
theorem vectorBcast (t : Nat) (x : TileIx) : Statement (.vectorBcast t x) := fun _ => ⟨rfl, rfl⟩
theorem vectorExp2 (t : Nat) (x : TileIx) : Statement (.vectorExp2 t x) := fun _ => ⟨rfl, rfl⟩
theorem vectorLog2 (t : Nat) (x : TileIx) : Statement (.vectorLog2 t x) := fun _ => ⟨rfl, rfl⟩
theorem vectorRcp (t : Nat) (x : TileIx) : Statement (.vectorRcp t x) := fun _ => ⟨rfl, rfl⟩
theorem vectorRsqrt (t : Nat) (x : TileIx) : Statement (.vectorRsqrt t x) := fun _ => ⟨rfl, rfl⟩
theorem vectorTanh (t : Nat) (x : TileIx) : Statement (.vectorTanh t x) := fun _ => ⟨rfl, rfl⟩
theorem vectorRedsum (t : Nat) (x : TileIx) : Statement (.vectorRedsum t x) := fun _ => ⟨rfl, rfl⟩
theorem vectorResult (t : Nat) (x : TileIx) : Statement (.vectorResult t x) := fun _ => ⟨rfl, rfl⟩
theorem storeToRegister (t : Nat) (x : TileIx) (errs : List MemErr) : Statement (.storeToRegister t x errs) := fun _ => ⟨rfl, rfl⟩
theorem registerToStore (t : Nat) (x : TileIx) : Statement (.registerToStore t x) := fun _ => ⟨rfl, rfl⟩
theorem storeMoveComplete (t : Nat) (x : TileIx) : Statement (.storeMoveComplete t x) := fun _ => ⟨rfl, rfl⟩
theorem tstoreRemapCopyDone (t : Nat) (x : TileIx) (bank : Fin 64) : Statement (.tstoreRemapCopyDone t x bank) := fun _ => ⟨rfl, rfl⟩
theorem tstoreZeroingDone (t : Nat) (x : TileIx) : Statement (.tstoreZeroingDone t x) := fun _ => ⟨rfl, rfl⟩
theorem exchangeStart (t : Nat) (x : TileIx) : Statement (.exchangeStart t x) := fun _ => ⟨rfl, rfl⟩
theorem exchangeChunkMove (t : Nat) (x : TileIx) (c : ChanIx) (errs : List MemErr) : Statement (.exchangeChunkMove t x c errs) := fun _ => ⟨rfl, rfl⟩
theorem exchangeChannelHalt (t : Nat) (x : TileIx) (c : ChanIx) : Statement (.exchangeChannelHalt t x c) := fun _ => ⟨rfl, rfl⟩
theorem trapRecord (t : Nat) (x : TileIx) (k : ThreadIx) : Statement (.trapRecord t x k) := fun _ => ⟨rfl, rfl⟩
theorem arrayLoad (t : Nat) (x : TileIx) (errs : List MemErr) : Statement (.arrayLoad t x errs) := fun _ => ⟨rfl, rfl⟩
theorem arrayPass (t : Nat) (x : TileIx) : Statement (.arrayPass t x) := fun _ => ⟨rfl, rfl⟩
theorem arrayPassLoad (t : Nat) (x : TileIx) (errs : List MemErr) : Statement (.arrayPassLoad t x errs) := fun _ => ⟨rfl, rfl⟩
theorem shadowLoadComplete (t : Nat) (x : TileIx) (k : ThreadIx) : Statement (.shadowLoadComplete t x k) := fun _ => ⟨rfl, rfl⟩
theorem arrayOutput (t : Nat) (x : TileIx) (k : ThreadIx) (pass : Nat) (row : Nat) (col : Nat) (errs : List MemErr) : Statement (.arrayOutput t x k pass row col errs) := fun _ => ⟨rfl, rfl⟩
theorem arrayPassFault (t : Nat) (x : TileIx) (k : ThreadIx) (col : Nat) (parity : Bool) : Statement (.arrayPassFault t x k col parity) := fun _ => ⟨rfl, rfl⟩
theorem weightParityIdle (t : Nat) (x : TileIx) (k : ThreadIx) : Statement (.weightParityIdle t x k) := fun _ => ⟨rfl, rfl⟩
theorem sharedControlFault (t : Nat) (x : TileIx) : Statement (.sharedControlFault t x) := fun _ => ⟨rfl, rfl⟩
theorem mvStart (t : Nat) (x : TileIx) : Statement (.mvStart t x) := fun _ => ⟨rfl, rfl⟩
theorem mvChunkRead (t : Nat) (x : TileIx) (errs : List MemErr) : Statement (.mvChunkRead t x errs) := fun _ => ⟨rfl, rfl⟩
theorem mvGroupOutput (t : Nat) (x : TileIx) (errs : List MemErr) : Statement (.mvGroupOutput t x errs) := fun _ => ⟨rfl, rfl⟩
theorem mvFault (t : Nat) (x : TileIx) (vec : Fin 16) : Statement (.mvFault t x vec) := fun _ => ⟨rfl, rfl⟩
theorem attend (t : Nat) (x : TileIx) : Statement (.attend t x) := fun _ => ⟨rfl, rfl⟩
theorem attendBudgetCheck (t : Nat) (x : TileIx) (errs : List MemErr) : Statement (.attendBudgetCheck t x errs) := fun _ => ⟨rfl, rfl⟩
theorem attendWriteBack (t : Nat) (x : TileIx) : Statement (.attendWriteBack t x) := fun _ => ⟨rfl, rfl⟩
theorem shadowWriteThrough (t : Nat) (x : TileIx) (h : HeadIx) : Statement (.shadowWriteThrough t x h) := fun _ => ⟨rfl, rfl⟩
theorem kvShadowRestore (t : Nat) (x : TileIx) (h : HeadIx) : Statement (.kvShadowRestore t x h) := fun _ => ⟨rfl, rfl⟩
theorem latchedWorkStart (t : Nat) (x : TileIx) (unit : Nat) : Statement (.latchedWorkStart t x unit) := fun _ => ⟨rfl, rfl⟩
theorem inboundAccess (t : Nat) (x : TileIx) (i : Nat) (errs : List MemErr) : Statement (.inboundAccess t x i errs) := fun _ => ⟨rfl, rfl⟩
theorem unscheduledRequest (t : Nat) (x : TileIx) (req : Machine.Acc) : Statement (.unscheduledRequest t x req) := fun _ => ⟨rfl, rfl⟩
theorem openCycleServe (t : Nat) (x : TileIx) (errs : List MemErr) : Statement (.openCycleServe t x errs) := fun _ => ⟨rfl, rfl⟩
theorem refreshSlot (t : Nat) (x : TileIx) : Statement (.refreshSlot t x) := fun _ => ⟨rfl, rfl⟩
theorem sliceReadDeliver (t : Nat) (x : TileIx) : Statement (.sliceReadDeliver t x) := fun _ => ⟨rfl, rfl⟩
theorem sliceRead (t : Nat) (x : TileIx) : Statement (.sliceRead t x) := fun _ => ⟨rfl, rfl⟩
theorem sliceWrite (t : Nat) (x : TileIx) : Statement (.sliceWrite t x) := fun _ => ⟨rfl, rfl⟩
theorem sliceFlush (t : Nat) (x : TileIx) : Statement (.sliceFlush t x) := fun _ => ⟨rfl, rfl⟩
theorem sliceInval (t : Nat) (x : TileIx) : Statement (.sliceInval t x) := fun _ => ⟨rfl, rfl⟩
theorem sliceFlushInval (t : Nat) (x : TileIx) : Statement (.sliceFlushInval t x) := fun _ => ⟨rfl, rfl⟩
theorem sliceSlotChunk (t : Nat) (x : TileIx) (errs : List MemErr) : Statement (.sliceSlotChunk t x errs) := fun _ => ⟨rfl, rfl⟩
theorem scrubStart (t : Nat) (x : TileIx) (value : Word32) : Statement (.scrubStart t x value) := fun _ => ⟨rfl, rfl⟩
theorem scrubAbort (t : Nat) (x : TileIx) : Statement (.scrubAbort t x) := fun _ => ⟨rfl, rfl⟩
theorem flipMaskArm (t : Nat) (x : TileIx) (value : Word64) : Statement (.flipMaskArm t x value) := fun _ => ⟨rfl, rfl⟩
theorem pchInval (t : Nat) (p : PierIx) (value : Word64) : Statement (.pchInval t p value) := fun _ => ⟨rfl, rfl⟩
theorem pchInvalDone (t : Nat) (p : PierIx) : Statement (.pchInvalDone t p) := fun _ => ⟨rfl, rfl⟩
theorem bkuGo (t : Nat) (x : TileIx) : Statement (.bkuGo t x) := fun _ => ⟨rfl, rfl⟩
theorem bkuProg (t : Nat) (x : TileIx) : Statement (.bkuProg t x) := fun _ => ⟨rfl, rfl⟩
theorem bkuSync (t : Nat) (x : TileIx) : Statement (.bkuSync t x) := fun _ => ⟨rfl, rfl⟩
theorem bkuAbort (t : Nat) (x : TileIx) : Statement (.bkuAbort t x) := fun _ => ⟨rfl, rfl⟩
theorem bkuCommandAreaWrite (t : Nat) (x : TileIx) : Statement (.bkuCommandAreaWrite t x) := fun _ => ⟨rfl, rfl⟩
theorem bkuSequenceBegin (t : Nat) (x : TileIx) : Statement (.bkuSequenceBegin t x) := fun _ => ⟨rfl, rfl⟩
theorem progWordsWrite (t : Nat) (x : TileIx) : Statement (.progWordsWrite t x) := fun _ => ⟨rfl, rfl⟩
theorem bkuLd (t : Nat) (x : TileIx) (u : UnitIx) (e : WordErr) (errs : List MemErr) : Statement (.bkuLd t x u e errs) := fun _ => ⟨rfl, rfl⟩
theorem bkuSt (t : Nat) (x : TileIx) (u : UnitIx) (e : WordErr) : Statement (.bkuSt t x u e) := fun _ => ⟨rfl, rfl⟩
theorem bkuAdd (t : Nat) (x : TileIx) (u : UnitIx) (e : WordErr) : Statement (.bkuAdd t x u e) := fun _ => ⟨rfl, rfl⟩
theorem bkuMul (t : Nat) (x : TileIx) (u : UnitIx) (e : WordErr) : Statement (.bkuMul t x u e) := fun _ => ⟨rfl, rfl⟩
theorem bkuFma (t : Nat) (x : TileIx) (u : UnitIx) (e : WordErr) : Statement (.bkuFma t x u e) := fun _ => ⟨rfl, rfl⟩
theorem bkuMax (t : Nat) (x : TileIx) (u : UnitIx) (e : WordErr) : Statement (.bkuMax t x u e) := fun _ => ⟨rfl, rfl⟩
theorem bkuMin (t : Nat) (x : TileIx) (u : UnitIx) (e : WordErr) : Statement (.bkuMin t x u e) := fun _ => ⟨rfl, rfl⟩
theorem bkuScale (t : Nat) (x : TileIx) (u : UnitIx) (e : WordErr) : Statement (.bkuScale t x u e) := fun _ => ⟨rfl, rfl⟩
theorem bkuCvt (t : Nat) (x : TileIx) (u : UnitIx) (e : WordErr) : Statement (.bkuCvt t x u e) := fun _ => ⟨rfl, rfl⟩
theorem bkuCsel (t : Nat) (x : TileIx) (u : UnitIx) (e : WordErr) : Statement (.bkuCsel t x u e) := fun _ => ⟨rfl, rfl⟩
theorem bkuMov (t : Nat) (x : TileIx) (u : UnitIx) (e : WordErr) : Statement (.bkuMov t x u e) := fun _ => ⟨rfl, rfl⟩
theorem chout (t : Nat) (x : TileIx) (u : UnitIx) (e : WordErr) : Statement (.chout t x u e) := fun _ => ⟨rfl, rfl⟩
theorem chin (t : Nat) (x : TileIx) (u : UnitIx) (e : WordErr) : Statement (.chin t x u e) := fun _ => ⟨rfl, rfl⟩
theorem chadd (t : Nat) (x : TileIx) (u : UnitIx) (e : WordErr) : Statement (.chadd t x u e) := fun _ => ⟨rfl, rfl⟩
theorem bkuSet (t : Nat) (x : TileIx) (u : UnitIx) (e : WordErr) : Statement (.bkuSet t x u e) := fun _ => ⟨rfl, rfl⟩
theorem bkuSadd (t : Nat) (x : TileIx) (u : UnitIx) (e : WordErr) : Statement (.bkuSadd t x u e) := fun _ => ⟨rfl, rfl⟩
theorem bkuLoop (t : Nat) (x : TileIx) (u : UnitIx) (e : WordErr) : Statement (.bkuLoop t x u e) := fun _ => ⟨rfl, rfl⟩
theorem bkuEnd (t : Nat) (x : TileIx) (u : UnitIx) (e : WordErr) : Statement (.bkuEnd t x u e) := fun _ => ⟨rfl, rfl⟩
theorem bkuWait (t : Nat) (x : TileIx) (u : UnitIx) (e : WordErr) : Statement (.bkuWait t x u e) := fun _ => ⟨rfl, rfl⟩
theorem chainArrive (t : Nat) (x : TileIx) (u : UnitIx) : Statement (.chainArrive t x u) := fun _ => ⟨rfl, rfl⟩
theorem segmentBoundary (t : Nat) (x : TileIx) (u : UnitIx) : Statement (.segmentBoundary t x u) := fun _ => ⟨rfl, rfl⟩
theorem bkuPauseEnd (t : Nat) (x : TileIx) (u : UnitIx) : Statement (.bkuPauseEnd t x u) := fun _ => ⟨rfl, rfl⟩
theorem bkuIdle (t : Nat) (x : TileIx) (u : UnitIx) : Statement (.bkuIdle t x u) := fun _ => ⟨rfl, rfl⟩
theorem randomOpen (t : Nat) (x : TileIx) : Statement (.randomOpen t x) := fun _ => ⟨rfl, rfl⟩
theorem randomSeek (t : Nat) (x : TileIx) : Statement (.randomSeek t x) := fun _ => ⟨rfl, rfl⟩
theorem randomDraw (t : Nat) (x : TileIx) : Statement (.randomDraw t x) := fun _ => ⟨rfl, rfl⟩
theorem openReady (t : Nat) (x : TileIx) (k : ThreadIx) : Statement (.openReady t x k) := fun _ => ⟨rfl, rfl⟩
theorem seekReady (t : Nat) (x : TileIx) (k : ThreadIx) : Statement (.seekReady t x k) := fun _ => ⟨rfl, rfl⟩
theorem drawWrite (t : Nat) (x : TileIx) : Statement (.drawWrite t x) := fun _ => ⟨rfl, rfl⟩
theorem frameBoundary (t : Nat) (meas : FrameMeas) : Statement (.frameBoundary t meas) := fun _ => ⟨rfl, rfl⟩
theorem epochWord (t : Nat) (w : BitVec 96) : Statement (.epochWord t w) := fun _ => ⟨rfl, rfl⟩
theorem holdoverEnter (t : Nat) : Statement (.holdoverEnter t) := fun _ => ⟨rfl, rfl⟩
theorem holdoverExpire (t : Nat) : Statement (.holdoverExpire t) := fun _ => ⟨rfl, rfl⟩
theorem msgRest (t : Nat) (src : Option PortIx) (issuer : Fin 512) (value : BitVec 15) : Statement (.msgRest t src issuer value) := fun _ => ⟨rfl, rfl⟩
theorem msgHold (t : Nat) (src : Option PortIx) (issuer : Fin 512) (value : BitVec 15) : Statement (.msgHold t src issuer value) := fun _ => ⟨rfl, rfl⟩
theorem msgResume (t : Nat) (src : Option PortIx) (issuer : Fin 512) (value : BitVec 15) : Statement (.msgResume t src issuer value) := fun _ => ⟨rfl, rfl⟩
theorem msgClamp (t : Nat) (src : Option PortIx) (issuer : Fin 512) (value : BitVec 15) : Statement (.msgClamp t src issuer value) := fun _ => ⟨rfl, rfl⟩
theorem msgUnclamp (t : Nat) (src : Option PortIx) (issuer : Fin 512) (value : BitVec 15) : Statement (.msgUnclamp t src issuer value) := fun _ => ⟨rfl, rfl⟩
theorem domainFreezeBegin (t : Nat) : Statement (.domainFreezeBegin t) := fun _ => ⟨rfl, rfl⟩
theorem domainFreezeEnd (t : Nat) : Statement (.domainFreezeEnd t) := fun _ => ⟨rfl, rfl⟩
theorem reqRest (t : Nat) : Statement (.reqRest t) := fun _ => ⟨rfl, rfl⟩
theorem reqHold (t : Nat) : Statement (.reqHold t) := fun _ => ⟨rfl, rfl⟩
theorem reqResume (t : Nat) : Statement (.reqResume t) := fun _ => ⟨rfl, rfl⟩
theorem rampBoundary (t : Nat) : Statement (.rampBoundary t) := fun _ => ⟨rfl, rfl⟩
theorem cellSlotSend (t : Nat) (q : PortIx) : Statement (.cellSlotSend t q) := fun _ => ⟨rfl, rfl⟩
theorem cellReceive (t : Nat) (q : PortIx) (slot : Nat) (cell : Cell) : Statement (.cellReceive t q slot cell) := fun _ => ⟨rfl, rfl⟩
theorem cellRelease (t : Nat) (q : PortIx) : Statement (.cellRelease t q) := fun _ => ⟨rfl, rfl⟩
theorem cellNak (t : Nat) (q : PortIx) (slots : List Nat) : Statement (.cellNak t q slots) := fun _ => ⟨rfl, rfl⟩
theorem cellReceipt (t : Nat) (q : PortIx) (status : BitVec 16) : Statement (.cellReceipt t q status) := fun _ => ⟨rfl, rfl⟩
theorem partnerDetect (t : Nat) (q : PortIx) : Statement (.partnerDetect t q) := fun _ => ⟨rfl, rfl⟩
theorem trainingAttemptEnd (t : Nat) (q : PortIx) (res : TrainResult) : Statement (.trainingAttemptEnd t q res) := fun _ => ⟨rfl, rfl⟩
theorem portLockLoss (t : Nat) (q : PortIx) : Statement (.portLockLoss t q) := fun _ => ⟨rfl, rfl⟩
theorem sessionDrop (t : Nat) (q : PortIx) : Statement (.sessionDrop t q) := fun _ => ⟨rfl, rfl⟩
theorem linkRetrain (t : Nat) (q : PortIx) : Statement (.linkRetrain t q) := fun _ => ⟨rfl, rfl⟩
theorem portDisable (t : Nat) (q : PortIx) : Statement (.portDisable t q) := fun _ => ⟨rfl, rfl⟩
theorem bridgeHandshakeTry (t : Nat) (b : BridgeIx) (low high : BridgeWidth) (govLow govHigh : BridgeWidth) : Statement (.bridgeHandshakeTry t b low high govLow govHigh) := fun _ => ⟨rfl, rfl⟩
theorem bridgeRetrain (t : Nat) (b : BridgeIx) : Statement (.bridgeRetrain t b) := fun _ => ⟨rfl, rfl⟩
theorem bridgeRetrainDone (t : Nat) (b : BridgeIx) (wires : BridgeWires) : Statement (.bridgeRetrainDone t b wires) := fun _ => ⟨rfl, rfl⟩
theorem bridgeFallback (t : Nat) (b : BridgeIx) (up : Bool) : Statement (.bridgeFallback t b up) := fun _ => ⟨rfl, rfl⟩
theorem submissionFetch (t : Nat) (rec : HostRead) : Statement (.submissionFetch t rec) := fun _ => ⟨rfl, rfl⟩
theorem subNop (t : Nat) (i : Nat) : Statement (.subNop t i) := fun _ => ⟨rfl, rfl⟩
theorem copyIn (t : Nat) (i : Nat) (src : HostRead) : Statement (.copyIn t i src) := fun _ => ⟨rfl, rfl⟩
theorem copyOut (t : Nat) (i : Nat) (failAt : Option Nat) (errs : List MemErr) : Statement (.copyOut t i failAt errs) := fun _ => ⟨rfl, rfl⟩
theorem activate (t : Nat) (i : Nat) (src : HostRead) : Statement (.activate t i src) := fun _ => ⟨rfl, rfl⟩
theorem subStart (t : Nat) (i : Nat) : Statement (.subStart t i) := fun _ => ⟨rfl, rfl⟩
theorem subStop (t : Nat) (i : Nat) : Statement (.subStop t i) := fun _ => ⟨rfl, rfl⟩
theorem subSave (t : Nat) (i : Nat) (failAt : Option Nat) : Statement (.subSave t i failAt) := fun _ => ⟨rfl, rfl⟩
theorem subRestore (t : Nat) (i : Nat) (src : HostRead) : Statement (.subRestore t i src) := fun _ => ⟨rfl, rfl⟩
theorem unload (t : Nat) (i : Nat) : Statement (.unload t i) := fun _ => ⟨rfl, rfl⟩
theorem replyRecord (t : Nat) (ok : Bool) : Statement (.replyRecord t ok) := fun _ => ⟨rfl, rfl⟩
theorem heartbeat (t : Nat) (ok : Bool) : Statement (.heartbeat t ok) := fun _ => ⟨rfl, rfl⟩
theorem ringOpen (t : Nat) (value : Word64) : Statement (.ringOpen t value) := fun _ => ⟨rfl, rfl⟩
theorem ringClose (t : Nat) (value : Word64) : Statement (.ringClose t value) := fun _ => ⟨rfl, rfl⟩
theorem sqTailWrite (t : Nat) (value : Word32) : Statement (.sqTailWrite t value) := fun _ => ⟨rfl, rfl⟩
theorem rqHeadWrite (t : Nat) (value : Word32) : Statement (.rqHeadWrite t value) := fun _ => ⟨rfl, rfl⟩
theorem windowRead (t : Nat) (off : BitVec 36) (len : Nat) : Statement (.windowRead t off len) := fun _ => ⟨rfl, rfl⟩
theorem windowWrite (t : Nat) (off : BitVec 36) (data : Bytes) : Statement (.windowWrite t off data) := fun _ => ⟨rfl, rfl⟩
theorem windowReadDeadline (t : Nat) (i : Nat) : Statement (.windowReadDeadline t i) := fun _ => ⟨rfl, rfl⟩
theorem flr (t : Nat) : Statement (.flr t) := fun _ => ⟨rfl, rfl⟩
theorem hotReset (t : Nat) : Statement (.hotReset t) := fun _ => ⟨rfl, rfl⟩
theorem pcieLinkDown (t : Nat) : Statement (.pcieLinkDown t) := fun _ => ⟨rfl, rfl⟩
theorem powerGood (t : Nat) (boot : Boot) : Statement (.powerGood t boot) := fun _ => ⟨rfl, rfl⟩
theorem microcodeChunk (t : Nat) (x : TileIx) (u : UnitIx) (rec : Bytes) : Statement (.microcodeChunk t x u rec) := fun _ => ⟨rfl, rfl⟩
theorem tileReset (t : Nat) (p : PierIx) (pos : Fin 13) : Statement (.tileReset t p pos) := fun _ => ⟨rfl, rfl⟩
theorem pierReset (t : Nat) (p : PierIx) : Statement (.pierReset t p) := fun _ => ⟨rfl, rfl⟩
theorem computeReset (t : Nat) : Statement (.computeReset t) := fun _ => ⟨rfl, rfl⟩
theorem moduleReset (t : Nat) (cause : Fin 8) (boot : Boot) : Statement (.moduleReset t cause boot) := fun _ => ⟨rfl, rfl⟩
theorem coldStart (t : Nat) (boot : Boot) : Statement (.coldStart t boot) := fun _ => ⟨rfl, rfl⟩
theorem resetComplete (t : Nat) (kind : ResetKind) : Statement (.resetComplete t kind) := fun _ => ⟨rfl, rfl⟩
theorem watchdogExpiry (t : Nat) (boot : Boot) : Statement (.watchdogExpiry t boot) := fun _ => ⟨rfl, rfl⟩
theorem reqRunning (t : Nat) : Statement (.reqRunning t) := fun _ => ⟨rfl, rfl⟩
theorem reqWarmIdle (t : Nat) : Statement (.reqWarmIdle t) := fun _ => ⟨rfl, rfl⟩
theorem reqStandby (t : Nat) : Statement (.reqStandby t) := fun _ => ⟨rfl, rfl⟩
theorem reqPark (t : Nat) : Statement (.reqPark t) := fun _ => ⟨rfl, rfl⟩
theorem powerStateChangeDone (t : Nat) (retired : List Nat) : Statement (.powerStateChangeDone t retired) := fun _ => ⟨rfl, rfl⟩
theorem sensorSample (t : Nat) (i : Fin 1332) (reading : Option (BitVec 12)) : Statement (.sensorSample t i reading) := fun _ => ⟨rfl, rfl⟩
theorem thermalModelUpdate (t : Nat) (meas : ThermalMeas) : Statement (.thermalModelUpdate t meas) := fun _ => ⟨rfl, rfl⟩
theorem rthWindow (t : Nat) (win : List RthWindow) : Statement (.rthWindow t win) := fun _ => ⟨rfl, rfl⟩
theorem capUpdate (t : Nat) : Statement (.capUpdate t) := fun _ => ⟨rfl, rfl⟩
theorem keepWarmUpdate (t : Nat) : Statement (.keepWarmUpdate t) := fun _ => ⟨rfl, rfl⟩
theorem ledgerUpdate (t : Nat) (rails : List RailStress) (cycles : List Nat) (hours : Nat) : Statement (.ledgerUpdate t rails cycles hours) := fun _ => ⟨rfl, rfl⟩
theorem ledgerWriteBack (t : Nat) : Statement (.ledgerWriteBack t) := fun _ => ⟨rfl, rfl⟩
theorem holdupCheck (t : Nat) (energy : BitVec 12) (ok : Bool) : Statement (.holdupCheck t energy ok) := fun _ => ⟨rfl, rfl⟩
theorem powerFail (t : Nat) : Statement (.powerFail t) := fun _ => ⟨rfl, rfl⟩
theorem inputRangeChange (t : Nat) (volts : BitVec 8) : Statement (.inputRangeChange t volts) := fun _ => ⟨rfl, rfl⟩
theorem inputOverpower (t : Nat) : Statement (.inputOverpower t) := fun _ => ⟨rfl, rfl⟩
theorem phaseFail (t : Nat) (course : Bool) (p : PierIx) : Statement (.phaseFail t course p) := fun _ => ⟨rfl, rfl⟩
theorem coolantPressureAssert (t : Nat) : Statement (.coolantPressureAssert t) := fun _ => ⟨rfl, rfl⟩
theorem coolantPressureDeassert (t : Nat) : Statement (.coolantPressureDeassert t) := fun _ => ⟨rfl, rfl⟩
theorem pressureClampTimeout (t : Nat) : Statement (.pressureClampTimeout t) := fun _ => ⟨rfl, rfl⟩
theorem coolantLossShutdown (t : Nat) : Statement (.coolantLossShutdown t) := fun _ => ⟨rfl, rfl⟩
theorem boostIntervalEnd (t : Nat) : Statement (.boostIntervalEnd t) := fun _ => ⟨rfl, rfl⟩
theorem cooldownEnd (t : Nat) : Statement (.cooldownEnd t) := fun _ => ⟨rfl, rfl⟩
theorem commissionStart (t : Nat) : Statement (.commissionStart t) := fun _ => ⟨rfl, rfl⟩
theorem commissionDone (t : Nat) (fit : Option (List Nat)) : Statement (.commissionDone t fit) := fun _ => ⟨rfl, rfl⟩
theorem tripRecordClear (t : Nat) : Statement (.tripRecordClear t) := fun _ => ⟨rfl, rfl⟩
theorem bondStreamLoad (t : Nat) : Statement (.bondStreamLoad t) := fun _ => ⟨rfl, rfl⟩
theorem bondStreamRead (t : Nat) (src : HostRead) : Statement (.bondStreamRead t src) := fun _ => ⟨rfl, rfl⟩
theorem substZeroingDone (t : Nat) : Statement (.substZeroingDone t) := fun _ => ⟨rfl, rfl⟩
theorem pairingRecord (t : Nat) (rec : PairRec) : Statement (.pairingRecord t rec) := fun _ => ⟨rfl, rfl⟩
theorem mirrorHeartbeatSend (t : Nat) : Statement (.mirrorHeartbeatSend t) := fun _ => ⟨rfl, rfl⟩
theorem heartbeatMissed (t : Nat) : Statement (.heartbeatMissed t) := fun _ => ⟨rfl, rfl⟩
theorem mirrorHeartbeat (t : Nat) (q : PortIx) (rec : Bytes) : Statement (.mirrorHeartbeat t q rec) := fun _ => ⟨rfl, rfl⟩
theorem mirrorPage (t : Nat) (q : PortIx) (rec : Bytes) : Statement (.mirrorPage t q rec) := fun _ => ⟨rfl, rfl⟩
theorem mirrorPte (t : Nat) (q : PortIx) (rec : Bytes) : Statement (.mirrorPte t q rec) := fun _ => ⟨rfl, rfl⟩
theorem mirrorLte (t : Nat) (q : PortIx) (rec : Bytes) : Statement (.mirrorLte t q rec) := fun _ => ⟨rfl, rfl⟩
theorem mirrorContext (t : Nat) (q : PortIx) (rec : Bytes) : Statement (.mirrorContext t q rec) := fun _ => ⟨rfl, rfl⟩
theorem mirrorCarry (t : Nat) (q : PortIx) (rec : Bytes) : Statement (.mirrorCarry t q rec) := fun _ => ⟨rfl, rfl⟩
theorem mirrorEnd (t : Nat) (q : PortIx) (rec : Bytes) : Statement (.mirrorEnd t q rec) := fun _ => ⟨rfl, rfl⟩
theorem mirrorVoid (t : Nat) (q : PortIx) (rec : Bytes) : Statement (.mirrorVoid t q rec) := fun _ => ⟨rfl, rfl⟩
theorem mirrorHandover (t : Nat) (q : PortIx) (rec : Bytes) : Statement (.mirrorHandover t q rec) := fun _ => ⟨rfl, rfl⟩
theorem takeover (t : Nat) : Statement (.takeover t) := fun _ => ⟨rfl, rfl⟩
theorem takeoverRestoreDone (t : Nat) : Statement (.takeoverRestoreDone t) := fun _ => ⟨rfl, rfl⟩
theorem backfill (t : Nat) : Statement (.backfill t) := fun _ => ⟨rfl, rfl⟩
theorem backfillPass (t : Nat) : Statement (.backfillPass t) := fun _ => ⟨rfl, rfl⟩
theorem twinRelease (t : Nat) : Statement (.twinRelease t) := fun _ => ⟨rfl, rfl⟩
theorem loadKey (t : Nat) (len : Nat) (src : HostRead) : Statement (.loadKey t len src) := fun _ => ⟨rfl, rfl⟩
theorem evictKey (t : Nat) (slot : BitVec 6) : Statement (.evictKey t slot) := fun _ => ⟨rfl, rfl⟩
theorem quoUnseal (t : Nat) (count : Nat) : Statement (.quoUnseal t count) := fun _ => ⟨rfl, rfl⟩
theorem unsealDone (t : Nat) : Statement (.unsealDone t) := fun _ => ⟨rfl, rfl⟩
theorem enrol (t : Nat) (len : Nat) (src : HostRead) : Statement (.enrol t len src) := fun _ => ⟨rfl, rfl⟩
theorem quoRelease (t : Nat) (len : Nat) (src : HostRead) (boot : Boot) : Statement (.quoRelease t len src boot) := fun _ => ⟨rfl, rfl⟩
theorem debugNonce (t : Nat) : Statement (.debugNonce t) := fun _ => ⟨rfl, rfl⟩
theorem debugOpen (t : Nat) (len : Nat) (src : HostRead) : Statement (.debugOpen t len src) := fun _ => ⟨rfl, rfl⟩
theorem debugClose (t : Nat) : Statement (.debugClose t) := fun _ => ⟨rfl, rfl⟩
theorem quoExtend (t : Nat) (len : Nat) (reg : BitVec 6) (src : HostRead) : Statement (.quoExtend t len reg src) := fun _ => ⟨rfl, rfl⟩
theorem fwStage (t : Nat) (len : Nat) (src : HostRead) : Statement (.fwStage t len src) := fun _ => ⟨rfl, rfl⟩
theorem commitSvn (t : Nat) : Statement (.commitSvn t) := fun _ => ⟨rfl, rfl⟩
theorem trngHealthFail (t : Nat) : Statement (.trngHealthFail t) := fun _ => ⟨rfl, rfl⟩
theorem getVersion (t : Nat) (tr : Transport) (req : Bytes) : Statement (.getVersion t tr req) := fun _ => ⟨rfl, rfl⟩
theorem getCapabilities (t : Nat) (tr : Transport) (req : Bytes) : Statement (.getCapabilities t tr req) := fun _ => ⟨rfl, rfl⟩
theorem negotiateAlgorithms (t : Nat) (tr : Transport) (req : Bytes) : Statement (.negotiateAlgorithms t tr req) := fun _ => ⟨rfl, rfl⟩
theorem getDigests (t : Nat) (tr : Transport) (req : Bytes) : Statement (.getDigests t tr req) := fun _ => ⟨rfl, rfl⟩
theorem getCertificate (t : Nat) (tr : Transport) (req : Bytes) : Statement (.getCertificate t tr req) := fun _ => ⟨rfl, rfl⟩
theorem challenge (t : Nat) (tr : Transport) (req : Bytes) : Statement (.challenge t tr req) := fun _ => ⟨rfl, rfl⟩
theorem getMeasurements (t : Nat) (tr : Transport) (req : Bytes) : Statement (.getMeasurements t tr req) := fun _ => ⟨rfl, rfl⟩
theorem keyExchange (t : Nat) (tr : Transport) (req : Bytes) : Statement (.keyExchange t tr req) := fun _ => ⟨rfl, rfl⟩
theorem finish (t : Nat) (tr : Transport) (req : Bytes) : Statement (.finish t tr req) := fun _ => ⟨rfl, rfl⟩
theorem spdmHeartbeat (t : Nat) (tr : Transport) (req : Bytes) : Statement (.spdmHeartbeat t tr req) := fun _ => ⟨rfl, rfl⟩
theorem keyUpdate (t : Nat) (tr : Transport) (req : Bytes) : Statement (.keyUpdate t tr req) := fun _ => ⟨rfl, rfl⟩
theorem endSession (t : Nat) (tr : Transport) (req : Bytes) : Statement (.endSession t tr req) := fun _ => ⟨rfl, rfl⟩
theorem respondIfReady (t : Nat) (tr : Transport) (req : Bytes) : Statement (.respondIfReady t tr req) := fun _ => ⟨rfl, rfl⟩
theorem spdmUnsupportedRequest (t : Nat) (tr : Transport) (req : Bytes) : Statement (.spdmUnsupportedRequest t tr req) := fun _ => ⟨rfl, rfl⟩
theorem scbFreeze (t : Nat) : Statement (.scbFreeze t) := fun _ => ⟨rfl, rfl⟩
theorem scbThaw (t : Nat) : Statement (.scbThaw t) := fun _ => ⟨rfl, rfl⟩
theorem scbAutoThaw (t : Nat) : Statement (.scbAutoThaw t) := fun _ => ⟨rfl, rfl⟩
theorem flushRequest (t : Nat) : Statement (.flushRequest t) := fun _ => ⟨rfl, rfl⟩
theorem flushTimer (t : Nat) : Statement (.flushTimer t) := fun _ => ⟨rfl, rfl⟩
theorem flushComplete (t : Nat) (ok : Bool) : Statement (.flushComplete t ok) := fun _ => ⟨rfl, rfl⟩
theorem scbClear (t : Nat) : Statement (.scbClear t) := fun _ => ⟨rfl, rfl⟩
theorem scbClearAll (t : Nat) : Statement (.scbClearAll t) := fun _ => ⟨rfl, rfl⟩
theorem bucketRefill (t : Nat) (code : BitVec 12) : Statement (.bucketRefill t code) := fun _ => ⟨rfl, rfl⟩
theorem scbDataRead (t : Nat) (size : Nat) (off : Nat) : Statement (.scbDataRead t size off) := fun _ => ⟨rfl, rfl⟩
theorem marginStart (t : Nat) : Statement (.marginStart t) := fun _ => ⟨rfl, rfl⟩
theorem marginStep (t : Nat) (pass : Bool) (worst : BitVec 9) (spareErrs : Nat) : Statement (.marginStep t pass worst spareErrs) := fun _ => ⟨rfl, rfl⟩
theorem marginAbort (t : Nat) : Statement (.marginAbort t) := fun _ => ⟨rfl, rfl⟩
theorem pcieLaneMargin (t : Nat) (lane : Fin 16) (cmd : BitVec 16) : Statement (.pcieLaneMargin t lane cmd) := fun _ => ⟨rfl, rfl⟩
theorem mateMake (t : Nat) : Statement (.mateMake t) := fun _ => ⟨rfl, rfl⟩
theorem prechargeStart (t : Nat) : Statement (.prechargeStart t) := fun _ => ⟨rfl, rfl⟩
theorem prechargeEnd (t : Nat) : Statement (.prechargeEnd t) := fun _ => ⟨rfl, rfl⟩
theorem mateBreak (t : Nat) : Statement (.mateBreak t) := fun _ => ⟨rfl, rfl⟩
theorem perstAssert (t : Nat) (boot : Boot) : Statement (.perstAssert t boot) := fun _ => ⟨rfl, rfl⟩
theorem perstDeassert (t : Nat) : Statement (.perstDeassert t) := fun _ => ⟨rfl, rfl⟩
theorem surpriseRemoval (t : Nat) : Statement (.surpriseRemoval t) := fun _ => ⟨rfl, rfl⟩
theorem entdaa (t : Nat) (addr : BitVec 7) : Statement (.entdaa t addr) := fun _ => ⟨rfl, rfl⟩
theorem pldmRequest (t : Nat) (req : Pldm) : Statement (.pldmRequest t req) := fun _ => ⟨rfl, rfl⟩
theorem resetEffecter (t : Nat) (boot : Boot) : Statement (.resetEffecter t boot) := fun _ => ⟨rfl, rfl⟩
theorem beatMark (t : Nat) (q : PortIx) (field : BitVec 8) : Statement (.beatMark t q field) := fun _ => ⟨rfl, rfl⟩
theorem tripLatchRelease (t : Nat) : Statement (.tripLatchRelease t) := fun _ => ⟨rfl, rfl⟩

end Sys2Proof.Laws.Timed
end

