-- ==== Sys2Proof/Laws/Tiles.lean ====
section
/-! SUPPORT. One lemma for each part of the state under each change of a part of a tile, and the changed tile itself. -/

set_option Elab.async false

namespace Sys2Proof.Machine

/-! ### `State.updEng` -/

@[simp] theorem State.updEng_pending (s : State) (x : Nat) (f : Engine → Engine) : (s.updEng x f).pending = s.pending := (rfl)
@[simp] theorem State.updEng_now (s : State) (x : Nat) (f : Engine → Engine) : (s.updEng x f).now = s.now := (rfl)
@[simp] theorem State.updEng_fv (s : State) (x : Nat) (f : Engine → Engine) : (s.updEng x f).fv = s.fv := (rfl)
@[simp] theorem State.updEng_mem (s : State) (x : Nat) (f : Engine → Engine) : (s.updEng x f).mem = s.mem := (rfl)
@[simp] theorem State.updEng_ts (s : State) (x : Nat) (f : Engine → Engine) : (s.updEng x f).ts = s.ts := (rfl)
@[simp] theorem State.updEng_badLines (s : State) (x : Nat) (f : Engine → Engine) : (s.updEng x f).badLines = s.badLines := (rfl)
@[simp] theorem State.updEng_latent (s : State) (x : Nat) (f : Engine → Engine) : (s.updEng x f).latent = s.latent := (rfl)
@[simp] theorem State.updEng_pch (s : State) (x : Nat) (f : Engine → Engine) : (s.updEng x f).pch = s.pch := (rfl)
@[simp] theorem State.updEng_beat (s : State) (x : Nat) (f : Engine → Engine) : (s.updEng x f).beat = s.beat := (rfl)
@[simp] theorem State.updEng_imgA (s : State) (x : Nat) (f : Engine → Engine) : (s.updEng x f).imgA = s.imgA := (rfl)
@[simp] theorem State.updEng_imgB (s : State) (x : Nat) (f : Engine → Engine) : (s.updEng x f).imgB = s.imgB := (rfl)
@[simp] theorem State.updEng_scb (s : State) (x : Nat) (f : Engine → Engine) : (s.updEng x f).scb = s.scb := (rfl)
@[simp] theorem State.updEng_fpPend (s : State) (x : Nat) (f : Engine → Engine) : (s.updEng x f).fpPend = s.fpPend := (rfl)
@[simp] theorem State.updEng_repairs (s : State) (x : Nat) (f : Engine → Engine) : (s.updEng x f).repairs = s.repairs := (rfl)
@[simp] theorem State.updEng_out (s : State) (x : Nat) (f : Engine → Engine) : (s.updEng x f).out = s.out := (rfl)
@[simp] theorem State.updEng_remote (s : State) (x : Nat) (f : Engine → Engine) : (s.updEng x f).remote = s.remote := (rfl)
@[simp] theorem State.updEng_wins (s : State) (x : Nat) (f : Engine → Engine) : (s.updEng x f).wins = s.wins := (rfl)
@[simp] theorem State.updEng_answers (s : State) (x : Nat) (f : Engine → Engine) : (s.updEng x f).answers = s.answers := (rfl)
@[simp] theorem State.updEng_freeCtr (s : State) (x : Nat) (f : Engine → Engine) : (s.updEng x f).freeCtr = s.freeCtr := (rfl)
@[simp] theorem State.updEng_coldAt (s : State) (x : Nat) (f : Engine → Engine) : (s.updEng x f).coldAt = s.coldAt := (rfl)
@[simp] theorem State.updEng_seed (s : State) (x : Nat) (f : Engine → Engine) : (s.updEng x f).seed = s.seed := (rfl)
@[simp] theorem State.updEng_headKeys (s : State) (x : Nat) (f : Engine → Engine) : (s.updEng x f).headKeys = s.headKeys := (rfl)
@[simp] theorem State.updEng_modules (s : State) (x : Nat) (f : Engine → Engine) : (s.updEng x f).modules = s.modules := (rfl)
@[simp] theorem State.updEng_ports (s : State) (x : Nat) (f : Engine → Engine) : (s.updEng x f).ports = s.ports := (rfl)
@[simp] theorem State.updEng_front (s : State) (x : Nat) (f : Engine → Engine) : (s.updEng x f).front = s.front := (rfl)
@[simp] theorem State.updEng_life (s : State) (x : Nat) (f : Engine → Engine) : (s.updEng x f).life = s.life := (rfl)
@[simp] theorem State.updEng_power (s : State) (x : Nat) (f : Engine → Engine) : (s.updEng x f).power = s.power := (rfl)
@[simp] theorem State.updEng_bond (s : State) (x : Nat) (f : Engine → Engine) : (s.updEng x f).bond = s.bond := (rfl)
@[simp] theorem State.updEng_twin (s : State) (x : Nat) (f : Engine → Engine) : (s.updEng x f).twin = s.twin := (rfl)
@[simp] theorem State.updEng_quoin (s : State) (x : Nat) (f : Engine → Engine) : (s.updEng x f).quoin = s.quoin := (rfl)
@[simp] theorem State.updEng_margin (s : State) (x : Nat) (f : Engine → Engine) : (s.updEng x f).margin = s.margin := (rfl)
@[simp] theorem State.updEng_lanes (s : State) (x : Nat) (f : Engine → Engine) : (s.updEng x f).lanes = s.lanes := (rfl)
/-- Only tiles change. -/
theorem State.updEng_else (s : State) (x : Nat) (f : Engine → Engine) : s.updEng x f = { s with tiles := (s.updEng x f).tiles } := rfl

/-! ### `State.updChan` -/

@[simp] theorem State.updChan_pending (s : State) (x c : Nat) (f : Chan → Chan) : (s.updChan x c f).pending = s.pending := (rfl)
@[simp] theorem State.updChan_now (s : State) (x c : Nat) (f : Chan → Chan) : (s.updChan x c f).now = s.now := (rfl)
@[simp] theorem State.updChan_fv (s : State) (x c : Nat) (f : Chan → Chan) : (s.updChan x c f).fv = s.fv := (rfl)
@[simp] theorem State.updChan_mem (s : State) (x c : Nat) (f : Chan → Chan) : (s.updChan x c f).mem = s.mem := (rfl)
@[simp] theorem State.updChan_ts (s : State) (x c : Nat) (f : Chan → Chan) : (s.updChan x c f).ts = s.ts := (rfl)
@[simp] theorem State.updChan_beat (s : State) (x c : Nat) (f : Chan → Chan) : (s.updChan x c f).beat = s.beat := (rfl)
@[simp] theorem State.updChan_margin (s : State) (x c : Nat) (f : Chan → Chan) : (s.updChan x c f).margin = s.margin := (rfl)
@[simp] theorem State.updChan_scb (s : State) (x c : Nat) (f : Chan → Chan) : (s.updChan x c f).scb = s.scb := (rfl)
@[simp] theorem State.updChan_freeCtr (s : State) (x c : Nat) (f : Chan → Chan) : (s.updChan x c f).freeCtr = s.freeCtr := (rfl)
@[simp] theorem State.updChan_remote (s : State) (x c : Nat) (f : Chan → Chan) : (s.updChan x c f).remote = s.remote := (rfl)
/-- Only tiles change. -/
theorem State.updChan_else (s : State) (x c : Nat) (f : Chan → Chan) : s.updChan x c f = { s with tiles := (s.updChan x c f).tiles } := rfl
@[simp] theorem State.rd_updChan (s : State) (x c : Nat) (f : Chan → Chan) (g : Fld) (i : Nat) : (s.updChan x c f).rd g i = s.rd g i := (rfl)
/-- Another tile is as it was. -/
theorem State.tile_updChan_ne (s : State) (x c : Nat) (f : Chan → Chan) {y : Nat} (h : y ≠ x) : (s.updChan x c f).tile y = s.tile y := by
  simp [State.updChan, State.updEng, State.tile, State.updTile, Tab.get_upd_ne _ _ _ _ h]

/-! ### `State.updThread` -/

@[simp] theorem State.updThread_pending (s : State) (x k : Nat) (f : Thread → Thread) : (s.updThread x k f).pending = s.pending := (rfl)
@[simp] theorem State.updThread_now (s : State) (x k : Nat) (f : Thread → Thread) : (s.updThread x k f).now = s.now := (rfl)
@[simp] theorem State.updThread_fv (s : State) (x k : Nat) (f : Thread → Thread) : (s.updThread x k f).fv = s.fv := (rfl)
@[simp] theorem State.updThread_mem (s : State) (x k : Nat) (f : Thread → Thread) : (s.updThread x k f).mem = s.mem := (rfl)
@[simp] theorem State.updThread_ts (s : State) (x k : Nat) (f : Thread → Thread) : (s.updThread x k f).ts = s.ts := (rfl)
@[simp] theorem State.updThread_beat (s : State) (x k : Nat) (f : Thread → Thread) : (s.updThread x k f).beat = s.beat := (rfl)
@[simp] theorem State.updThread_margin (s : State) (x k : Nat) (f : Thread → Thread) : (s.updThread x k f).margin = s.margin := (rfl)
@[simp] theorem State.updThread_scb (s : State) (x k : Nat) (f : Thread → Thread) : (s.updThread x k f).scb = s.scb := (rfl)
@[simp] theorem State.updThread_freeCtr (s : State) (x k : Nat) (f : Thread → Thread) : (s.updThread x k f).freeCtr = s.freeCtr := (rfl)
@[simp] theorem State.updThread_remote (s : State) (x k : Nat) (f : Thread → Thread) : (s.updThread x k f).remote = s.remote := (rfl)
/-- Only tiles change. -/
theorem State.updThread_else (s : State) (x k : Nat) (f : Thread → Thread) : s.updThread x k f = { s with tiles := (s.updThread x k f).tiles } := rfl
/-- Another tile is as it was. -/
theorem State.tile_updThread_ne (s : State) (x k : Nat) (f : Thread → Thread) {y : Nat} (h : y ≠ x) : (s.updThread x k f).tile y = s.tile y := by
  simp [State.updThread, State.updEng, State.tile, State.updTile, Tab.get_upd_ne _ _ _ _ h]

/-! ### `State.updPart` -/

@[simp] theorem State.updPart_pending (s : State) (x k : Nat) (f : Part → Part) : (s.updPart x k f).pending = s.pending := (rfl)
@[simp] theorem State.updPart_now (s : State) (x k : Nat) (f : Part → Part) : (s.updPart x k f).now = s.now := (rfl)
@[simp] theorem State.updPart_fv (s : State) (x k : Nat) (f : Part → Part) : (s.updPart x k f).fv = s.fv := (rfl)
@[simp] theorem State.updPart_mem (s : State) (x k : Nat) (f : Part → Part) : (s.updPart x k f).mem = s.mem := (rfl)
@[simp] theorem State.updPart_ts (s : State) (x k : Nat) (f : Part → Part) : (s.updPart x k f).ts = s.ts := (rfl)
@[simp] theorem State.updPart_beat (s : State) (x k : Nat) (f : Part → Part) : (s.updPart x k f).beat = s.beat := (rfl)
@[simp] theorem State.updPart_margin (s : State) (x k : Nat) (f : Part → Part) : (s.updPart x k f).margin = s.margin := (rfl)
@[simp] theorem State.updPart_scb (s : State) (x k : Nat) (f : Part → Part) : (s.updPart x k f).scb = s.scb := (rfl)
@[simp] theorem State.updPart_freeCtr (s : State) (x k : Nat) (f : Part → Part) : (s.updPart x k f).freeCtr = s.freeCtr := (rfl)
@[simp] theorem State.updPart_remote (s : State) (x k : Nat) (f : Part → Part) : (s.updPart x k f).remote = s.remote := (rfl)
/-- Only tiles change. -/
theorem State.updPart_else (s : State) (x k : Nat) (f : Part → Part) : s.updPart x k f = { s with tiles := (s.updPart x k f).tiles } := rfl
@[simp] theorem State.rd_updPart (s : State) (x k : Nat) (f : Part → Part) (g : Fld) (i : Nat) : (s.updPart x k f).rd g i = s.rd g i := (rfl)
/-- Another tile is as it was. -/
theorem State.tile_updPart_ne (s : State) (x k : Nat) (f : Part → Part) {y : Nat} (h : y ≠ x) : (s.updPart x k f).tile y = s.tile y := by
  simp [State.updPart, State.tile, State.updTile, Tab.get_upd_ne _ _ _ _ h]
@[simp] theorem State.tile_updPart_same (s : State) (x k : Nat) (f : Part → Part) : (s.updPart x k f).tile x = { s.tile x with parts := Tab.upd Part.idle (s.tile x).parts k f } := by
  simp [State.updPart]

/-! ### `State.updSlice` -/

@[simp] theorem State.updSlice_pending (s : State) (x : Nat) (f : Slice → Slice) : (s.updSlice x f).pending = s.pending := (rfl)
@[simp] theorem State.updSlice_now (s : State) (x : Nat) (f : Slice → Slice) : (s.updSlice x f).now = s.now := (rfl)
@[simp] theorem State.updSlice_fv (s : State) (x : Nat) (f : Slice → Slice) : (s.updSlice x f).fv = s.fv := (rfl)
@[simp] theorem State.updSlice_mem (s : State) (x : Nat) (f : Slice → Slice) : (s.updSlice x f).mem = s.mem := (rfl)
@[simp] theorem State.updSlice_ts (s : State) (x : Nat) (f : Slice → Slice) : (s.updSlice x f).ts = s.ts := (rfl)
@[simp] theorem State.updSlice_beat (s : State) (x : Nat) (f : Slice → Slice) : (s.updSlice x f).beat = s.beat := (rfl)
@[simp] theorem State.updSlice_margin (s : State) (x : Nat) (f : Slice → Slice) : (s.updSlice x f).margin = s.margin := (rfl)
@[simp] theorem State.updSlice_scb (s : State) (x : Nat) (f : Slice → Slice) : (s.updSlice x f).scb = s.scb := (rfl)
@[simp] theorem State.updSlice_freeCtr (s : State) (x : Nat) (f : Slice → Slice) : (s.updSlice x f).freeCtr = s.freeCtr := (rfl)
@[simp] theorem State.updSlice_remote (s : State) (x : Nat) (f : Slice → Slice) : (s.updSlice x f).remote = s.remote := (rfl)
/-- Only tiles change. -/
theorem State.updSlice_else (s : State) (x : Nat) (f : Slice → Slice) : s.updSlice x f = { s with tiles := (s.updSlice x f).tiles } := rfl
@[simp] theorem State.rd_updSlice (s : State) (x : Nat) (f : Slice → Slice) (g : Fld) (i : Nat) : (s.updSlice x f).rd g i = s.rd g i := (rfl)
/-- Another tile is as it was. -/
theorem State.tile_updSlice_ne (s : State) (x : Nat) (f : Slice → Slice) {y : Nat} (h : y ≠ x) : (s.updSlice x f).tile y = s.tile y := by
  simp [State.updSlice, State.tile, State.updTile, Tab.get_upd_ne _ _ _ _ h]
@[simp] theorem State.tile_updSlice_same (s : State) (x : Nat) (f : Slice → Slice) : (s.updSlice x f).tile x = { s.tile x with slice := f (s.tile x).slice } := by
  simp [State.updSlice]

/-! ### `State.updCtx` -/

@[simp] theorem State.updCtx_pending (s : State) (x n : Nat) (f : Ctx → Ctx) : (s.updCtx x n f).pending = s.pending := (rfl)
@[simp] theorem State.updCtx_now (s : State) (x n : Nat) (f : Ctx → Ctx) : (s.updCtx x n f).now = s.now := (rfl)
@[simp] theorem State.updCtx_fv (s : State) (x n : Nat) (f : Ctx → Ctx) : (s.updCtx x n f).fv = s.fv := (rfl)
@[simp] theorem State.updCtx_mem (s : State) (x n : Nat) (f : Ctx → Ctx) : (s.updCtx x n f).mem = s.mem := (rfl)
@[simp] theorem State.updCtx_ts (s : State) (x n : Nat) (f : Ctx → Ctx) : (s.updCtx x n f).ts = s.ts := (rfl)
@[simp] theorem State.updCtx_beat (s : State) (x n : Nat) (f : Ctx → Ctx) : (s.updCtx x n f).beat = s.beat := (rfl)
@[simp] theorem State.updCtx_margin (s : State) (x n : Nat) (f : Ctx → Ctx) : (s.updCtx x n f).margin = s.margin := (rfl)
@[simp] theorem State.updCtx_scb (s : State) (x n : Nat) (f : Ctx → Ctx) : (s.updCtx x n f).scb = s.scb := (rfl)
@[simp] theorem State.updCtx_freeCtr (s : State) (x n : Nat) (f : Ctx → Ctx) : (s.updCtx x n f).freeCtr = s.freeCtr := (rfl)
@[simp] theorem State.updCtx_remote (s : State) (x n : Nat) (f : Ctx → Ctx) : (s.updCtx x n f).remote = s.remote := (rfl)
/-- Only tiles change. -/
theorem State.updCtx_else (s : State) (x n : Nat) (f : Ctx → Ctx) : s.updCtx x n f = { s with tiles := (s.updCtx x n f).tiles } := rfl
@[simp] theorem State.rd_updCtx (s : State) (x n : Nat) (f : Ctx → Ctx) (g : Fld) (i : Nat) : (s.updCtx x n f).rd g i = s.rd g i := (rfl)
/-- Another tile is as it was. -/
theorem State.tile_updCtx_ne (s : State) (x n : Nat) (f : Ctx → Ctx) {y : Nat} (h : y ≠ x) : (s.updCtx x n f).tile y = s.tile y := by
  simp [State.updCtx, State.tile, State.updTile, Tab.get_upd_ne _ _ _ _ h]
@[simp] theorem State.tile_updCtx_same (s : State) (x n : Nat) (f : Ctx → Ctx) : (s.updCtx x n f).tile x = { s.tile x with ctxs := Tab.upd Ctx.closed (s.tile x).ctxs n f } := by
  simp [State.updCtx]

/-! ### `State.updBku` -/

@[simp] theorem State.updBku_pending (s : State) (x u : Nat) (f : Bku → Bku) : (s.updBku x u f).pending = s.pending := (rfl)
@[simp] theorem State.updBku_now (s : State) (x u : Nat) (f : Bku → Bku) : (s.updBku x u f).now = s.now := (rfl)
@[simp] theorem State.updBku_fv (s : State) (x u : Nat) (f : Bku → Bku) : (s.updBku x u f).fv = s.fv := (rfl)
@[simp] theorem State.updBku_mem (s : State) (x u : Nat) (f : Bku → Bku) : (s.updBku x u f).mem = s.mem := (rfl)
@[simp] theorem State.updBku_ts (s : State) (x u : Nat) (f : Bku → Bku) : (s.updBku x u f).ts = s.ts := (rfl)
@[simp] theorem State.updBku_beat (s : State) (x u : Nat) (f : Bku → Bku) : (s.updBku x u f).beat = s.beat := (rfl)
@[simp] theorem State.updBku_margin (s : State) (x u : Nat) (f : Bku → Bku) : (s.updBku x u f).margin = s.margin := (rfl)
@[simp] theorem State.updBku_scb (s : State) (x u : Nat) (f : Bku → Bku) : (s.updBku x u f).scb = s.scb := (rfl)
@[simp] theorem State.updBku_freeCtr (s : State) (x u : Nat) (f : Bku → Bku) : (s.updBku x u f).freeCtr = s.freeCtr := (rfl)
@[simp] theorem State.updBku_remote (s : State) (x u : Nat) (f : Bku → Bku) : (s.updBku x u f).remote = s.remote := (rfl)
/-- Only tiles change. -/
theorem State.updBku_else (s : State) (x u : Nat) (f : Bku → Bku) : s.updBku x u f = { s with tiles := (s.updBku x u f).tiles } := rfl
@[simp] theorem State.rd_updBku (s : State) (x u : Nat) (f : Bku → Bku) (g : Fld) (i : Nat) : (s.updBku x u f).rd g i = s.rd g i := (rfl)
/-- Another tile is as it was. -/
theorem State.tile_updBku_ne (s : State) (x u : Nat) (f : Bku → Bku) {y : Nat} (h : y ≠ x) : (s.updBku x u f).tile y = s.tile y := by
  simp [State.updBku, State.tile, State.updTile, Tab.get_upd_ne _ _ _ _ h]
@[simp] theorem State.tile_updBku_same (s : State) (x u : Nat) (f : Bku → Bku) : (s.updBku x u f).tile x = { s.tile x with units := Tab.upd Bku.idle (s.tile x).units u f } := by
  simp [State.updBku]

/-! ### `State.updFacts` -/

@[simp] theorem State.updFacts_pending (s : State) (x : Nat) (f : TileFacts → TileFacts) : (s.updFacts x f).pending = s.pending := (rfl)
@[simp] theorem State.updFacts_now (s : State) (x : Nat) (f : TileFacts → TileFacts) : (s.updFacts x f).now = s.now := (rfl)
@[simp] theorem State.updFacts_fv (s : State) (x : Nat) (f : TileFacts → TileFacts) : (s.updFacts x f).fv = s.fv := (rfl)
@[simp] theorem State.updFacts_mem (s : State) (x : Nat) (f : TileFacts → TileFacts) : (s.updFacts x f).mem = s.mem := (rfl)
@[simp] theorem State.updFacts_ts (s : State) (x : Nat) (f : TileFacts → TileFacts) : (s.updFacts x f).ts = s.ts := (rfl)
@[simp] theorem State.updFacts_beat (s : State) (x : Nat) (f : TileFacts → TileFacts) : (s.updFacts x f).beat = s.beat := (rfl)
@[simp] theorem State.updFacts_margin (s : State) (x : Nat) (f : TileFacts → TileFacts) : (s.updFacts x f).margin = s.margin := (rfl)
@[simp] theorem State.updFacts_scb (s : State) (x : Nat) (f : TileFacts → TileFacts) : (s.updFacts x f).scb = s.scb := (rfl)
@[simp] theorem State.updFacts_freeCtr (s : State) (x : Nat) (f : TileFacts → TileFacts) : (s.updFacts x f).freeCtr = s.freeCtr := (rfl)
@[simp] theorem State.updFacts_remote (s : State) (x : Nat) (f : TileFacts → TileFacts) : (s.updFacts x f).remote = s.remote := (rfl)
/-- Only tiles change. -/
theorem State.updFacts_else (s : State) (x : Nat) (f : TileFacts → TileFacts) : s.updFacts x f = { s with tiles := (s.updFacts x f).tiles } := rfl
@[simp] theorem State.rd_updFacts (s : State) (x : Nat) (f : TileFacts → TileFacts) (g : Fld) (i : Nat) : (s.updFacts x f).rd g i = s.rd g i := (rfl)
/-- Another tile is as it was. -/
theorem State.tile_updFacts_ne (s : State) (x : Nat) (f : TileFacts → TileFacts) {y : Nat} (h : y ≠ x) : (s.updFacts x f).tile y = s.tile y := by
  simp [State.updFacts, State.tile, State.updTile, Tab.get_upd_ne _ _ _ _ h]
@[simp] theorem State.tile_updFacts_same (s : State) (x : Nat) (f : TileFacts → TileFacts) : (s.updFacts x f).tile x = { s.tile x with facts := f (s.tile x).facts } := by
  simp [State.updFacts]

/-! ### `State.setVreg` -/

@[simp] theorem State.setVreg_pending (s : State) (x r : Nat) (l : List Nat) : (s.setVreg x r l).pending = s.pending := (rfl)
@[simp] theorem State.setVreg_now (s : State) (x r : Nat) (l : List Nat) : (s.setVreg x r l).now = s.now := (rfl)
@[simp] theorem State.setVreg_fv (s : State) (x r : Nat) (l : List Nat) : (s.setVreg x r l).fv = s.fv := (rfl)
@[simp] theorem State.setVreg_mem (s : State) (x r : Nat) (l : List Nat) : (s.setVreg x r l).mem = s.mem := (rfl)
@[simp] theorem State.setVreg_ts (s : State) (x r : Nat) (l : List Nat) : (s.setVreg x r l).ts = s.ts := (rfl)
@[simp] theorem State.setVreg_beat (s : State) (x r : Nat) (l : List Nat) : (s.setVreg x r l).beat = s.beat := (rfl)
@[simp] theorem State.setVreg_margin (s : State) (x r : Nat) (l : List Nat) : (s.setVreg x r l).margin = s.margin := (rfl)
@[simp] theorem State.setVreg_scb (s : State) (x r : Nat) (l : List Nat) : (s.setVreg x r l).scb = s.scb := (rfl)
@[simp] theorem State.setVreg_freeCtr (s : State) (x r : Nat) (l : List Nat) : (s.setVreg x r l).freeCtr = s.freeCtr := (rfl)
@[simp] theorem State.setVreg_remote (s : State) (x r : Nat) (l : List Nat) : (s.setVreg x r l).remote = s.remote := (rfl)
/-- Only tiles change. -/
theorem State.setVreg_else (s : State) (x r : Nat) (l : List Nat) : s.setVreg x r l = { s with tiles := (s.setVreg x r l).tiles } := rfl
@[simp] theorem State.rd_setVreg (s : State) (x r : Nat) (l : List Nat) (g : Fld) (i : Nat) : (s.setVreg x r l).rd g i = s.rd g i := (rfl)
/-- Another tile is as it was. -/
theorem State.tile_setVreg_ne (s : State) (x r : Nat) (l : List Nat) {y : Nat} (h : y ≠ x) : (s.setVreg x r l).tile y = s.tile y :=
  State.tile_updEng_ne s _ h

/-! ### `State.setScore` -/

@[simp] theorem State.setScore_pending (s : State) (x key : Nat) (v : Nat) : (s.setScore x key v).pending = s.pending := (rfl)
@[simp] theorem State.setScore_now (s : State) (x key : Nat) (v : Nat) : (s.setScore x key v).now = s.now := (rfl)
@[simp] theorem State.setScore_fv (s : State) (x key : Nat) (v : Nat) : (s.setScore x key v).fv = s.fv := (rfl)
@[simp] theorem State.setScore_mem (s : State) (x key : Nat) (v : Nat) : (s.setScore x key v).mem = s.mem := (rfl)
@[simp] theorem State.setScore_ts (s : State) (x key : Nat) (v : Nat) : (s.setScore x key v).ts = s.ts := (rfl)
@[simp] theorem State.setScore_beat (s : State) (x key : Nat) (v : Nat) : (s.setScore x key v).beat = s.beat := (rfl)
@[simp] theorem State.setScore_margin (s : State) (x key : Nat) (v : Nat) : (s.setScore x key v).margin = s.margin := (rfl)
@[simp] theorem State.setScore_scb (s : State) (x key : Nat) (v : Nat) : (s.setScore x key v).scb = s.scb := (rfl)
@[simp] theorem State.setScore_freeCtr (s : State) (x key : Nat) (v : Nat) : (s.setScore x key v).freeCtr = s.freeCtr := (rfl)
@[simp] theorem State.setScore_remote (s : State) (x key : Nat) (v : Nat) : (s.setScore x key v).remote = s.remote := (rfl)
/-- Only tiles change. -/
theorem State.setScore_else (s : State) (x key : Nat) (v : Nat) : s.setScore x key v = { s with tiles := (s.setScore x key v).tiles } := rfl
@[simp] theorem State.rd_setScore (s : State) (x key : Nat) (v : Nat) (g : Fld) (i : Nat) : (s.setScore x key v).rd g i = s.rd g i := (rfl)
/-- Another tile is as it was. -/
theorem State.tile_setScore_ne (s : State) (x key : Nat) (v : Nat) {y : Nat} (h : y ≠ x) : (s.setScore x key v).tile y = s.tile y := by
  simp [State.setScore, State.tile, State.updTile, Tab.get_upd_ne _ _ _ _ h]
@[simp] theorem State.tile_setScore_same (s : State) (x key : Nat) (v : Nat) : (s.setScore x key v).tile x = { s.tile x with score := Tab.put 0 (s.tile x).score key v } := by
  simp [State.setScore]

/-! ### Parts of a tile -/

@[simp] theorem State.chan_updChan_same (s : State) (x c : Nat) (f : Chan → Chan) : (s.updChan x c f).chan x c = f (s.chan x c) := by
  simp [State.updChan, State.chan]
theorem State.chan_updChan_ne (s : State) (x c : Nat) (f : Chan → Chan) {n : Nat} (h : n ≠ c) : (s.updChan x c f).chan x n = s.chan x n := by
  simp [State.updChan, State.chan, Tab.get_upd_ne _ _ _ _ h]
@[simp] theorem State.vreg_setVreg_same (s : State) (x r : Nat) (l : List Nat) : (s.setVreg x r l).vreg x r = l := by
  unfold State.setVreg State.vreg
  rw [State.tile_updEng_same]
  exact Tab.get_put_same _ _ _ _
theorem State.vreg_setVreg_ne (s : State) (x r : Nat) (l : List Nat) {n : Nat} (h : n ≠ r) : (s.setVreg x r l).vreg x n = s.vreg x n := by
  unfold State.setVreg State.vreg
  rw [State.tile_updEng_same]
  exact Tab.get_put_ne _ _ _ _ h
@[simp] theorem State.part_updPart_same (s : State) (x k : Nat) (f : Part → Part) : (s.updPart x k f).part x k = f (s.part x k) := by
  simp [State.part]
theorem State.part_updPart_ne (s : State) (x k : Nat) (f : Part → Part) {n : Nat} (h : n ≠ k) : (s.updPart x k f).part x n = s.part x n := by
  simp [State.part, Tab.get_upd_ne _ _ _ _ h]

end Sys2Proof.Machine
end

