-- ==== Sys2Proof/Tests/Slice0.lean ====
section
/-! SUPPORT. Tests of the model: ill-formed commands that the check refuses, examples from the spec, and for each statement with hypotheses
states and operands that meet them. -/

set_option Elab.async false

namespace Sys2Proof.Tests
open Machine

/-! ### Well-formed commands -/

/-- A boot that finds nothing amiss. -/
def goodBoot : Boot :=
  ⟨100, some ⟨1, 0, 0, 1, 0⟩, none, true, true, true, [], [], [], [], [], [], [], [], [], [], [], none, List.replicate 8 0x1FFF, [], [], []⟩

/-- A pairing record of one tile. -/
def goodPair : PairRec := ⟨1, [0], [⟨0, 0, true, []⟩], 15, 2, 0, 0⟩

/-- The bytes of a mirror record without data. -/
def bareRecord : Bytes := List.replicate 32 0

theorem test_wf_errors : WellFormed (.arrayLoad 0 0 [⟨0, .die⟩]) = true ∧ WellFormed (.storeToRegister 0 0 [⟨2 ^ 34 + 0x1800000, .die⟩]) = false ∧
    WellFormed (.exchangeChunkMove 0 0 0 [⟨2 ^ 35, .die⟩]) = false ∧ WellFormed (.arrayLoad 0 0 [⟨2 ^ 35, .die⟩]) = false ∧
    WellFormed (.arrayPassLoad 0 0 [⟨2 ^ 35, .die⟩]) = false ∧ WellFormed (.arrayOutput 0 0 0 0 0 0 [⟨2 ^ 35, .die⟩]) = false ∧
    WellFormed (.mvChunkRead 0 0 [⟨2 ^ 35, .die⟩]) = false ∧ WellFormed (.mvGroupOutput 0 0 [⟨2 ^ 35, .die⟩]) = false ∧
    WellFormed (.attendBudgetCheck 0 0 [⟨2 ^ 35, .die⟩]) = false ∧ WellFormed (.inboundAccess 0 0 0 [⟨2 ^ 35, .die⟩]) = false ∧
    WellFormed (.openCycleServe 0 0 [⟨2 ^ 35, .die⟩]) = false ∧ WellFormed (.sliceSlotChunk 0 0 [⟨2 ^ 35, .die⟩]) = false ∧
    WellFormed (.bkuLd 0 0 0 .none [⟨2 ^ 35, .die⟩]) = false := by decide +kernel

theorem test_wf_operands : WellFormed (.registerWrite 0 .control (2 ^ 24) false 0) = false ∧
    WellFormed (.registerWrite 0 .control 2 false 0) = false ∧ WellFormed (.registerWrite 0 .control 4 true 0) = false ∧
    WellFormed (.registerWrite 0 .control 0 false (BitVec.ofNat 64 (2 ^ 32))) = false ∧
    WellFormed (.registerWrite 0 .control 0 true (BitVec.ofNat 64 (2 ^ 32))) = true ∧
    WellFormed (.arrayOutput 0 0 0 (2 ^ 16) 0 0 []) = false ∧ WellFormed (.arrayOutput 0 0 0 0 (2 ^ 16) 0 []) = false ∧
    WellFormed (.arrayOutput 0 0 0 0 0 512 []) = false ∧ WellFormed (.arrayPassFault 0 0 0 512 true) = false ∧
    WellFormed (.latchedWorkStart 0 0 7) = false ∧ WellFormed (.unscheduledRequest 0 0 ⟨.mirror, .read, 2 ^ 40, 512, [], 0, true, false, 0⟩) = false ∧
    WellFormed (.unscheduledRequest 0 0 ⟨.mirror, .read, 0, 513, [], 0, true, false, 0⟩) = false ∧
    WellFormed (.unscheduledRequest 0 0 ⟨.mirror, .write, 0, 512, List.replicate 521 0, 0, true, false, 0⟩) = false ∧
    WellFormed (.frameBoundary 0 ⟨0, [0]⟩) = false ∧ WellFormed (.cellReceive 0 0 0 ⟨0, true, true, 0, 0, false, 0, [0]⟩) = false ∧
    WellFormed (.cellNak 0 0 [64]) = false ∧ WellFormed (.bridgeRetrainDone 0 0 ⟨[32], []⟩) = false ∧
    WellFormed (.bridgeRetrainDone 0 0 ⟨[], [32]⟩) = false := by decide +kernel

theorem test_wf_host : WellFormed (.submissionFetch 0 (.data [0])) = false ∧ WellFormed (.submissionFetch 0 (.fault 64 (List.replicate 64 0))) = false ∧
    WellFormed (.submissionFetch 0 (.fault 2 [0])) = false ∧ WellFormed (.windowRead 0 0 0) = false ∧
    WellFormed (.windowRead 0 (BitVec.ofNat 36 (2 ^ 36 - 1)) 2) = false ∧ WellFormed (.windowWrite 0 0 []) = false ∧
    WellFormed (.windowWrite 0 (BitVec.ofNat 36 (2 ^ 36 - 1)) [0, 0]) = false ∧ WellFormed (.loadKey 0 (2 ^ 32) (.data [])) = false ∧
    WellFormed (.loadKey 0 1 (.data [0, 0])) = false ∧ WellFormed (.quoUnseal 0 (2 ^ 32)) = false ∧
    WellFormed (.enrol 0 1 (.fault 2 [0, 0])) = false ∧ WellFormed (.quoRelease 0 1 (.data [0, 0]) goodBoot) = false ∧
    WellFormed (.debugOpen 0 1 (.fault 1 [])) = false ∧ WellFormed (.quoExtend 0 1 0 (.data [0, 0])) = false ∧
    WellFormed (.fwStage 0 (2 ^ 32) (.data [])) = false ∧ WellFormed (.microcodeChunk 0 0 0 [0]) = false ∧
    WellFormed (.scbDataRead 0 1 8) = false ∧ WellFormed (.scbDataRead 0 8 1) = false := by decide +kernel

theorem test_wf_start_up : WellFormed (.powerGood 0 goodBoot) = true ∧ WellFormed (.powerGood 0 { goodBoot with badDies := [8] }) = false ∧
    WellFormed (.moduleReset 0 0 { goodBoot with steppings := List.replicate 9 (0, 0, 0) }) = false ∧
    WellFormed (.coldStart 0 { goodBoot with logic := [104] }) = false ∧ WellFormed (.watchdogExpiry 0 { goodBoot with retrained := [104] }) = false ∧
    WellFormed (.perstAssert 0 { goodBoot with slices := [104] }) = false ∧ WellFormed (.resetEffecter 0 { goodBoot with absent := [104] }) = false ∧
    WellFormed (.powerGood 0 { goodBoot with units := [(104, 0)] }) = false ∧ WellFormed (.powerGood 0 { goodBoot with units2 := [(0, 64)] }) = false ∧
    WellFormed (.powerGood 0 { goodBoot with ports := [(16, ⟨true, 15, true, true, 0, 0, true⟩)] }) = false ∧
    WellFormed (.powerGood 0 { goodBoot with bridges := List.replicate 11 ⟨⟨[], []⟩, .main, .main⟩ }) = false ∧
    WellFormed (.powerGood 0 { goodBoot with bridges := [⟨⟨[32], []⟩, .main, .main⟩] }) = false ∧
    WellFormed (.powerGood 0 { goodBoot with ship := [] }) = false ∧
    WellFormed (.powerGood 0 { goodBoot with ship := List.replicate 8 (2 ^ 13) }) = false := by decide +kernel

theorem test_wf_measurements : WellFormed (.powerStateChangeDone 0 [6656]) = false ∧ WellFormed (.thermalModelUpdate 0 ⟨[], List.replicate 8 0⟩) = false ∧
    WellFormed (.thermalModelUpdate 0 ⟨List.replicate 8 0, []⟩) = false ∧ WellFormed (.rthWindow 0 []) = false ∧
    WellFormed (.ledgerUpdate 0 [] [] 0) = false ∧ WellFormed (.commissionDone 0 (some [0])) = false ∧
    WellFormed (.pairingRecord 0 goodPair) = true ∧ WellFormed (.pairingRecord 0 { goodPair with units := 17 }) = false ∧
    WellFormed (.pairingRecord 0 { goodPair with tiles := [128] }) = false ∧
    WellFormed (.pairingRecord 0 { goodPair with heads := [⟨0, 4, true, []⟩] }) = false ∧
    WellFormed (.pairingRecord 0 { goodPair with heads := [⟨128, 0, true, []⟩] }) = false ∧
    WellFormed (.pairingRecord 0 { goodPair with modules := 513 }) = false ∧ WellFormed (.pairingRecord 0 { goodPair with index := 512 }) = false := by
  decide +kernel

theorem test_wf_records : WellFormed (.mirrorEnd 0 0 bareRecord) = true ∧ WellFormed (.mirrorEnd 0 0 (List.replicate 4097 0)) = false ∧
    WellFormed (.mirrorHeartbeat 0 0 []) = false ∧ WellFormed (.mirrorPage 0 0 []) = false ∧ WellFormed (.mirrorPte 0 0 []) = false ∧
    WellFormed (.mirrorLte 0 0 []) = false ∧ WellFormed (.mirrorContext 0 0 []) = false ∧ WellFormed (.mirrorCarry 0 0 []) = false ∧
    WellFormed (.mirrorVoid 0 0 []) = false ∧ WellFormed (.mirrorHandover 0 0 []) = false := by decide +kernel

/-! ### States for the witnesses -/

/-- Register fields set, each given with its copy and value. -/
def regs (l : List (Fld × Nat × Nat)) (s : State) : State := l.foldl (fun z e => z.wr e.1 e.2.1 e.2.2) s
/-- The engine of a tile changed. -/
def onEngine (x : Nat) (f : Engine → Engine) (s : State) : State := s.updTile x (fun t => { t with eng := f t.eng })
/-- A slot of a kind in hand on tile 0, issued at cycle 0 by thread 1. -/
def inHand (kind word : Nat) (s : State) : State := onEngine 0 (fun e => { e with slots := [⟨kind, 1, 0, 0, word⟩] }) s
/-- Bytes placed in a tile store. -/
def inStore (x a : Nat) (b : Bytes) (s : State) : State := { s with ts := cellsWrite s.ts (x * 2 ^ 25 + a) b }
/-- A number with fields, each given as its lowest bit and value. -/
def bitsOf (l : List (Nat × Nat)) : Nat := l.foldl (fun n e => n + e.2 <<< e.1) 0
/-- A record of n bytes with fields, each given as its offset and value. -/
def bytesOf (n : Nat) (l : List (Nat × Nat)) : Bytes := leBytes n (bitsOf (l.map (fun e => (8 * e.1, e.2))))

/-- A tile store without poison reads well everywhere. -/
theorem good_rows (s : State) (x a n : Nat) (h : (s.tile x).eng.poison = []) : goodRows s x a n := by
  intro r _ _; simp [State.poisoned, h, Tab.get, Tab.find]

/-- Slices without errors read well everywhere. -/
theorem good_lines (s : State) (x off n : Nat) (h : s.badLines = [] ∧ s.latent = []) : goodLines s x off n := by
  intro l _ _; simp [h.1, h.2, Tab.get, Tab.find]

/-! ### Threads and plays -/

/-- Tile 0 configured with four threads, thread 1 running, thread 2 with a trap to record. -/
def threads : State :=
  onEngine 0 (fun e => { e with threads := Tab.put Thread.idle [] 2 { Thread.idle with trap := some ⟨0x21, 7, false, false, 3, 0, 5⟩ } })
    (regs [(F.SEQ_CTL_CONFIGURED, 0, 1), (F.SEQ_CTL_PARTITION, 0, 2), (F.SEQ_THREAD_CTL_RUNNING, 0, 2)] State.reset)

theorem witness_threadStart : let u := threads.tick 9
    u.memOnly 0 = false ∧ u.rd F.SEQ_CTL_CONFIGURED 0 = 1 ∧ u.marginTile 0 = false ∧
    (3 < u.threadCount 0 ∧ (0b1001#4).toNat.testBit 3 = true ∧ u.started 0 3 = false ∧ u.trapNow 0 3 = false) ∧
    (0b1001#4).toNat.testBit 1 = false := by decide +kernel

theorem witness_trapRecord : ((threads.tick 9).thread 0 2).trap = some ⟨0x21, 7, false, false, 3, 0, 5⟩ := by decide +kernel

/-- Thread 0 of tile 0 at the play at address 0x40, a vector ADD and an empty store slot's neighbours, as the last play of the image. -/
def atPlay (p : Nat) : State :=
  inStore 0 0x40 (leBytes 64 p) (onEngine 0 (fun e => { e with threads := Tab.put Thread.idle [] 0 { Thread.idle with pos := 1 } })
    (regs [(F.SEQ_CTL_CONFIGURED, 0, 1), (F.SEQ_THREAD_CTL_RUNNING, 0, 1)] State.reset))

/-- A play of thread 0 with a vector ADD of FP32, R1 + R2 to R3. -/
def addPlay : Nat := bitsOf [(2, 1), (10, 1), (192, 1), (200, 3), (206, 1), (212, 2)]

theorem witness_playIssues : let u := (atPlay addPlay).tick 4
    u.isTurn 0 0 = true ∧ u.rd F.SEQ_PLAY_BASE_BASE 0 + 64 * (u.thread 0 0).pos + 64 ≤ 0x1800000 ∧ u.poisoned 0 1 = false ∧
    u.tsNat 0 0x40 64 = addPlay ∧ u.playDue 0 0 addPlay ≤ u.sclk ∧ u.playChecks 0 0 1 addPlay (u.free.1 % 65536) = [] ∧
    plHas addPlay 2 = true ∧ u.latchOf 0 0 2 (plSlot addPlay 2) = none := by decide +kernel

/-- A play with an array LOAD, issued while the partition's load is past its published end and not done. -/
def loadPlay : Nat := bitsOf [(8, 1), (64, 1), (64 + 24, 2)]

/-- The state of that play. -/
def lateLoad : State :=
  (atPlay loadPlay).updTile 0 (fun t => { t with parts := Tab.put Part.idle [] 0 { Part.idle with load := some ⟨0, Wts.none, false, false⟩ } })

theorem witness_playLatches : let d := bytesOf 64 [(1, 0x11), (2, 0x11)]
    let u := (inStore 0 128 d (lateLoad.updTile 0 (fun t => t))).tick 200
    u.isTurn 0 0 = true ∧ u.tsNat 0 0x40 64 = loadPlay ∧ u.playChecks 0 0 1 loadPlay (u.free.1 % 65536) = [] ∧
    u.latchOf 0 0 0 (plSlot loadPlay 0) = some 0 := by decide +kernel

/-! ### Vector, store and exchange slots -/

/-- Each vector operation's slot in hand, in the FP32 form. -/
theorem witness_vectorOperations : ∀ e ∈ [0x01, 0x02, 0x03, 0x04, 0x05, 0x06, 0x07, 0x09, 0x10, 0x11, 0x12, 0x13, 0x14, 0x18],
    ((inHand 2 e State.reset).tile 0).eng.slots.find? (fun l => l.kind == 2 && vOp l.word == e) = some ⟨2, 1, 0, 0, e⟩ := by decide +kernel

/-- CVT of R0 from FP32 to FP16 into R1. -/
def cvtWord : Nat := bitsOf [(0, 8), (8, 1), (32, 0x02)]

theorem witness_vectorConversions : ((inHand 2 cvtWord State.reset).tile 0).eng.slots.find? (fun l => l.kind == 2 && vOp l.word == 0x08) =
      some ⟨2, 1, 0, 0, cvtWord⟩ ∧ cvtSrc (vForm cvtWord) (vImm cvtWord) = some .fp32 ∧ fmtOfCode (bitsAt (vImm cvtWord) 0 8) = some .fp16 ∧
    (cvt .fp32 .fp16 false (fun _ => .rne) 0 (regStream []) 0).ovf = none := by decide +kernel

/-- A vector result and a store move of each direction on their way, due at cycle 8. -/
def moving : State :=
  onEngine 0 (fun e => { e with vec := [⟨3, 8, [1]⟩], stores := [⟨false, 5, 0x1800000 - 2048, 0, 8, List.replicate 512 7⟩] }) State.reset

theorem witness_registerResults : let u := moving.tick 8
    (moving.tile 0).eng.vec.find? (fun p => decide (p.due ≤ u.gclk)) = some ⟨3, 8, [1]⟩ ∧
    (moving.tile 0).eng.stores.find? (fun p => decide (p.due ≤ u.gclk)) = some ⟨false, 5, 0x1800000 - 2048, 0, 8, List.replicate 512 7⟩ ∧
    u.gclk - 8 ≤ u.slack ∧ (∀ j < 32, u.poisoned 0 ((0x1800000 - 2048) / 64 + j) = false) ∧ (0x1800000 - 2048) % 64 = 0 := by decide +kernel

theorem witness_storeMoves : let w := bitsOf [(2, 5), (8, 0x1800000 - 2048)]
    ((inHand 3 w State.reset).tile 0).eng.slots.find? (fun l => l.kind == 3 && !l.word.testBit 0) = some ⟨3, 1, 0, 0, w⟩ ∧
    (∀ e ∈ [(⟨0, .die⟩ : MemErr)], inRows (stAddr w) 2048 e = false) ∧
    (∀ j < 33, ((inHand 3 w State.reset).tick 0).poisoned 0 (stAddr w / 64 + j) = false) ∧
    ((inHand 3 (w + 1) State.reset).tile 0).eng.slots.find? (fun l => l.kind == 3 && l.word.testBit 0) = some ⟨3, 1, 0, 0, w + 1⟩ ∧
    ((onEngine 0 (fun e => { e with copying := [(63, 9)], zeroing := true }) State.reset).tile 0).eng.copying.find? (fun c => c.1 == 63) =
      some (63, 9) := by decide +kernel

/-- An exchange descriptor of one row of n bytes within the tile, from 0 to the last 512 bytes. -/
def xchDesc (n : Nat) : Nat := bitsOf [(64, 0x1800000 - 512), (128, n), (160, 1)]
/-- A channel of tile 0 that has started a descriptor. -/
def onChannel (c : Chan) : State := onEngine 0 (fun e => { e with chans := [(15, c)] }) State.reset

theorem witness_exchangeStart : let w := bitsOf [(0, 15), (8, 2)]
    let s := inStore 0 64 (leBytes 32 (xchDesc 512)) (inHand 5 w State.reset)
    (s.tile 0).eng.slots.find? (fun l => l.kind == 5) = some ⟨5, 1, 0, 0, w⟩ ∧ (s.tick 0).tsNat 0 64 32 = xchDesc 512 ∧
    xdTotal (xchDesc 512) = 1 ∧ xdMisaligned (xchDesc 512) = false ∧ xdSrcSpace (xchDesc 512) = 0 ∧ xdDstSpace (xchDesc 512) = 0 ∧
    (s.tick 0).xdViol (xchDesc 512) = none ∧ (s.tick 0).gclk - 0 ≤ (s.tick 0).slack := by decide +kernel

/-- Latencies of R252: a tile's own slice, two stops, a stop and a port, and a route over bridges 0 (main) and 1 (fall-back). -/
theorem test_routeLat : let s := { State.reset with bond := ⟨[⟨0x20, devScope, bytesOf 16 [(1, 2), (3, 2), (5, 17)], []⟩], [], none, []⟩ }
    (s.routeLat 3 3, s.routeLat 3 104, s.routeLat 3 112, s.routeLat 3 30) = (8, 40, 20, 60 + 24 + 160) := by decide +kernel

theorem witness_exchangeChunk : let u := (onChannel ⟨xchDesc 512, 1, 0, 0, 0, true, none⟩).tick 23
    (u.chan 0 15).started = true ∧ 0 < xdTotal (xchDesc 512) ∧ u.chunkDue 0 15 0 ≤ u.gclk ∧ u.gclk - chunkCycle 0 15 0 ≤ u.slack ∧
    u.frozen = false ∧ (u.chan 0 15).halt = none ∧ xdSrcSpace (xchDesc 512) = 0 ∧ xdDstSpace (xchDesc 512) = 0 ∧ xdAdd (xchDesc 512) = 0 ∧
    (u.tile 0).eng.poison = [] ∧ xdDstAt (xchDesc 512) 0 + xdSize (xchDesc 512) 0 = 0x1800000 := by decide +kernel

theorem witness_exchangeHalt : let s := onChannel ⟨xchDesc 1024, 1, 0, 0, 0, true, some 0xE0⟩
    (s.chan 0 15).halt = some 0xE0 ∧ (s.chan 0 15).started = true ∧ (s.chan 0 15).next % xdPerRow (s.chan 0 15).desc = 0 ∧
    (s.chan 0 15).served = (s.chan 0 15).next := by decide +kernel

/-- The polynomial of PLG-128 takes the two states with one bit in a word to 0, and a skip by the jumps is that many steps (R227, R230). -/
theorem test_plg_poly : plgApply plgPoly 129 0 ⟨1, 0⟩ ⟨0, 0⟩ = ⟨0, 0⟩ ∧ plgApply plgPoly 129 0 ⟨0, 1⟩ ⟨0, 0⟩ = ⟨0, 0⟩ ∧
    plgSkip ⟨3, 5⟩ 1000 = plgSteps 1000 ⟨3, 5⟩ := by decide +kernel

/-! ### The array, the MV path and attention -/

/-- A pass descriptor of r rows, k and n INT8 values with FP32 outputs at 0x2000, its inputs at 0x1000 and its weights at 0x3000. -/
def passDesc (r k n : Nat) : Nat :=
  bitsOf [(8, 0x11), (16, 0x11), (24, 0x01), (48, r), (64, k), (80, n), (96, 128), (128, 0x3000), (192, 0x1000), (224, 128), (256, 0x2000), (288, 512)]

theorem witness_arrayPass : ∀ e ∈ [(bitsOf [(0, 2), (4, 1), (8, 1)], 1), (bitsOf [(0, 2), (8, 1)], 0)],
    let s := inStore 0 64 (leBytes 64 (passDesc e.2 32 1)) (inHand 0 e.1 State.reset)
    (s.tile 0).eng.slots.find? (fun l => l.kind == 0 && asCmd l.word == 2) = some ⟨0, 1, 0, 0, e.1⟩ ∧
    pdRows ((s.tick 0).arrDesc 0 (asDesc e.1)) = e.2 := by decide +kernel

/-- A tile store with a pass descriptor of one INT8 weight column as descriptor 1 and a slot in hand. -/
def arrayState (w : Nat) : State := inStore 0 64 (leBytes 64 (passDesc 1 32 1)) (inHand 0 w State.reset)

theorem witness_arrayLoads : let w1 := bitsOf [(0, 1), (24, 1)]
    let w3 := bitsOf [(0, 3), (4, 1), (8, 1), (24, 1)]
    let d := ((arrayState w1).tick 0).arrDesc 0 1
    (pdK d ≠ 0 ∧ pdN d ≠ 0 ∧ pdSlice d = false ∧ fmtIsMx (fmtD (pdW d)) = false) ∧
    ((arrayState w1).tile 0).eng.slots.find? (fun l => l.kind == 0 && asCmd l.word == 1) = some ⟨0, 1, 0, 0, w1⟩ ∧
    ((arrayState w3).tile 0).eng.slots.find? (fun l => l.kind == 0 && asCmd l.word == 3) = some ⟨0, 1, 0, 0, w3⟩ := by decide +kernel

/-- What a load of that descriptor reads is readable. -/
theorem witness_loadReadable (w : Nat) : loadReadable ((arrayState w).tick 0) 0 (passDesc 1 32 1) := by
  intro n _
  have h : pdSlice (passDesc 1 32 1) = false := by decide +kernel
  refine ⟨?_, fun _ => good_rows _ _ _ _ ?_⟩
  · simp only [h]; exact good_rows _ _ _ _ (by simp [arrayState, inStore, inHand, onEngine, State.updTile, State.tick, State.tile, Tab.get, Tab.upd,
      Tab.put, Tab.find, Tab.drop, Tab.ins, State.reset, Tile.idle, Engine.idle])
  · simp [arrayState, inStore, inHand, onEngine, State.updTile, State.tick, State.tile, Tab.get, Tab.upd, Tab.put, Tab.find, Tab.drop, Tab.ins,
      State.reset, Tile.idle, Engine.idle]

/-- A pass of one row and two columns in flight on thread 3, and a load that ends. -/
def passing : State :=
  State.reset.updTile 0 (fun t => { t with parts := [(3, { Part.idle with
    passes := [⟨0, passDesc 1 32 2, 1, ⟨1, 1, 0x11, 32, 2, [5, 6], []⟩, [1]⟩], load := some ⟨0, Wts.none, true, false⟩ })] })

theorem witness_arrayOutput : let u := passing.tick 137
    let p : Pass := ⟨0, passDesc 1 32 2, 1, ⟨1, 1, 0x11, 32, 2, [5, 6], []⟩, [1]⟩
    ((u.part 0 3).passes[0]? = some p ∧ 0 < pdRows p.desc ∧ 0 < pdN p.desc ∧ p.done.contains 0 = false ∧
      p.origin + rowCycle (pdClass p.desc) 0 + 0 + 137 ≤ u.gclk ∧ u.gclk - 137 ≤ u.slack ∧ pdAccum p.desc = false ∧
      fmtIsMx (fmtD (pdIn p.desc)) = false ∧ (u.arrayOut 0 p 0 0).acc.map LsAcc.overflows = some false) ∧
    ((u.part 0 3).load = some ⟨0, Wts.none, true, false⟩ ∧ 128 ≤ (passing.tick 128).gclk ∧ (passing.tick 128).gclk = 0 + 128) ∧
    (u.tile 0).eng.poison = [] := by decide +kernel

theorem witness_arrayFaults : (passing.tick 9).partBusy 0 3 = true ∧ Untrapped (passing.tick 9) 0 3 ∧ (passing.tick 9).partBusy 0 0 = false ∧
    (∀ n < ((regs [(F.SEQ_THREAD_CTL_RUNNING, 0, 1)] passing).tick 9).threadCount 0,
      ((regs [(F.SEQ_THREAD_CTL_RUNNING, 0, 1)] passing).tick 9).running 0 n = true ∧
      Untrapped ((regs [(F.SEQ_THREAD_CTL_RUNNING, 0, 1)] passing).tick 9) 0 n) := by unfold Untrapped; decide +kernel

/-- An MV descriptor of one vector of k INT8 values, n outputs of FP32 at 0x2000, its weights at slice offset 0. -/
def mvDesc (k n : Nat) : Nat := bitsOf [(8, 0x11), (16, 0x11), (24, 0x01), (48, 1), (64, k), (96, n), (192, 0x1000), (288, 0x2000)]
/-- A run of it of thread 2, some chunks read. -/
def mvRun (n chunk : Nat) : MvRun := ⟨2, 1, mvDesc 32 n, 0, none, chunk, 0, List.replicate chunk 0⟩
/-- Tile 0 with that run alone. -/
def mvState (m : MvRun) : State := State.reset.updTile 0 (fun t => { t with mv := [m] })

theorem witness_mvStart : let w := bitsOf [(0, 1), (4, 1)]
    let s := inStore 0 64 (leBytes 64 (mvDesc 32 16)) (inHand 1 w State.reset)
    (s.tile 0).eng.slots.find? (fun l => l.kind == 1 && bitsAt l.word 0 4 == 1) = some ⟨1, 1, 0, 0, w⟩ ∧
    mdN ((s.tick 0).arrDesc 0 1) = 16 := by decide +kernel

theorem witness_mvChunk : let m := mvRun 16 0
    let u := (mvState m).tick 0
    ((u.tile 0).mv.find? (fun m => decide (m.chunk < mdSpan m.desc)) = some m ∧ m.origin + m.chunk ≤ u.gclk ∧
      u.gclk - (m.origin + m.chunk) ≤ u.slack ∧ u.ownHeld 0 (u.ownOff (dsc m.desc 16 8) + 512 * m.chunk) 512 = false ∧ m.held = none) ∧
    (u.badLines = [] ∧ u.latent = []) := by decide +kernel

theorem witness_mvOutput : ∀ n ∈ [16, 32], let m := mvRun n 1
    let u := (mvState m).tick 124
    (u.tile 0).mv = [m] ∧ (m.group + 1) * mvGroupChunks (mdW m.desc) (mdK m.desc / 32) ≤ m.chunk ∧ m.origin + 1 - 1 + 124 ≤ u.gclk ∧
    u.gclk - 124 ≤ u.slack ∧ mdVectors m.desc = 1 ∧ fmtD (dsc m.desc 3 1) ≠ .ls128 ∧ fmtIsMx (mdX m.desc) = false ∧ pdAccum m.desc = false ∧
    (∀ o < mvG (mdW m.desc), (u.mvSum 0 m 0 o).1.overflows = false) ∧ (u.tile 0).eng.poison = [] := by decide +kernel

theorem witness_mvFault : ((mvState (mvRun 16 1)).tile 0).mv = mvRun 16 1 :: [] ∧ Untrapped ((mvState (mvRun 16 1)).tick 9) 0 2 := by
  unfold Untrapped; decide +kernel

/-- An attention descriptor of head 3 with n entries and a budget, INT8 queries and FP32 outputs. -/
def attendDesc (n b : Nat) : Nat := bitsOf [(0, 3), (8, 0x11), (16, 0x01), (64, n), (96, b)]
/-- Tile 0 with one attention step of a descriptor. -/
def attendState (a : Attend) : State := State.reset.updTile 0 (fun t => { t with attends := [a] })

theorem witness_attend : ∀ b ∈ [0, 1], let w := bitsOf [(0, 2), (4, 1)]
    let s := inStore 0 64 (leBytes 64 (attendDesc 1 b)) (inHand 1 w State.reset)
    (s.tile 0).eng.slots.find? (fun l => l.kind == 1 && bitsAt l.word 0 4 == 2) = some ⟨1, 1, 0, 0, w⟩ ∧
    adBudget ((s.tick 0).arrDesc 0 1) = b := by decide +kernel

theorem witness_attendBudget : ∀ b ∈ [17, 18], let a : Attend := ⟨2, 1, attendDesc 1 b, 0, 18, false, false, [], []⟩
    let u := (attendState a).tick 40
    (u.tile 0).attends.find? (fun a => !a.ran) = some a ∧
    (∀ e < adEntries a.desc, ltIllegal (u.ltRaw 0 3 e) = false) ∧
    u.kvGroup 0 3 * (((List.range (adEntries a.desc)).map (fun e => ltOf (u.ltRaw 0 3 e))).map (fun e => e.new)).sum ≤ 65536 ∧
    u.attendReach 0 3 a.desc ((List.range (adEntries a.desc)).map (fun e => ltOf (u.ltRaw 0 3 e))) = false ∧
    (a.bound ≤ adBudget a.desc ∨ (adBudget a.desc < a.bound ∧ Untrapped u 0 2)) := by unfold Untrapped; decide +kernel

theorem witness_attendWriteBack : let a : Attend := ⟨2, 1, attendDesc 1 20, 0, 18, true, true, [(0x1800000 - 1, [9])], []⟩
    ((attendState a).tile 0).attends.find? (fun a => a.ran) = some a := by decide +kernel

/-- Head 3 of tile 0 with a shadow write due, and restoring from a shadow whose step words agree or not. -/
def shadowed (b : Bytes) : State :=
  { State.reset.updTile 0 (fun t => { t with shadows := [⟨3, [(64, [1])]⟩], restore := [3] }) with mem := cellsWrite [] 0 b }

theorem witness_shadow : ∀ e ∈ [(bytesOf 64 [(8, 5), (16, 5), (28, 1)], false), (bytesOf 64 [(8, 5), (16, 6)], true)],
    let u := (shadowed e.1).tick 0
    (u.tile 0).shadows.find? (fun d => d.head == 3) = some ⟨3, [(64, [1])]⟩ ∧ (u.tile 0).restore.contains 3 = true ∧ (u.tile 0).eng.zeroing = false ∧
    u.ownOff (u.rd F.KVS_SHADOW_SHADOW_BASE (hIx 0 3)) = 0 ∧ u.badRange (sliceBase 0) (64 + 16 * u.kvPool 0 3) = false ∧
    (fieldAt (u.dram 0 0 64) 8 8 != fieldAt (u.dram 0 0 64) 16 8) = e.2 := by decide +kernel

/-! ### Slices and bank units -/

/-- The slice controller of tile 12 changed. -/
def onSlice (f : Slice → Slice) (s : State) : State := s.updTile 12 (fun t => { t with slice := f t.slice })

theorem witness_sliceSlots : ∀ op ∈ [1, 2, 3, 4, 5], ∀ n ∈ [0, 255],
    ((inHand 4 (bitsOf [(0, op), (12, n)]) State.reset).tile 0).eng.slots.find? (fun l => l.kind == 4 && slOp l.word == op) =
      some ⟨4, 1, 0, 0, bitsOf [(0, op), (12, n)]⟩ ∧ slCount (bitsOf [(0, op), (12, n)]) = n := by decide +kernel

theorem witness_latchedWork : ∀ u ∈ [3, 4, 5], let s := onEngine 12 (fun e => { e with latch := [(u, ⟨0, 3, 5, 1, 1⟩)] }) State.reset
    Tab.find (s.tile 12).eng.latch u = some ⟨0, 3, 5, 1, 1⟩ ∧ (s.tick 9).unitFree 12 u = true ∧ (s.tick 9).gclk - 5 ≤ (s.tick 9).slack := by
  decide +kernel

/-- Tile 12 with a slice slot of an operation in progress at the last chunk of the slice below the mirror region's first default, and a dirty
line of it in the cache. -/
def slicing (op : Nat) (c : List (Nat × CLine)) : State :=
  onSlice (fun l => { l with slot := some ⟨3, bitsOf [(0, op), (12, 1), (36, 2 ^ 24 - 1)], 0, 0, false, none⟩, cache := c }) State.reset

theorem witness_sliceChunks : ∀ e ∈ [(1, []), (2, []), (3, [(508, (⟨2 ^ 24 - 1, true, false, 0, List.replicate 512 7⟩ : CLine))]), (4, [])],
    let w := bitsOf [(0, e.1), (12, 1), (36, 2 ^ 24 - 1)]
    let s := slicing e.1 e.2
    let u := s.tick 0
    let r : SliceRun := ⟨3, w, 0, 0, false, none⟩
    (s.tile 12).slice.slot = some r ∧ r.origin + r.next ≤ u.gclk ∧ u.gclk - r.origin ≤ u.slack ∧
    u.ownHeld 12 (slChunk w 0 * 512) 512 = false ∧ slOp w = e.1 ∧ slCached w = false ∧ (s.tile 12).eng.poison = [] ∧
    (s.badLines = [] ∧ s.latent = []) ∧
    (e.1 = 1 → (s.tile 12).slice.held (slChunk w 0) = none) ∧
    (e.1 = 3 → (s.tile 12).slice.cacheFind (slChunk w 0) = some 508 ∧ ∀ q ∈ (s.tile 12).slice.wbuf, q.chunk ≠ slChunk w 0) := by decide +kernel

/-- A write of two bytes and a read of one at the end of tile 12's slice. -/
def accesses : List Acc := [⟨.port 15 3, .write, sliceBase 12 + 2 ^ 33 - 2, 2, [1, 2], 0, false, false, 6⟩, ⟨.host 0, .read, sliceBase 12 + 2 ^ 33 - 1, 1, [], 0, true, false, 0⟩]

theorem witness_inbound : let u := (onSlice (fun l => { l with inbound := accesses }) State.reset).tick 0
    (u.tile 12).slice.inbound = accesses ∧ u.sliceShut 12 = false ∧ u.ownCycle 12 = false ∧
    (∀ a ∈ accesses, a.due = u.gclk ∧ u.ownHeld 12 (a.dpa % 2 ^ 33) a.len = false ∧ u.decodeDpa (a.src == .mirror) a.dpa = .slice 12 (a.dpa % 2 ^ 33)) ∧
    (u.tile 12).slice.held ((2 ^ 33 - 1) / 512) = none ∧ (u.badLines = [] ∧ u.latent = []) := by decide +kernel

theorem witness_inboundEarly : let a : Acc := ⟨.tile 5 3, .read, sliceBase 12, 512, [], 40, false, false, 0⟩
    let s := onSlice (fun l => { l with inbound := [a] }) State.reset
    (s.tile 12).slice.inbound[0]? = some a ∧ (s.tick 39).gclk < a.due := by decide +kernel

theorem witness_inboundWaits : let u := (onSlice (fun l => { l with inbound := accesses }) (slicing 1 [])).tick 0
    (u.tile 12).slice.inbound = accesses ∧ u.sliceShut 12 = false ∧ u.ownCycle 12 = true := by decide +kernel

theorem witness_openCycle : let s := onSlice (fun l => { l with norm := accesses.take 1 }) State.reset
    let u := s.tick 0
    u.refreshing 12 = false ∧ u.ownCycle 12 = false ∧ u.sliceShut 12 = false ∧ (s.tile 12).slice.defer = [] ∧
    (s.tile 12).slice.pickRequest (fun b => !u.unitHeld 12 (b.dpa % 2 ^ 33) b.len) = (accesses[0]?).map (fun a => (a, false)) ∧
    u.decodeDpa false (sliceBase 12 + 2 ^ 33 - 2) = .slice 12 (2 ^ 33 - 2) ∧ (u.badLines = [] ∧ u.latent = []) := by decide +kernel

theorem witness_deliver : ∀ src ∈ [Origin.own 3 0 (0x1800000 - 512), .port 15 3],
    let d : Deliver := ⟨96, ⟨src, .read, sliceBase 12, 512, [], 0, false, false, 0⟩, List.replicate 512 7, false⟩
    let s := onSlice (fun l => { l with deliver := [d] }) State.reset
    (s.tile 12).slice.deliver.find? (fun d => decide (d.due ≤ (s.tick 96).gclk)) = some d ∧ d.bad = false ∧ (s.tile 12).eng.poison = [] := by
  decide +kernel

theorem witness_scrub : ∀ e ∈ [(0, 2 ^ 27 - 1), (2 ^ 27 - 1, 1)],
    let s := regs [(F.SLC_SCRUB_RANGE_BASE_LINE, 103, e.1), (F.SLC_SCRUB_RANGE_LINES, 103, e.2)] State.reset
    (BitVec.ofNat 32 0x33).toNat.testBit 0 = true ∧ s.rd F.SLC_SCRUB_CTL_RUNNING 103 = 0 ∧
    s.rd F.SLC_SCRUB_RANGE_BASE_LINE 103 + s.rd F.SLC_SCRUB_RANGE_LINES 103 ≤ 2 ^ 27 ∧ 0 < s.rd F.SLC_SCRUB_RANGE_LINES 103 := by decide +kernel

theorem witness_maintenance : ((onSlice (fun l => { l with scrub := some ⟨5, 9, false⟩ }) State.reset).tile 12).slice.scrub = some ⟨5, 9, false⟩ ∧
    State.reset.rd F.SLC_FLIP_MASK_ARM 103 = 0 ∧ State.reset.rd F.PCH_INVAL_GO 7 = 0 ∧
    (regs [(F.PCH_INVAL_GO, 7, 1)] State.reset).rd F.PCH_INVAL_GO 7 = 1 := by decide +kernel

/-- At beat 96 tile 24, of home field 11, has a band slot of the actual band; the declared one has its slots twice as far apart or as often. -/
theorem witness_refresh : ∀ e ∈ [(0, 44, true), (1, 44 + 512, false)], ∀ owed ∈ [0, 6],
    let s : State := { regs [(F.SLC_STATUS_BAND, 24, e.1), (F.SLC_STATUS_DECL_BAND, 24, 0)]
      (State.reset.updTile 24 (fun t => { t with slice := { t.slice with owed := owed } })) with beat := { BeatState.idle with base := e.2.1 } }
    let u := s.tick 0
    let onBand (k : Nat) : Bool := ((u.beatNow : Int) - 4 * (u.homeField 24 : Nat)) % (1024 / 2 ^ k : Nat) == 0
    (s.tile 24).slice.bandDue = none ∧ onBand (u.rd F.SLC_STATUS_BAND 24) = true ∧ onBand (u.rd F.SLC_STATUS_DECL_BAND 24) = e.2.2 ∧
    s.beat.rest = false ∧ (s.tile 24).slice.owed < 7 := by decide +kernel

/-- Unit 63 of tile 0, running for thread 1 and at a word of its store at address 64. -/
def atWord (w : Nat) (b : Bku → Bku) : State :=
  State.reset.updBku 0 63 (fun c => b { c with st := .running, k := 1, begun := true, pc := 64, store := [(64, w)] })

theorem witness_unitElements : ∀ op ∈ [0x03, 0x04, 0x05, 0x06, 0x07, 0x08, 0x0A], ∀ form ∈ [0, 1, 2],
    ((atWord (bitsOf [(0, op), (9, 7), (18, form)]) (fun b => b)).tick 0).wordRun 0 63 op .none = .run (bitsOf [(0, op), (9, 7), (18, form)]) := by
  decide +kernel

theorem witness_unitControl : ∀ op ∈ [0x0B, 0x18, 0x19, 0x1A, 0x1B, 0x1C],
    ((atWord (bitsOf [(0, op), (22, 7), (32, 0x3FF)]) (fun b => { b with segLen := 0 })).tick 0).wordRun 0 63 op .none =
      .run (bitsOf [(0, op), (22, 7), (32, 0x3FF)]) := by decide +kernel

theorem witness_unitMemory : ∀ op ∈ [0x01, 0x02], let w := bitsOf [(0, op), (32, 2 ^ 20 - 1)]
    let s := atWord w (fun b => { b with area := bytesOf 128 [(40, 5), (44, 2 ^ 20 - 1)] })
    (s.tick 0).wordRun 0 63 op .none = .run w ∧ (s.tick 0).bkuBlock 0 63 w = some (2 ^ 33 - 128) ∧ (s.badLines = [] ∧ s.latent = []) := by
  decide +kernel

theorem witness_unitCvt : let w := bitsOf [(0, 0x09), (9, 4), (32, 0x1104)]
    ((atWord (bitsOf [(0, 0x09), (9, 4), (32, 0x1101)]) (fun b => b)).tick 0).wordRun 0 63 0x09 .none = .run (bitsOf [(0, 0x09), (9, 4), (32, 0x1101)]) ∧
    cvtPlan (bitsOf [(0, 0x09), (9, 4), (32, 0x1101)]) = some (.int8, .fp32, 8, 4) ∧ cvtPlan w = none := by decide +kernel

theorem witness_unitChain : (∀ op ∈ [0x10, 0x11, 0x12], let s := atWord (bitsOf [(0, op)]) (fun b => { b with chain := some 9 })
      (s.tick 0).wordRun 0 63 op .none = .run (bitsOf [(0, op)]) ∧ (s.bku 0 63).chain = some 9 ∧ (s.bku 0 (s.successor 0 63).1).chain = none) ∧
    (let s := State.reset.updTile 0 (fun t => { t with chain := [⟨63, 8, 5⟩] })
     (s.tile 0).chain.find? (fun h => h.toward == 63 && decide (h.due ≤ (s.tick 8).now)) = some ⟨63, 8, 5⟩ ∧ (s.bku 0 63).chain = none) := by decide +kernel

theorem witness_unitFault : ∀ e ∈ [(WordErr.store, 4), (.datapath, 9)],
    ((atWord (bitsOf [(0, 0x1C)]) (fun b => b)).tick 0).wordRun 0 63 0x1C e.1 = .fault e.2 ∧
    Untrapped ((atWord (bitsOf [(0, 0x1C)]) (fun b => b)).tick 0) 0 1 := by unfold Untrapped; decide +kernel

theorem witness_segments :
    (∀ abort ∈ [true, false], let s := atWord 0 (fun b => { b with boundary := true, next := 40, abort := abort })
      let b := s.bku 0 63
      b.st = .running ∧ b.begun = true ∧ b.boundary = true ∧ b.pauseEnd = 0 ∧ b.ended = false ∧ b.next ≤ (s.tick 40).now ∧ b.abort = abort ∧
      s.frozen = false) ∧
    (let s := atWord 0 (fun b => { b with boundary := true, next := 40, pauseEnd := 168 })
     (s.bku 0 63).pauseEnd ≠ 0 ∧ (s.bku 0 63).pauseEnd ≤ (s.tick 168).now ∧ (s.tick 168).heldFor 0 63 = 0) ∧
    (let s := atWord 0 (fun b => { b with boundary := true, ended := true, next := 40 })
     (s.bku 0 63).ended = true ∧ (s.bku 0 63).next + 4 ≤ (s.tick 44).now ∧ (s.bku 0 63).area.length = 128) := by decide +kernel

theorem witness_bankSlots : ∀ op ∈ [1, 2, 3, 4], let w := bitsOf [(0, op), (4, 62), (10, 1), (16, 3)]
    let s := inHand 6 w State.reset
    (s.tile 0).eng.slots.find? (fun l => l.kind == 6 && bsOp l.word == op) = some ⟨6, 1, 0, 0, w⟩ ∧ (s.tick 0).marginTile 0 = false ∧
    (∀ u ∈ spanOf (bsFirst w) (bsLast w), (s.bku 0 u).st = .idle) := by decide +kernel

theorem witness_syncTraps : let w := bitsOf [(0, 3), (4, 62), (10, 1)]
    let s := inHand 6 w (atWord 0 (fun b => b))
    (spanOf (bsFirst w) (bsLast w)).find? (fun u => (s.bku 0 u).st != .idle) = some 63 ∧ Untrapped (s.tick 0) 0 1 := by
  unfold Untrapped; decide +kernel

theorem witness_bankCommands :
    let s (go : Bool) (stage : Nat) : State := State.reset.updTile 0 (fun t => { t with cmds := [⟨go, 1, 0, 62, 63, bytesOf 128 [(0, 64), (2, 1)], stage⟩] })
    ((s true 0).tick 16).bankCmd 0 (fun c => c.go && c.stage == 0 && decide (c.origin + 16 ≤ ((s true 0).tick 16).gclk)) =
      some ⟨true, 1, 0, 62, 63, bytesOf 128 [(0, 64), (2, 1)], 0⟩ ∧
    ((s true 1).tick 24).bankCmd 0 (fun c => c.go && c.stage == 1 && decide (c.origin + 24 ≤ ((s true 1).tick 24).gclk)) =
      some ⟨true, 1, 0, 62, 63, bytesOf 128 [(0, 64), (2, 1)], 1⟩ ∧
    ((s false 0).tick 24).bankCmd 0 (fun c => !c.go && decide (c.origin + 24 ≤ ((s false 0).tick 24).gclk)) =
      some ⟨false, 1, 0, 62, 63, bytesOf 128 [(0, 64), (2, 1)], 0⟩ := by decide +kernel

theorem witness_randomSlots : (∀ op ∈ [1, 2, 3], let w := bitsOf [(0, op), (4, 3), (6, 63)]
      ((inHand 7 w State.reset).tile 0).eng.slots.find? (fun l => l.kind == 7 && rsOp l.word == op) = some ⟨7, 1, 0, 0, w⟩ ∧ rsCtx w = 3) ∧
    (let s := State.reset.updTile 0 (fun t => { t with ctxs := [(3, { Ctx.closed with busy := true, due := 32 })], draws := [⟨63, 8, [1, 2]⟩] })
     (s.ctx 0 3).busy = true ∧ (s.ctx 0 3).due ≤ (s.tick 32).gclk ∧
     (s.tile 0).draws.find? (fun p => decide (p.due ≤ (s.tick 8).gclk)) = some ⟨63, 8, [1, 2]⟩) := by decide +kernel

/-! ### Frames, beats, messages and links -/

/-- The module at a beat. -/
def atBeat (b : Nat) (f : BeatState → BeatState) (s : State) : State := { s with beat := f { s.beat with base := b } }

theorem witness_frameBoundary : ∀ frozen ∈ [none, some 0],
    let s := atBeat (5 * 4096) (fun b => { b with freezeFrom := frozen, frame := 5 })
      (regs [(F.SEQ_THREAD_CTL_START, 103, 1), (F.SEQ_THREAD_CTL_RUNNING, 102, 1)]
        (onEngine 102 (fun e => { e with threads := [(0, { Thread.idle with stopReq := true })] }) State.reset))
    let v := s.tick 0
    v.frameLen = 4096 ∧ v.now % 32 = 0 ∧ v.beatNow % v.frameLen = 0 ∧ s.beat.frame ≠ v.frameNow + 1 ∧ s.frozen = frozen.isSome ∧
    s.imgA.loaded = false ∧ s.imgB.loaded = false ∧ s.imgA.startAt = none ∧ s.imgB.startAt = none ∧ s.imgA.stopAt = none ∧
    s.imgB.stopAt = none ∧ s.imgA.resume = none ∧ s.activeSlot = 0 ∧ s.beat.pattern.2.1 = 0 ∧ s.rd F.BEAT_SLICE_PENDING 0 = 0 ∧
    v.paired = false ∧ s.twinState ≠ 8 ∧ s.rd F.BEAT_STATUS_STATE 0 ≠ 3 ∧
    (v.started 103 0 = true ∧ v.running 103 0 = false ∧ (s.thread 103 0).stopReq = false) ∧ (v.running 102 0 = true ∧ (s.thread 102 0).stopReq = true) := by decide +kernel

/-- An epoch word with a check that holds. -/
def goodEpoch (b0 : Nat) : BitVec 96 :=
  BitVec.ofNat 96 (bitsOf [(80, 0x7FFE), (16, b0), (0, crcBits 0x1021 (bitsOf [(64, 0x7FFE), (0, b0)]) 80 0xFFFF)])

theorem witness_epochs : let s (st : Nat) : State := { atBeat (65536 + 95) (fun b => { b with epochPrev := some 0 })
      (regs [(F.BEAT_STATUS_STATE, 0, st)] State.reset) with life := { Life.off with powered := true } }
    (s 1).rd F.BEAT_CFG_SRC 0 ≠ 1 ∧ (s 1).life.powered = true ∧ (s 1).rd F.BEAT_STATUS_STATE 0 = 1 ∧ (s 1).beat.via = none ∧
    epochValue (goodEpoch 65536) = some 65536 ∧ ((s 1).tick 0).baseFor (65536 + 95) = (s 1).beat.base ∧
    epochValue (goodEpoch 65537) = none ∧ (s 0).rd F.BEAT_STATUS_STATE 0 = 0 ∧ (s 0).beat.epochPrev = some (65536 - 65536) := by decide +kernel

theorem witness_holdover : let s (st : Nat) : State := atBeat 131072 (fun b => { b with holdFrom := 0 }) (regs [(F.BEAT_STATUS_STATE, 0, st)] State.reset)
    (s 1).rd F.BEAT_STATUS_STATE 0 = 1 ∧ (s 2).rd F.BEAT_STATUS_STATE 0 = 2 ∧ (s 2).beat.holdFrom + 131072 ≤ ((s 2).tick 0).beatNow := by decide +kernel

theorem witness_beatMark : let s := atBeat 75 (fun b => { b with via := some 15 }) (regs [(F.BEAT_STATUS_STATE, 0, 1), (F.LNK_STATUS_STATE, 15, 1)] State.reset)
    let v := s.tick 0
    v.markPort = some 15 ∧ v.portUp 15 = true ∧ s.rd F.BEAT_STATUS_STATE 0 = 1 ∧ (193#8).toNat / 128 % 2 = 1 ∧ (194#8).toNat / 128 % 2 = 1 ∧
    ((193#8).toNat % 64 + (10 + 4 * v.portClass 15)) % 64 = v.beatNow % 64 ∧
    ((194#8).toNat % 64 + (10 + 4 * v.portClass 15)) % 64 ≠ v.beatNow % 64 := by decide +kernel

theorem witness_messages : let s := atBeat 100 (fun b => b) State.reset
    let v := s.tick 0
    let value : BitVec 15 := 16384
    (∀ ty ∈ [0, 1, 2, 3], s.beat.seen.contains ⟨ty, 511, nearValue v.frameNow value.toNat⟩ = false) ∧
    v.frameNow < nearValue v.frameNow value.toNat ∧ v.beatNow < nearValue v.beatNow value.toNat ∧ s.beat.holders = [] ∧ s.beat.resumes = [] ∧
    s.beat.clampers = [] ∧ s.beat.resumeBeat = none ∧ s.beat.freezeBeat = none ∧ s.frozen = false := by decide +kernel

theorem witness_unclamp : let s := atBeat 100 (fun b => { b with clampers := [511], freezeFrom := some 0, lastFreeze := 50 }) State.reset
    let v := s.tick 0
    s.beat.seen.contains ⟨4, 511, nearValue v.beatNow 90⟩ = false ∧ s.beat.clampers = [511] ∧ s.frozen = true ∧
    v.beatNow < v.resumeOf s.beat.lastFreeze (nearValue v.beatNow 90) := by decide +kernel

theorem witness_ownMessages : State.reset.ownHold = false ∧ (atBeat 0 (fun b => { b with holders := [(0, 3)] }) State.reset).ownHold = true ∧
    State.reset.beat.clampers.contains State.reset.selfIndex = false ∧
    (atBeat 0 (fun b => { b with clampers := [0] }) State.reset).beat.clampers.contains State.reset.selfIndex = true := by decide +kernel

theorem witness_freezes :
    (let s : State := { atBeat 100 (fun b => { b with freezeBeat := some 100 }) State.reset with power := { Power.idle with own := true } }
     s.beat.freezeBeat = some 100 ∧ 100 ≤ (s.tick 0).beatNow ∧ s.frozen = false ∧ s.power.own = true) ∧
    (let s := atBeat 100 (fun b => { b with resumeBeat := some 100, freezeFrom := some 0 }) State.reset
     s.beat.resumeBeat = some 100 ∧ 100 ≤ (s.tick 0).beatNow ∧ s.beat.freezeFrom = some 0 ∧ s.power.localFrom = none ∧ s.life.pendingResets = []) ∧
    (let s := atBeat 256 (fun b => b) (regs [(F.BEAT_RAMP_ENABLE, 0, 1), (F.BEAT_RAMP_PERIOD_LOG2, 0, 8), (F.BEAT_RAMP_STEP, 0, 10)] State.reset)
     s.rd F.BEAT_RAMP_ENABLE 0 = 1 ∧ (s.tick 0).beatNow % 2 ^ s.rd F.BEAT_RAMP_PERIOD_LOG2 0 = 0 ∧ (s.tick 0).now % 32 = 0 ∧
     s.rd F.THM_STATUS_CLAMPED 0 ≠ 1) := by decide +kernel

/-- Port 15 in service on four lanes, changed, with an outbound map entry for a slot of a frame, tile 5 as logical tile 5, and module 2 reached
through it. -/
def linked (ix entry : Nat) (f : PortState → PortState) (r : List RemoteChunk) : State :=
  { (regs [(F.LNK_STATUS_STATE, 15, 1), (F.LNK_MAP_ENTRY, 15 * 192 + ix % 48, entry)]
      (State.reset.updTile 5 (fun t => { t with facts := { t.facts with logical := 5 } }))) with
    ports := [(15, f PortState.idle)], remote := r, bond := ⟨[⟨0x22, devScope, bytesOf 8 [(0, 2), (2, 15)], []⟩], [], none, []⟩ }

/-- The map entry of channel 3 of logical tile 5 for a use. -/
def entryOf (use : Nat) : Nat := use + 4 * 5 + 512 * 3
/-- A chunk of that channel for module 2. -/
def remoteChunk (kind : Nat) (first : Bool) : RemoteChunk := ⟨5, 3, 1, kind, 0, false, 2, 64, 256, List.replicate 256 7, 0, first, List.replicate 32 0, 0, 0⟩

theorem witness_cellSlots : ∀ e ∈ [(15, 0, 15), (16, 0, 0), (16, 1, 0), (16, 2, 0), (16, 3, 0), (12287, 0, 15)],
    let s := linked e.1 (entryOf e.2.1) (fun p => p) []
    let v := s.tick (slotStart 4096 true e.1)
    v.portUp 15 = true ∧ v.frozen = false ∧ v.frameLen = 4096 ∧ v.portX4 15 = true ∧ slotAt v.frameLen true v.lclk = some e.1 ∧
    (s.port 15).next ≤ e.1 ∧ slotIndex v.frameLen true e.1 % 16 = e.2.2 ∧ v.marginPort 15 = false ∧
    (e.1 ≠ 16 ∨ (mapUse (v.mapEntry 15 0 e.1) = e.2.1 ∧ v.entryTile (v.mapEntry 15 0 e.1) = some 5 ∧ mapChan (v.mapEntry 15 0 e.1) = 3)) ∧
    (s.port 15).naks = [] ∧ (s.port 15).owed = [] ∧ (s.port 15).mirror = [] ∧ (s.port 15).unsched = [] := by decide +kernel

theorem witness_resend : let c : SentCell := ⟨16, true, 0x11, List.replicate 256 7⟩
    let s := linked 16 0 (fun p => { p with naks := [16], sent := [c] }) []
    (s.tick 0).letOf 15 16 = 95 ∧ slotIndex 4096 true 95 % 16 = 15 ∧ slotAt 4096 true (slotStart 4096 true 95) = some 95 ∧
    (s.port 15).resent = [] ∧ (s.port 15).sent.find? (fun g => g.slot == 16) = some c := by decide +kernel

theorem witness_receiptSlot : ((linked 16 0 (fun p => { p with owed := [(4, some 0x12)] }) []).port 15).owed = (4, some 0x12) :: [] := by decide +kernel

theorem witness_channelSlots : ∀ r ∈ [remoteChunk 0 true, remoteChunk 0 false, remoteChunk 1 false, remoteChunk 2 true],
    let use := if r.kind = 2 then 2 else 1
    let s := linked 16 (entryOf use) (fun p => p) [r]
    let v := s.tick (slotStart 4096 true 16)
    v.modulePort 2 = some 15 ∧
    s.remote.find? (fun g => g.x == 5 && g.c == 3 && (if r.kind = 2 then g.kind == 2 else decide (g.kind < 2)) && v.modulePort g.module == some 15 && g.atPort v.gclk) = some r ∧
    r.data.length ≤ 256 ∧ r.len ≤ 256 ∧ (s.port 15).queue.length < 256 := by decide +kernel

theorem witness_replySlot : ((linked 16 (entryOf 3) (fun p => { p with replies := [⟨16, 0, [7]⟩] }) []).port 15).replies.find? (fun g => g.slot == 16) =
    some ⟨16, 0, [7]⟩ := by decide +kernel

/-- A cell of 256 bytes that begins with a stream header of one row of 512 bytes. -/
def cellOf (kind : Fin 4) (crc : Bool) : Cell := ⟨0, crc, true, kind, 0, false, 0, bytesOf 256 [(8, 512), (12, 1)]⟩

theorem witness_cellReceive : let v := (linked 16 0 (fun p => p) []).tick 0
    v.portUp 15 = true ∧ (cellOf 1 true).kind ≠ 2 ∧ (cellOf 1 true).fec = 0 ∧ (cellOf 1 true).crc = true ∧ (cellOf 1 false).crc = false ∧
    mapUse (v.mapEntry 15 1 16) ≠ 2 ∧ (v.port 15).held = [] := by decide +kernel

/-- An inbound map entry of a use, and a cell of slot 16 held until its release. -/
def heldCell (use : Nat) (h : HeldCell) : State := regs [(F.LNK_MAP_ENTRY, 15 * 192 + 48 + 16, entryOf use)] (linked 16 0 (fun p => { p with held := [h] }) [])

theorem witness_cellRelease : ∀ e ∈ [(1, false, 1), (0, true, 0), (1, true, 1)],
    let h : HeldCell := ⟨16, e.2.1, true, e.2.2, false, 0, bytesOf 256 [(8, 512), (12, 1)]⟩
    let v := (heldCell e.1 h).tick 4000
    v.frozen = false ∧ v.answers = [] ∧ v.dueCell 15 = some h ∧ slotIndex v.frameLen (v.portX4 15) 16 % 16 ≠ 15 ∧ v.marginPort 15 = false ∧
    mapUse (v.mapEntry 15 1 16) = e.1 ∧ (v.port 15).streams = [] ∧ xdTotal (streamDesc (h.payload.take 32)) ≠ 0 := by decide +kernel

theorem witness_receipts : let s := linked 16 0 (fun p => { p with sent := [⟨63, false, 0, []⟩], queue := [(5, 3)] }) []
    (⟨63, false, 0, []⟩ : SentCell) ∈ (s.port 15).sent ∧ (s.port 15).naks = [] ∧ (s.port 15).queue = (5, 3) :: [] ∧
    (0x8012#16).toNat % 4096 ≠ 0 := by decide +kernel

theorem witness_training :
    (let s : State := { regs [(F.LNK_STATUS_STATE, 15, 3)] State.reset with life := { Life.off with powered := true } }
     s.rd F.LNK_STATUS_STATE 15 = 3 ∧ s.rd F.LNK_STATUS_TRAINING 15 = 0 ∧ s.rd F.SYS_POWER_STATE 0 ≠ 3 ∧ s.rd F.LNK_CTL_DISABLE 15 = 0 ∧
     s.life.powered = true) ∧
    (let s := regs [(F.LNK_STATUS_TRAINING, 15, 1), (F.LNK_STATUS_ATTEMPTS, 15, 2), (F.QUO_STATUS_OWNED, 0, 1), (F.QUO_STATUS_TRNG_OK, 0, 1)] State.reset
     s.rd F.LNK_STATUS_TRAINING 15 = 1 ∧ s.rd F.LNK_CTL_DISABLE 15 = 0 ∧ s.rd F.QUO_STATUS_OWNED 0 ≠ 0 ∧ s.rd F.QUO_STATUS_TRNG_OK 0 ≠ 0 ∧
     (⟨true, 15, false, false, 2208, 1, true⟩ : TrainResult).lambda ≤ 2208 ∧ (s.tick 0).twinRec = none ∧ s.rd F.LNK_STATUS_ATTEMPTS 15 = 2 ∧
     (s.tick 0).mirrorPorts.contains 15 = false) ∧
    (let s := linked 0 0 (fun p => { p with crcRun := 16, tagFails := 8 }) []
     (s.tick 0).portUp 15 = true ∧ 16 ≤ (s.port 15).crcRun ∧ 8 ≤ (s.port 15).tagFails ∧ s.rd F.LNK_CTL_RETRAIN 15 = 0 ∧
     s.rd F.LNK_CTL_DISABLE 15 = 0) := by decide +kernel

theorem witness_bridges :
    State.reset.rd F.BRG_CTL_RETRAIN 9 = 0 ∧
    (let s : State := regs [(F.BRG_STATUS_RETRAINING, 9, 1), (F.BRG_STATUS_TRIES, 9, 2)] State.reset
     s.rd F.BRG_STATUS_RETRAINING 9 = 1 ∧ Tab.get 0 s.life.brgWidths 9 < 16 ∧ (s.img s.activeSlot).loaded = false ∧ s.rd F.BRG_STATUS_TRIES 9 = 2) ∧
    (let s : State := { regs [(F.BRG_STATUS_RETRAINING, 9, 1)] State.reset with life := { Life.off with brgWidths := [(9, 16)] } }
     s.rd F.BRG_STATUS_RETRAINING 9 = 1 ∧ 16 ≤ Tab.get 0 s.life.brgWidths 9) ∧
    (let s : State := regs [(F.BRG_STATUS_WIDTH, 9, 2)] State.reset
     s.rd F.BRG_STATUS_WIDTH 9 = 2 ∧ s.rd F.BRG_STATUS_RETRAINING 9 = 0 ∧ (s.img s.activeSlot).loaded = false) := by decide +kernel

/-! ### Registers, the host and images -/

/-- A write of the control view to offsets that hold no register, of the job view below the value of a line, and to THM_CFG, whose hit is the only one
and is neither bad nor ignored. -/
theorem witness_registerWrites : State.reset.rd F.SCB_STATUS_FROZEN 0 = 0 ∧ hitsOf .control 0xFFFFFC 4 = [] ∧ hitsOf .control 0x9FFFF8 8 = [] ∧
    hitsOf .job 0 4 = [] ∧
    (∀ r ∈ allRegs, r.id = Rg.THM_CFG → (hitsOf .control r.off 4).map (fun h => (h.reg, badCommand h (bitsFor h 4 0xFFFFFFFF),
      (State.reset.tick 0).ignores h (bitsFor h 4 0xFFFFFFFF), decide (h.reg.id ∈ sideEffects))) = [(r, false, false, false)]) ∧
    (∃ r ∈ allRegs, r.id = Rg.THM_CFG) := by decide +kernel

/-- A write to SEQ_PLAY_BASE of a running thread is ignored. -/
theorem witness_ignoredWrite : (∀ r ∈ allRegs, r.id = Rg.SEQ_PLAY_BASE → (hitsOf .control (0x800000 + r.off) 8).map (fun h => (h.reg,
      ((regs [(F.SEQ_THREAD_CTL_RUNNING, 0, 1)] State.reset).tick 0).ignores h (bitsFor h 8 64))) = [(r, true)]) ∧
    (∃ r ∈ allRegs, r.id = Rg.SEQ_PLAY_BASE) := by decide +kernel

theorem witness_floorPlan : let s : State := { regs [(F.SYS_FP_STATUS_VALID, 0, 1)] State.reset with fpPend := [⟨1, 103, 0, 0, 7⟩, ⟨3, 15, 0, 0, 7⟩, ⟨4, 9, 0, 0, 8⟩] }
    s.fpPend = [⟨1, 103, 0, 0, 7⟩, ⟨3, 15, 0, 0, 7⟩] ++ [⟨4, 9, 0, 0, 8⟩] ∧ s.rd F.SYS_FP_STATUS_VALID 0 = 1 ∧ State.reset.fpPend = [] := by decide +kernel

/-- One event's two items are one change: GENERATION advances by 2 (R24). -/
theorem test_floorPlanChange :
    let s : State := { regs [(F.SYS_FP_STATUS_VALID, 0, 1)] State.reset with fpPend := [⟨3, 15, 0, 0, 7⟩, ⟨3, 14, 0, 0, 7⟩, ⟨3, 13, 0, 0, 8⟩] }
    (s.fpChange.fpPend, s.fpChange.rd F.FP_HDR_GENERATION 0) = ([⟨3, 13, 0, 0, 8⟩], 2) := by decide +kernel

/-- SYS_CFG_LOST.TILE follows SYS_TILE_UNCONF (R377). -/
theorem test_cfgLostTile :
    ((State.reset.setUnconf 70 true).rd F.SYS_CFG_LOST_TILE 0, ((State.reset.setUnconf 70 true).setUnconf 70 false).rd F.SYS_CFG_LOST_TILE 0) =
      (1, 0) := by decide +kernel

/-- The capability words of a B0 B-die, a B0 C-die and A1 courses (R37). -/
theorem test_capabilityWords : (capsB 2, capsC 2, capsCourse 1) = (0x17, 0x19, 0x09) := by decide

/-- A tile reset before READY is recorded under code 0x004 with its KIND (R369, R509). -/
theorem test_resetIgnored : (State.reset.resetRequest (.tile 3)).scb.recs.map (fun e => (e.1, e.2.count, e.2.value)) = [(4, 1, 1)] := by
  decide +kernel

/-- A write of 1 to VALID clears the whole of SLC_ERR (R198). -/
theorem test_slcErrClears :
    let s := regs [(F.SLC_ERR_VALID, 2, 0), (F.SLC_ERR_COURSE, 2, 3), (F.SLC_ERR_LINE, 2, 77)] State.reset
    (s.afterWrite ⟨⟨Rg.SLC_ERR, .control, .tile, 0x640, 64, []⟩, 2, 2, 0⟩ ⟨1, 1⟩).rd F.SLC_ERR_LINE 2 = 0 := by decide +kernel

/-- The rings open with 16 slots, one submission at index 5 if it is given, SQ_TAIL one past SQ_HEAD; tile 103 serves logical tile 95. -/
def ringing (l : List Bytes) : State :=
  { regs [(F.FRONT_RING_CTL_OPEN, 0, 1), (F.FRONT_SQ_SIZE_LOG2, 0, 4), (F.FRONT_RQ_SIZE_LOG2, 0, 4), (F.FRONT_SQ_PTRS_TAIL, 0, 1),
      (F.SYS_BOOT_STATUS_STAGE, 0, 0xA)] (State.reset.updTile 103 (fun t => { t with facts := { t.facts with logical := 95 } })) with
    front := ⟨l.map (fun b => ⟨5, b⟩), [], 0, 0, false⟩ }

/-- A submission record with fields. -/
def subOf (l : List (Nat × Nat)) : Bytes := bytesOf 64 l

theorem witness_fetch : let v := (ringing []).tick 0
    v.rd F.FRONT_RING_CTL_OPEN 0 = 1 ∧ v.front.stopped = false ∧ v.rd F.FRONT_SQ_PTRS_HEAD 0 ≠ v.rd F.FRONT_SQ_PTRS_TAIL 0 ∧
    v.front.subs.length < 8 ∧ 2 ≤ v.freeReplies ∧ v.rd F.SYS_BOOT_STATUS_STAGE 0 = 0xA ∧
    (subOf [(0, 1)]).length = 64 ∧ v.subBad (subOf [(0, 1)]) = none ∧ subEmpty (subOf [(0, 1)]) = false ∧
    (subOf [(0, 10)]).length = 64 ∧ v.subBad (subOf [(0, 10)]) = some 0 := by decide +kernel

theorem witness_nop : ((ringing [subOf [(0, 1)]]).tick 0).ready 5 1 = some ⟨5, subOf [(0, 1)]⟩ := by decide +kernel

/-- A copy of one byte to or from the last byte of logical tile 95's store, and of tile 103's slice below its mirror region. -/
theorem witness_copies : ∀ op ∈ [2, 3],
    let b := subOf [(0, op), (1, 8), (2, 95), (4, 1), (24, 0x1800000 - 1)]
    let c := subOf [(0, op), (4, 1), (24, sliceBase 103 + 2 ^ 33 - 1)]
    let v := (ringing [b]).tick 0
    let w := (ringing [c]).tick 0
    v.ready 5 op = some ⟨5, b⟩ ∧ subSealed b = false ∧ subLen b = 1 ∧ subTs b = true ∧ v.tileOfLogical (subTile b) = some 103 ∧
    (v.tile 103).eng.poison = [] ∧
    w.ready 5 op = some ⟨5, c⟩ ∧ subTs c = false ∧ subLen c = 1 ∧ w.decodeDpa false (subDev c) = .slice 103 (2 ^ 33 - 1) ∧
    w.sealedAt (subDev c) = false ∧ (w.badLines = [] ∧ w.latent = []) := by decide +kernel

/-- An image header of one tile with one schedule frame. -/
def header : Bytes := bytesOf 128 [(0, 0x31484C54), (4, 0x00010000), (16, 1), (20, 1), (22, 1)]

theorem witness_activate : let b := subOf [(0, 4), (4, 192)]
    let v := (ringing [b]).tick 0
    let d := header ++ List.replicate 64 0
    v.ready 5 4 = some ⟨5, b⟩ ∧ (v.img (subSlot b)).loaded = false ∧ d.length = subLen b ∧ 192 ≤ d.length ∧ headerBad (d.take 128) = false ∧
    fieldAt (d.take 128) 16 2 ≠ 0 ∧ (v.segments (subSlot b) (((d.drop 128).take (d.length - 192)).length + 1) ((d.drop 128).take (d.length - 192))).2 = 0 ∧
    v.rd F.SCB_STATUS_FROZEN 0 = 0 ∧ v.margin = none := by decide +kernel

/-- An image of one tile loaded in slot A. -/
def loadedA (s : State) : State := { s with imgA := { Image.empty with loaded := true, header := header } }

theorem witness_images :
    (∀ op ∈ [5, 6], ∀ f ∈ [2, 1], let b := subOf [(0, op), (32, f)]
      let v := (loadedA (ringing [b])).tick 0
      v.ready 5 op = some ⟨5, b⟩ ∧ (v.img (subSlot b)).loaded = true ∧ v.imageTiles (v.img 0) = [] ∧
      v.frameNamed (subFrame b) = if f = 2 then some 2 else none) ∧
    (let b := subOf [(0, 7), (4, 65536), (16, 4096)]
     let v := ({ regs [(F.QUO_KEYS_LOADED, 0, 2 ^ 63)] (loadedA (ringing [b])) with
       quoin := { Quoin.idle with keys := [(63, 5)] } } : State).tick 0
     v.ready 5 7 = some ⟨5, b⟩ ∧ fieldAt (v.img 0).header 20 2 ≠ 0 ∧ v.atPreempt 0 = true ∧ v.keySlot 63 = some 5 ∧
     sealedLength (v.contextBytes 0).length ≤ subLen b) ∧
    (let b := subOf [(0, 8), (4, 1024)]
     let v := (ringing [b]).tick 0
     v.ready 5 8 = some ⟨5, b⟩ ∧ (v.img 0).loaded = false) ∧
    (let b := subOf [(0, 9)]
     ((loadedA (ringing [b])).tick 0).ready 5 9 = some ⟨5, b⟩) := by decide +kernel

theorem witness_rings : (∀ e ∈ [(0x0A02, 10), (0x6402, 100)], (BitVec.ofNat 64 e.1).toNat.testBit 1 = true ∧ bitsAt (BitVec.ofNat 64 e.1).toNat 8 7 = e.2) ∧
    State.reset.rd F.FRONT_RING_CTL_OPEN 0 = 0 ∧ (State.reset.tick 0).ringUnset = true ∧
    ((regs [(F.FRONT_SQ_SIZE_LOG2, 0, 4), (F.FRONT_RQ_SIZE_LOG2, 0, 4), (F.FRONT_SQ_BASE, 0, 1), (F.FRONT_RQ_BASE, 0, 1)] State.reset).tick 0).ringUnset = false ∧
    (let s := ringing []
     s.rd F.FRONT_RING_CTL_OPEN 0 = 1 ∧ ¬ 2 ^ s.rd F.FRONT_SQ_SIZE_LOG2 0 < ((16#32).toNat + 2 ^ 32 - s.rd F.FRONT_SQ_PTRS_HEAD 0) % 2 ^ 32 ∧
     2 ^ s.rd F.FRONT_SQ_SIZE_LOG2 0 < ((17#32).toNat + 2 ^ 32 - s.rd F.FRONT_SQ_PTRS_HEAD 0) % 2 ^ 32 ∧ (s.tick 0).freeReplies ≠ 0 ∧
     (({ regs [(F.FRONT_RING_CTL_HB_US, 0, 10)] s with front := ⟨[], [⟨1, 5, 0, 0, 0⟩], 0, 0, false⟩ } : State).tick 40000).heartbeatDue = true) := by
  decide +kernel

theorem witness_windows :
    (let v := (regs [(F.FRONT_WIN_BASE, 0, 0)] State.reset).tick 0
     0 < [(1 : Byte)].length ∧ [(1 : Byte)].length ≤ 512 - (2 ^ 33 - 1) % 512 ∧ v.wins = [] ∧ v.sealedAt (2 ^ 33 - 1) = false ∧
     v.decodeDpa false (2 ^ 33 - 1) = .slice 0 (2 ^ 33 - 1) ∧ (BitVec.ofNat 36 (2 ^ 33 - 1)).toNat = 2 ^ 33 - 1) ∧
    (let s : State := { State.reset with wins := [⟨7, 64, 8, false, 0, [], 1⟩] }
     s.wins[0]? = some ⟨7, 64, 8, false, 0, [], 1⟩ ∧ 0 + 160000 ≤ (s.tick 160000).now ∧ s.rd F.FRONT_WIN_LAST_VALID 0 = 0) := by decide +kernel

/-! ### Resets, start-up, power and heat -/

/-- The module READY and powered. -/
def readyState : State :=
  { regs [(F.SYS_BOOT_STATUS_STAGE, 0, 0xA)] State.reset with life := { Life.off with powered := true, ready := true, perstSeen := true } }

theorem witness_resets : (∀ clamped ∈ [0, 1], let s := regs [(F.THM_STATUS_CLAMPED, 0, clamped)] readyState
      s.rd F.SYS_BOOT_STATUS_STAGE 0 = 0xA ∧ s.rd F.SYS_POWER_STATE 0 < 2 ∧ s.rd F.THM_STATUS_CLAMPED 0 = clamped ∧
      (∀ k ∈ [ResetKind.tile 103, .pier 7, .compute], s.life.resets.any (fun r => resetCovers r.kind k) = false) ∧ s.rd F.BND_STATUS_STATE 0 = 0) ∧
    (103 : TileIx).val = 13 * (7 : PierIx).val + (12 : Fin 13).val ∧
    (∀ k ∈ [ResetKind.tile 103, .pier 7, .compute], let s : State := { readyState with life := { readyState.life with resets := [⟨k, 0⟩] } }
      s.life.resets.find? (fun r => r.kind == k) = some ⟨k, 0⟩ ∧ ∀ x ∈ resetTiles k, (s.tile x).eng.zeroing = false) := by decide +kernel

theorem witness_startUps : let f : FwImage := ⟨1, 0, 0, 1, 0⟩
    let up (s : State) : Bool := decide (goodBoot.imageA = some f) && s.life.staged.isNone && decide (s.rd F.QUO_FW_SVN_FUSED 0 ≤ f.svn) &&
      goodBoot.controller && goodBoot.badDies.isEmpty && s.life.badDies.isEmpty && (steppingBad goodBoot.steppings).isNone &&
      goodBoot.facts.isEmpty && goodBoot.units.isEmpty && s.rd F.THM_STATUS_PRESSURE 0 == 1
    let warm := regs [(F.THM_STATUS_PRESSURE, 0, 1)] readyState
    let cold : State := { regs [(F.THM_STATUS_PRESSURE, 0, 1)] State.reset with life := { Life.off with main := true, cause := 6 } }
    up cold = true ∧ cold.life.powered = false ∧ cold.life.tripped = false ∧ cold.life.main = true ∧ cold.life.cause ≠ 0 ∧
    up warm = true ∧ warm.life.powered = true ∧ warm.life.perst = false ∧ warm.life.perstSeen = true ∧
    (State.reset.life.perst = true ∨ State.reset.life.perstSeen = false) := by decide +kernel

/-- Chunk 1 of 2 of microcode, without its check. -/
def chunkBody : Bytes := bytesOf 272 [(0, 1), (2, 2), (5, 1), (8, 32)]

theorem witness_microcode : (State.reset.tile 103).facts.bkuRetired.testBit 63 = false ∧
    chunkSound (chunkBody ++ digestBytes (Config.sm3 chunkBody)) = true := by
  refine ⟨by decide +kernel, ?_⟩
  have hl : chunkBody.length = 272 := by decide +kernel
  have ht : (chunkBody ++ digestBytes (Config.sm3 chunkBody)).take 272 = chunkBody := by rw [← hl]; exact List.take_left'  rfl
  have hd : (chunkBody ++ digestBytes (Config.sm3 chunkBody)).drop 272 = digestBytes (Config.sm3 chunkBody) := by
    rw [← hl]; exact List.drop_left' rfl
  unfold chunkSound
  simp only [ht, hd, beq_self_eq_true, Bool.and_true]
  decide +kernel

theorem witness_powerStates :
    (∀ c ∈ [0, 1], let s := regs [(F.SYS_POWER_STATE, 0, c)] readyState
      s.rd F.SYS_POWER_MOVING 0 = 0 ∧ s.rd F.SYS_POWER_STATE 0 = c ∧ s.rd F.THM_STATUS_SHUTDOWN 0 = 0 ∧ (s.tick 0).mayRest = true) ∧
    (let s := regs [(F.SEQ_THREAD_CTL_RUNNING, 103, 1)] readyState
     s.rd F.SYS_POWER_MOVING 0 = 0 ∧ (s.tick 0).mayRest = false) ∧
    (∀ n ∈ [0, 3], let s : State := { readyState with life := { readyState.life with moving := some n } }
      n < 4 ∧ s.life.moving = some n ∧ s.rd F.SYS_POWER_STATE 0 < 2) := by decide +kernel

theorem witness_sensors :
    (∀ st ∈ [1, 2, 3], (regs [(F.THM_SENSOR_STATE, 1331, st)] State.reset).rd F.THM_SENSOR_STATE 1331 = st) ∧
    State.reset.rd F.THM_SENSOR_STATE 1331 = 0 ∧
    (let s := regs [(F.THM_SENSOR_READING, 0, 1888), (F.THM_SENSOR_ESTIMATE, 0, 1888)] readyState
     s.rd F.THM_SENSOR_STATE 0 = 0 ∧ s.life.powered = true ∧ tripLevel 0 (s.rd F.THM_SENSOR_READING 0) = true ∧ tripLevel 0 (1888#12).toNat = true ∧
     ((s.tick 0).wr F.THM_SENSOR_READING 0 1888).tripConfirmed 0 1888 = true) ∧
    (∀ r ∈ [880, 881], let s := regs [(F.THM_SENSOR_ESTIMATE, 0, 800), (F.THM_SENSOR_ESTIMATE, 1, 800), (F.THM_SENSOR_READING, 1, 841),
        (F.THM_SENSOR_STRIKES, 0, 2)] State.reset
      let w := (s.tick 0).wr F.THM_SENSOR_READING 0 r
      s.rd F.THM_SENSOR_STATE 0 = 0 ∧ tripLevel 0 r = false ∧ s.rd F.THM_SENSOR_STRIKES 0 = 2 ∧
      ((w.deviation 0).natAbs ≤ 80 ∨ (80 < (w.deviation 0).natAbs ∧ w.corroborated 0 0 = true))) ∧
    (let s := regs [(F.THM_SENSOR_ESTIMATE, 0, 800), (F.THM_SENSOR_STRIKES, 0, 2)] State.reset
     let w := (s.tick 0).wr F.THM_SENSOR_READING 0 881
     80 < (w.deviation 0).natAbs ∧ w.corroborated 0 0 = false) := by decide +kernel

theorem witness_thermal :
    (State.reset.power.model.length = 8 ∧ State.reset.life.pendingResets = []) ∧
    (∀ m ∈ [0, 100], let w : RthWindow := ⟨100, 110, m, 500, 508, 500, 800, 700⟩
      (List.replicate 8 w)[(7 : PierIx).val]? = some w ∧ (10 * (w.pmax - w.pmin) ≤ w.pmean ↔ m = 100)) ∧
    (let s := regs [(F.THM_RTH_RTH_J, 7, 100), (F.THM_RTH_RTH_M, 7, 90)] State.reset
     s.rd F.THM_RTH_RTH_J 7 ≠ 0 ∧ s.rd F.THM_RTH_RTH_M 7 ≠ 0 ∧ s.power.half.getD 7 0 = 0) ∧
    (regs [(F.THM_STATUS_CLAMPED, 0, 1)] State.reset).rd F.THM_STATUS_CLAMPED 0 = 1 ∧ State.reset.rd F.THM_STATUS_CLAMPED 0 = 0 ∧
    (State.reset.power.commission = none ∧ readyState.imgA.loaded = false ∧ readyState.imgB.loaded = false ∧ readyState.rd F.THM_STATUS_CLAMPED 0 = 0 ∧
      readyState.rd F.SYS_POWER_STATE 0 < 2 ∧ readyState.rd F.SYS_BOOT_STATUS_STAGE 0 = 0xA ∧ readyState.life.resets = [] ∧
      readyState.rd F.BND_STATUS_STATE 0 = 0) ∧
    ((loadedA readyState).imgA.loaded = true ∧ (loadedA readyState).power.commission = none) ∧
    ({ State.reset with power := { Power.idle with commission := some 0 } } : State).power.commission ≠ none := by decide +kernel

theorem witness_powerEvents : readyState.life.powered = true ∧ readyState.rd F.THM_STATUS_CLAMPED 0 = 0 ∧
    (∀ q ∈ [176, 240], 176 ≤ (BitVec.ofNat 8 q).toNat ∧ (BitVec.ofNat 8 q).toNat ≤ 240) ∧ (175#8).toNat < 176 ∧ 240 < (241#8).toNat ∧
    (readyState.tick 0).sparePhases 7 false ≠ 0 ∧ (readyState.tick 0).sparePhases 7 true ≠ 0 ∧
    (let s : State := { readyState with repairs := [⟨9, 7, 0⟩, ⟨9, 7, 0⟩] }
     (s.tick 0).sparePhases 7 false = 0 ∧ 1 ≤ s.rd F.PWR_RAIL_PHASES_COMPUTE 7 ∧ s.rd F.PWR_RAIL_PHASES_COMPUTE 7 ≤ 16) ∧
    readyState.life.wait = none ∧
    (let s := regs [(F.THM_STATUS_PRESSURE, 0, 0)] readyState
     s.rd F.SYS_BOOT_STATUS_STAGE 0 = 0xA ∧ s.rd F.THM_STATUS_PRESSURE 0 = 0 ∧ s.life.pressureAt + 4000000 ≤ (s.tick 4000000).now ∧
     s.life.pressureAt + 800000000 ≤ (s.tick 800000000).now ∧ s.rd F.THM_STATUS_SHUTDOWN 0 = 0 ∧ s.rd F.SYS_POWER_STATE 0 < 2) ∧
    (let s : State := atBeat 1000000000 (fun b => b) { readyState with power := { Power.idle with boostFrom := some 750000000, coolFrom := some 0 } }
     s.power.boostFrom = some 750000000 ∧ 750000000 + 250000000 ≤ (s.tick 0).beatNow ∧ s.power.coolFrom ≠ none ∧
     s.power.lastHigh + 1000000000 ≤ (s.tick 0).beatNow) ∧
    (let s : State := { readyState with life := { Life.off with absentFrom := some 0 } }
     s.life.absentFrom = some 0 ∧ 0 + 4000000000 ≤ (s.tick 4000000000).now) := by decide +kernel

/-! ### The Bond Stream and the twins -/

theorem witness_bond :
    (State.reset.rd F.BND_STATUS_STATE 0 = 0 ∧ State.reset.power.commission = none) ∧
    (regs [(F.BND_STATUS_STATE, 0, 1)] State.reset).rd F.BND_STATUS_STATE 0 = 1 ∧
    (∀ n ∈ [64, 1048576], 64 ≤ fieldAt (bytesOf 64 [(8, n)]) 8 4 ∧ fieldAt (bytesOf 64 [(8, n)]) 8 4 ≤ 1048576 ∧
      fieldAt (bytesOf 64 [(8, n)]) 0 4 ≠ 0x4D534E42) ∧ fieldAt (bytesOf 64 [(8, 64)]) 8 4 ≤ (bytesOf 64 [(8, 64)]).length ∧
    (let s : State := { regs [(F.BND_STATUS_STATE, 0, 2)] State.reset with bond := ⟨[], [], some ([], bytesOf 64 [], []), []⟩ }
     s.rd F.BND_STATUS_STATE 0 = 2 ∧ s.bond.pend = some ([], bytesOf 64 [], [])) := by decide +kernel

/-- Ports 14 and 15 are the mirror ports, port 15 joined to the twin of identity 9; tile 0 serves logical tile 0 with one mirror unit. -/
def twinned (st : Nat) (f : Twin → Twin) : State :=
  { regs [(F.TWN_STATUS_STATE, 0, st), (F.LNK_STATUS_STATE, 15, 1), (F.SLC_REGIONS_MIRROR_UNITS, 0, 1)]
      (State.reset.updTile 0 (fun t => { t with facts := { t.facts with logical := 0, role := 0 } })) with
    ports := [(15, { PortState.idle with partner := 9 })], twin := f Twin.idle,
    bond := ⟨[⟨0x31, devScope, bytesOf 64 [(1, 14), (2, 15), (8, 9)], []⟩], [], none, []⟩ }

theorem witness_pairing : let v := (twinned 1 (fun w => w)).tick 0
    v.mirrorPorts.any v.mirrorUp = true ∧ (v.twinRec.map (fun b => fieldAt b 8 8)).getD 0 = ({ goodPair with ident := 9 } : PairRec).ident.toNat ∧
    v.paired = false := by decide +kernel

theorem witness_heartbeats :
    (let v := (twinned 2 (fun w => w)).tick 0
     v.beatNow % 256 = 0 ∧ v.paired = true ∧ v.mirrorPorts.filter v.mirrorUp = [15]) ∧
    (∀ m ∈ [1, 2], let s := atBeat 256 (fun b => b) (twinned 3 (fun w => { w with hbDue := some 128, hbLast := 127, hbMissed := m }))
      let v := s.tick 0
      s.twin.hbDue = some 128 ∧ v.frozen = false ∧ 128 + 128 + (s.beat.gated - s.twin.hbGated) / 32 ≤ v.beatNow ∧ s.twin.hbLast < 128 ∧
      s.twin.hbCounted = false ∧ v.paired = true ∧ s.twin.hbMissed = m ∧ v.mirrorPorts.any v.mirrorUp = true) ∧
    (let s := regs [(F.LNK_STATUS_STATE, 15, 0)] (atBeat 256 (fun b => b) (twinned 3 (fun w => { w with hbDue := some 128, hbMissed := 2 })))
     (s.tick 0).mirrorPorts.any (s.tick 0).mirrorUp = false ∧ 2 ≤ s.twin.hbMissed) := by decide +kernel

theorem witness_twinStates : (∀ st ∈ [2, 3, 4, 5, 7, 8], (twinned st (fun w => w)).rd F.TWN_STATUS_STATE 0 = st) ∧
    (let s : State := { twinned 4 (fun w => { w with hasCommit := true }) with
       imgB := { Image.empty with loaded := true, header := bytesOf 128 [(14, 1)] } }
     s.imgB.loaded = true ∧ (fieldAt s.imgB.header 14 1).testBit 0 = true ∧ s.twin.hasCommit = true ∧ s.twin.partnerResync = false ∧
     (s.tick 0).frozen = false) ∧ (twinned 4 (fun w => w)).imgB.loaded = false ∧
    (let v := (twinned 7 (fun w => w)).tick 0
     v.mirrorPort ≠ none ∧ (v.computeTiles.foldl State.passTile (v, 0)).2 ≤ 512) ∧
    (({ twinned 8 (fun w => w) with imgB := { Image.empty with startAt := some 3 } } : State).tick 0).slotBRuns = true := by decide +kernel

/-- A mirror record of a kind for logical tile 0 with data. -/
def mirrorRec (kind phase head ix : Nat) (d : Bytes) : Bytes := bytesOf 32 [(0, kind), (1, phase), (3, head), (4, d.length), (16, ix)] ++ d

theorem witness_mirrorRecords : let v := (twinned 2 (fun w => w)).tick 0
    (v.mirrorPorts.contains 15 = true ∧ v.mirrorUp 15 = true ∧ v.paired = true ∧ v.twin.late = [] ∧ v.twin.rxBad = false ∧ v.twin.undo = []) ∧
    (∀ r ∈ [mirrorRec 1 0 0 0 (List.replicate 16 0), mirrorRec 7 0 0 0 [], mirrorRec 8 0 0 0 [], mirrorRec 9 0 0 0 [1, 0, 0, 0],
        mirrorRec 2 0 1 1 (List.replicate 512 7), mirrorRec 3 0 1 1 (List.replicate 16 7), mirrorRec 4 0 1 1 (List.replicate 32 7),
        mirrorRec 5 0 0 0 [7], mirrorRec 6 0 0 65535 [7]],
      mirrorSound r = true ∧ fieldAt r 12 4 = v.twin.rxSeq ∧ v.tileOfLogical (fieldAt r 2 1) = some 0 ∧ fieldAt r 1 1 = 0 ∧ v.badLines = [] ∧
      v.twin.undo.any (fun u => u.addr == (mirrorTarget v (fieldAt r 0 1) 0 r).1) = false ∧
      v.twin.undoBytes + (mirrorData r).length + 16 ≤ v.undoRoom) ∧
    (∀ r ∈ [mirrorRec 3 1 1 1 (List.replicate 16 7), mirrorRec 4 1 1 1 (List.replicate 32 7)],
      mirrorSound r = true ∧ fieldAt r 1 1 = 1 ∧ (v.tile 0).eng.poison = []) ∧
    (twinned 2 (fun w => { w with undo := [⟨64, [7]⟩] })).twin.undo = [⟨64, [7]⟩] := by decide +kernel

/-! ### Quoin and SPDM -/

/-- Quoin changed. -/
def onQuoin (f : Quoin → Quoin) (s : State) : State := { s with quoin := f s.quoin }
/-- A key package for slot 63 of a module of identity 5 in its owner's epoch 0. -/
def keyPackage : Bytes := bytesOf 224 [(0, 0x594B5150), (4, 0x00010000), (8, 5), (20, 63)]

theorem witness_quoinKeys : State.reset.rd F.QUO_CMD_STATUS_BUSY 0 ≠ 1 ∧ (regs [(F.QUO_CMD_STATUS_BUSY, 0, 1)] State.reset).rd F.QUO_CMD_STATUS_BUSY 0 = 1 ∧
    (let s := onQuoin (fun q => { q with owner := some 1 }) (regs [(F.QUO_IDENT_IDENT, 0, 5)] State.reset)
     s.quoin.owner = some 1 ∧ s.rd F.QUO_DEBUG_SCOPE 0 = 0 ∧ keyPackage.length = 224 ∧ fieldAt keyPackage 0 4 = 0x594B5150 ∧
     fieldAt keyPackage 4 4 = 0x00010000 ∧ fieldAt keyPackage 20 2 ≤ 63 ∧ fieldAt keyPackage 22 10 = 0 ∧ fieldAt keyPackage 145 15 = 0 ∧
     fieldAt keyPackage 8 8 ≠ 0 ∧ fieldAt keyPackage 8 8 = s.rd F.QUO_IDENT_IDENT 0 ∧ fieldAt keyPackage 16 4 = s.rd F.QUO_OWNER_EPOCH 0 ∧
     s.front.subs = [] ∧ s.rd F.QUO_CMD_STATUS_BUSY 0 ≠ 1) ∧
    State.reset.quoin.owner = none ∧ (11#6).toNat < 12 ∧ 12 ≤ (12#6).toNat ∧ (15#6).toNat ≤ 15 ∧ 15 < (16#6).toNat ∧
    (onQuoin (fun q => { q with zeroing := some (2 ^ 19 - 1, 1), granules := [2 ^ 19 - 1] }) State.reset).quoin.zeroing = some (2 ^ 19 - 1, 1) := by
  decide +kernel

/-- A release authorisation for identity 5. -/
def releaseAuth : Bytes := bytesOf 80 [(0, 0x4C455252), (8, 5)]
/-- A debug authorisation of scope 15 for identity 5 with a nonce. -/
def debugAuth (n : Nat) : Bytes := bytesOf 192 [(0, 0x47424450), (4, 0x00010000), (8, 5), (16, n), (32, 15)]
/-- A firmware package of one byte. -/
def package : Bytes := bytesOf 129 [(0, 0x57465850), (4, 0x00010000), (10, 64), (12, 1)]

theorem witness_quoinOwnership :
    (State.reset.rd F.QUO_CMD_STATUS_BUSY 0 ≠ 1 ∧ State.reset.quoin.owner = none ∧ ∀ q < 16, (State.reset.port q).noSession = false) ∧
    (let s := onQuoin (fun q => { q with owner := some 1 }) (regs [(F.QUO_IDENT_IDENT, 0, 5), (F.THM_STATUS_PRESSURE, 0, 1), (F.QUO_OWNER_EPOCH, 0, 0)] readyState)
     releaseAuth.length = 80 ∧ fieldAt releaseAuth 0 4 = 0x4C455252 ∧ s.quoin.owner ≠ none ∧ fieldAt releaseAuth 8 8 = s.rd F.QUO_IDENT_IDENT 0 ∧
     fieldAt releaseAuth 4 4 = s.rd F.QUO_OWNER_EPOCH 0 ∧ s.rd F.QUO_KEYS_LOADED 0 = 0 ∧ s.quoin.granules = [] ∧ s.rd F.QUO_OWNER_EPOCH 0 < 32 ∧
     s.life.powered = true ∧ goodBoot.imageA = some ⟨1, 0, 0, 1, 0⟩ ∧ s.life.staged = none ∧ s.rd F.QUO_FW_SVN_FUSED 0 ≤ 0 ∧
     goodBoot.controller = true ∧ goodBoot.badDies = [] ∧ s.life.badDies = [] ∧ steppingBad goodBoot.steppings = none ∧ goodBoot.facts = [] ∧
     goodBoot.units = [] ∧ s.rd F.THM_STATUS_PRESSURE 0 = 1 ∧ (regs [(F.QUO_KEYS_LOADED, 0, 2 ^ 63)] s).rd F.QUO_KEYS_LOADED 0 ≠ 0) ∧
    ((regs [(F.QUO_STATUS_TRNG_OK, 0, 1)] State.reset).rd F.QUO_STATUS_TRNG_OK 0 ≠ 0 ∧
     (regs [(F.QUO_STATUS_TRNG_OK, 0, 0)] State.reset).rd F.QUO_STATUS_TRNG_OK 0 = 0) ∧
    (∀ n ∈ [0, 1], let s := onQuoin (fun q => { q with owner := some 1, nonceOk := true }) (regs [(F.QUO_IDENT_IDENT, 0, 5)] State.reset)
     (debugAuth n).length = 192 ∧ fieldAt (debugAuth n) 0 4 = 0x47424450 ∧ fieldAt (debugAuth n) 4 4 = 0x00010000 ∧ fieldAt (debugAuth n) 32 4 < 16 ∧
     fieldAt (debugAuth n) 40 24 = 0 ∧ s.quoin.owner = some 1 ∧ fieldAt (debugAuth n) 8 8 = s.rd F.QUO_IDENT_IDENT 0 ∧ s.quoin.nonceOk = true ∧
     fieldAt (debugAuth n) 36 4 = s.rd F.QUO_OWNER_EPOCH 0 ∧ (fieldAt (debugAuth n) 16 16 = (s.tick 0).nonce ↔ n = 0) ∧
     s.rd F.QUO_KEYS_LOADED 0 = 0 ∧ s.quoin.granules = []) ∧
    (128 ≤ package.length ∧ fieldAt package 0 4 = 0x57465850 ∧ fieldAt package 4 4 = 0x00010000 ∧ fieldAt package 10 2 ≤ 64 ∧
     fieldAt package 12 4 ≤ 2 ^ 26 ∧ fieldAt package 12 4 + 128 = package.length ∧ fieldAt package 48 16 = 0 ∧
     State.reset.rd F.QUO_FW_SVN_FUSED 0 ≤ fieldAt package 10 2) ∧
    ((regs [(F.SYS_FW_IMAGE, 0, 1)] State.reset).rd F.SYS_FW_IMAGE 0 = 1 ∧
     (let s := regs [(F.QUO_FW_SVN_RUNNING, 0, 1)] State.reset
      s.rd F.SYS_FW_IMAGE 0 ≠ 1 ∧ s.rd F.QUO_FW_SVN_FUSED 0 < s.rd F.QUO_FW_SVN_RUNNING 0 ∧ s.quoin.raisesLeft ≠ 0)) := by decide +kernel

/-- A connection over MCTP in a phase, with sessions, READY with an alias certificate. -/
def talking (phase : Nat) (l : List Session) (d : List Deferred) : State :=
  onQuoin (fun q => { q with conns := [(trCode .mctp, { Conn.none with phase := phase })], sessions := l, deferred := d })
    (regs [(F.QUO_STATUS_ALIAS_READY, 0, 1)] readyState)

theorem witness_spdmNegotiation :
    (let s : State := { State.reset with life := { Life.off with powered := true } }
     s.life.powered = true ∧ s.rd F.SYS_BOOT_STATUS_STAGE 0 = 0) ∧
    (∀ p ∈ [1, 2, 3], let s := talking p [] []
      s.life.powered = true ∧ (s.tick 0).spdmUp = true ∧ (s.conn .mctp).phase = p) ∧
    fieldAt (bytesOf 20 [(0, 0x12)]) 0 1 = 0x12 ∧ 20 ≤ (bytesOf 20 [(0, 0x12)]).length ∧ fieldAt (bytesOf 20 [(0, 0x11)]) 0 1 ≠ 0x12 ∧
    (let r := bytesOf 44 [(0, 0x12), (1, 0xE3), (2, 3), (6, 1), (7, 2), (8, 0x200), (12, 0x40), (32, 0x00402002), (36, 0x00082003), (40, 0x00012005)]
     32 ≤ r.length ∧ algsOffered r = true ∧ algsOffered (bytesOf 32 []) = false) := by decide +kernel

theorem witness_spdmAnswers :
    (let s := talking 3 [] []
     s.rd F.QUO_STATUS_ALIAS_READY 0 ≠ 0 ∧ s.quoin.sessions.length < 4) ∧
    4 ≤ (talking 3 (List.replicate 4 ⟨1, .mctp, true, 0, 0, 0, 0⟩) []).quoin.sessions.length ∧
    (∀ e ∈ [(0x83, 36, 0, 0), (0xE0, 4, 0, 0), (0xE0, 4, 0, 16), (0xE0, 37, 1, 0xFF), (0xE4, 106, 0, 0)],
      let r := bytesOf e.2.1 [(0, 0x12), (1, e.1), (2, e.2.2.1), (3, e.2.2.2)]
      fieldAt r 0 1 = 0x12 ∧ fieldAt r 1 1 = e.1 ∧ r.length = e.2.1 ∧ fieldAt r 2 1 = e.2.2.1 ∧ fieldAt r 3 1 = e.2.2.2 ∧ fieldAt r 36 1 = 0) ∧
    (let q := bytesOf 36 [(0, 0x12), (1, 0x83)]
     let r := bytesOf 4 [(0, 0x12), (1, 0xFF), (2, 0x83), (3, 7)]
     let s := talking 3 [] [⟨.mctp, 7, q⟩]
     s.quoin.deferred.find? (fun d => d.tr == .mctp && fieldAt d.req 1 1 == fieldAt r 2 1 && d.token == fieldAt r 3 1) = some ⟨.mctp, 7, q⟩ ∧
     fieldAt q 1 1 = 0x83 ∧ fieldAt q 2 1 = 0) := by decide +kernel

theorem witness_spdmSessions : ∀ done ∈ [true, false], let g : Session := ⟨9, .mctp, done, 0, 0, 0, 0⟩
    let s := talking 3 [g] []
    ∀ op ∈ [0, 1, 3, 4], let r := bytesOf 40 [(0, 9), (4, 0x12), (6, op)]
      s.life.powered = true ∧ (s.tick 0).spdmUp = true ∧ (s.conn .mctp).phase = 3 ∧ fieldAt (r.drop 4) 0 1 = 0x12 ∧ 36 ≤ (r.drop 4).length ∧
      s.quoin.sessions.find? (fun e => e.tr == .mctp && e.id == fieldAt r 0 4) = some g ∧ fieldAt (r.drop 4) 2 1 = op ∧ g.done = done ∧
      s.quoin.sessions.find? (fun e => e.tr == .mctp && e.id == fieldAt (bytesOf 40 [(0, 8)]) 0 4) = none := by decide +kernel

/-! ### The Scorebook, margining and the connector -/

theorem witness_scorebook :
    (State.reset.rd F.SCB_STATUS_LAYOUT 0 ≠ 1 ∧ State.reset.rd F.SCB_STATUS_FROZEN 0 ≠ 1) ∧
    (regs [(F.SCB_STATUS_LAYOUT, 0, 1)] State.reset).rd F.SCB_STATUS_LAYOUT 0 = 1 ∧
    (let s := regs [(F.SCB_STATUS_FROZEN, 0, 1)] State.reset
     s.rd F.SCB_STATUS_FROZEN 0 = 1 ∧ s.scb.aside = [] ∧ s.scb.aside.length < 1023) ∧
    (let s : State := { regs [(F.SCB_STATUS_FROZEN, 0, 1)] State.reset with scb := { Scb.empty with aside := [⟨0x3FF, 5, false, 1, true⟩] } }
     s.scb.aside = [⟨0x3FF, 5, false, 1, true⟩] ∧ 0x3FF < 0x400) ∧
    1023 ≤ ({ State.reset with scb := { Scb.empty with aside := List.replicate 1023 ⟨1, 5, false, 1, true⟩ } } : State).scb.aside.length ∧
    (let s : State := { State.reset with scb := { Scb.empty with missing := [(0xFFF, 2)] } }
     Tab.get 0 s.scb.missing (4095#12).toNat ≠ 0 ∧ Tab.get 0 s.scb.missing (0#12).toNat = 0) ∧
    (∀ o ∈ [0, 8, 16], let s := regs [(F.SCB_CURSOR_OFFSET, 0, 64 + 96 * 1023 + o)] State.reset
      s.rd F.SCB_STATUS_LAYOUT 0 = 0 ∧ s.rd F.SCB_CURSOR_OFFSET 0 = 64 + 96 * 1023 + o ∧ (scbLine s 1023).count < 2 ^ 32 ∧
      (scbLine s 1023).supp < 2 ^ 32 ∧ (scbLine s 1023).first < 2 ^ 64) ∧
    64 + 96 * 1024 ≤ (regs [(F.SCB_CURSOR_OFFSET, 0, 64 + 96 * 1024)] State.reset).rd F.SCB_CURSOR_OFFSET 0 := by decide +kernel

theorem witness_flushes : State.reset.scb.flushing = none ∧ State.reset.rd F.SCB_STATUS_FROZEN 0 ≠ 1 ∧
    State.reset.scb.flushAt + 2400000000000 ≤ (State.reset.tick 2400000000000).now ∧ (State.reset.tick 2399999999999).now < State.reset.scb.flushAt + 2400000000000 ∧
    (∀ r ∈ [1, 3, 4], let s : State := { regs [(F.PWR_HOLDUP_OK, 0, 1)] State.reset with scb := { Scb.empty with flushing := some r, slot := 1 } }
      s.scb.flushing = some r ∧ s.scb.flushAgain = none ∧ s.scb.slot < 2 ∧ s.rd F.PWR_HOLDUP_OK 0 = 1) ∧
    (let s : State := { State.reset with scb := { Scb.empty with flushing := some 1, flushAgain := some 4 } }
     s.scb.flushing = some 1 ∧ s.scb.flushAgain = some 4) := by decide +kernel

/-- A target of each kind, at its last position, bridge or port, with the fine caps of its piers set. -/
def target (kind axis : Nat) : State :=
  regs [(F.MRG_TARGET_KIND, 0, kind), (F.MRG_TARGET_PIER, 0, 7), (F.MRG_TARGET_POSITION, 0, 12), (F.MRG_TARGET_BRIDGE, 0, 9), (F.MRG_TARGET_PORT, 0, 15),
    (F.MRG_TARGET_AXIS, 0, axis), (F.MRG_TARGET_LANE, 0, 3), (F.BRG_STATUS_WIDTH, 9, 2), (F.LNK_STATUS_STATE, 15, 1), (F.FP_PIER_B_CAPS, 3, 2),
    (F.FP_PIER_B_CAPS, 7, 2)] State.reset

theorem witness_marginStart : (∀ kind ∈ [0, 1, 2], ∀ axis ∈ [0, 1, 2], let s := target kind axis
      let v := s.tick 0
      s.rd F.SYS_POWER_STATE 0 = 0 ∧ s.margin = none ∧ s.rd F.MRG_TARGET_KIND 0 = kind ∧ s.rd F.MRG_TARGET_AXIS 0 = axis ∧
      (s.tile 103).facts.health < 3 ∧ v.anyRunning 103 = false ∧ (s.tile 103).units = [] ∧
      s.rd F.BRG_STATUS_WIDTH 9 = 2 ∧ v.marginUsed 1 9 = false ∧ s.rd F.LNK_STATUS_STATE 15 = 1 ∧ v.portRole 15 ≠ 1 ∧ v.portRole 15 ≠ 2 ∧
      s.beat.via ≠ some 15 ∧ v.marginUsed 2 15 = false ∧ s.rd F.MRG_TARGET_PIER 0 < 8 ∧ s.rd F.MRG_TARGET_POSITION 0 < 13 ∧
      s.rd F.MRG_TARGET_COURSE 0 < 5 ∧ s.rd F.MRG_TARGET_LANE 0 < 4 ∧ s.rd F.MRG_TARGET_BRIDGE 0 < 10) ∧
    (regs [(F.SYS_POWER_STATE, 0, 1)] State.reset).rd F.SYS_POWER_STATE 0 ≠ 0 ∧ ((regs [(F.SEQ_THREAD_CTL_RUNNING, 103, 1)] (target 0 0)).tick 0).anyRunning 103 = true ∧
    (regs [(F.BRG_STATUS_WIDTH, 9, 1)] (target 1 0)).rd F.BRG_STATUS_WIDTH 9 ≠ 2 ∧ (target 3 0).rd F.MRG_TARGET_KIND 0 = 3 := by decide +kernel

theorem witness_marginSteps : ∀ e ∈ [(false, 0, false, 1, false), (true, 0, false, 31, true), (true, 0, false, 32, true), (true, 0, true, 32, true),
      (true, 1, true, 20, true), (true, 1, true, 20, false)],
    let r : MarginRun := ⟨0, 103, 0, 32, 20, e.2.2.2.2, e.1, e.2.1, e.2.2.1, e.2.2.2.1⟩
    ({ State.reset with margin := some r } : State).margin = some r ∧ r.centre = e.1 ∧ (r.plus = true → r.axis = 0 ∧ r.both = true ∨ (r.axis ≠ 0 ∨ r.both = false)) := by
  decide +kernel

theorem witness_lanes : (∀ l ∈ [0x89, 0x8A, 0x8B, 0x8C, 0x8D, 0x8E, 0x90], let c := BitVec.ofNat 16 (bitsOf [(3, 1), (8, l)])
      bitsAt c.toNat 3 3 = 1 ∧ bitsAt c.toNat 8 8 = l) ∧
    (∀ l ∈ [0x0F, 0xC0, 0xFF], let c := BitVec.ofNat 16 (bitsOf [(3, 2), (8, l)])
      bitsAt c.toNat 3 3 = 2 ∧ bitsAt c.toNat 8 8 = l) ∧
    (∀ k ∈ [(3, 16), (3, 17), (4, 32), (4, 33)], let c := BitVec.ofNat 16 (bitsOf [(3, k.1), (8, k.2)])
      bitsAt c.toNat 3 3 = k.1 ∧ bitsAt c.toNat 8 8 = k.2) := by decide +kernel

/-- The connector in a stage of mating. -/
def mating (f : Life → Life) : State := { State.reset with life := f Life.off }

theorem witness_connector :
    (let s := mating (fun l => { l with mate := some 5 })
     s.life.mate = some 5 ∧ 5 + 200000000 ≤ (s.tick 200000005).now ∧ (s.tick 200000004).now < 5 + 200000000 ∧ s.life.precharge = none ∧
     s.life.main = false) ∧
    State.reset.life.mate = none ∧ (mating (fun l => { l with precharge := some 9 })).life.precharge = some 9 ∧
    State.reset.life.powered = false ∧ readyState.life.powered = true ∧
    (∀ g ∈ [1, 2, 0xA], let s := regs [(F.SYS_BOOT_STATUS_STAGE, 0, g)] readyState
      s.life.powered = true ∧ s.rd F.SYS_BOOT_STATUS_STAGE 0 = g ∧ s.rd F.SYS_BOOT_STATUS_STAGE 0 ≠ 0xF ∧ 1 ≤ s.rd F.SYS_BOOT_STATUS_STAGE 0) ∧
    (12 : Fin 21).val = 5 + (7 : PierIx).val ∧ (20 : Fin 21).val = 13 + (7 : PierIx).val := by decide +kernel

theorem witness_canonical : State.reset.memCanon ∧ ∃ s', step State.reset = .next s' := by
  refine ⟨by unfold State.memCanon; decide +kernel, State.reset, ?_⟩
  rfl

/-! ### The manual's worked examples -/

/-- Tile 3.11's slice base (chapter Scope). -/
theorem test_sliceBase : sliceBase (13 * 3 + 11) = 0x7600000000 := by decide +kernel

/-- Play 37 of thread 2 carries WAIT 3 and issues at cycle 1,018 (chapter Tile Engine). -/
theorem test_playWait : let s := onEngine 43 (fun e => { e with threads := [(2, { Thread.idle with pos := 37, due := 1006 })] }) <|
      (regs [(F.SEQ_CTL_PARTITION, 43, 2), (F.SEQ_PLAY_BASE_BASE, 43 * 4 + 2, 0x100000)] State.reset)
    s.rd F.SEQ_PLAY_BASE_BASE (43 * 4 + 2) + 64 * 37 = 0x100940 ∧ s.playDue 43 2 (bitsOf [(0, 2), (16, 3)]) = 1018 := by decide +kernel

/-- The PB4 block of chapter Number Formats: elements 9 and 8 are −1.875 and 0.625. -/
theorem test_pb4 : let b := bitsOf [(32, 0xD2), (128, 0x7A), (136, 0x34)]
    pb4Val b 9 = .fin true 30 (-4) ∧ pb4Val b 8 = .fin false 20 (-5) := by decide +kernel

/-- The MXFP4 dot product of chapter Number Formats: 3.5 in FP32, exact without the term far below the window and inexact with it. -/
theorem test_superaccumulator :
    let t (a b : Nat) : Val := (mulV (mxVal .mxE2m1 a 0x7C) (mxVal .mxE2m1 b 0x80)).1
    let far := (mulV (mxVal .mxE2m1 1 0x07) (mxVal .mxE2m1 1 0x75)).1
    let four := [t 7 5, t 0xB 4, t 1 0xF, t 6 1]
    (lsSum 0x80 four none).f = 0x38000000000000000 ∧ (lsSum 0x80 four none).inexact = false ∧
    (lsOut .fp32 0 false 0x80 (lsSum 0x80 four none)).bits = 0x40600000 ∧
    (lsSum 0x80 (four ++ [far]) none).f = 0x38000000000000000 ∧ (lsSum 0x80 (four ++ [far]) none).inexact = true := by decide +kernel

/-- The slab of chapter Matrix Array: 288 cycles for each group, 9,216 in all. -/
theorem test_mvSpan : let d := bitsOf [(8, 4), (16, 0x18), (24, 3), (48, 16), (64, 8192), (96, 1024)]
    mvLegal d = true ∧ mvGroupChunks (mdW d) (mdK d / 32) = 288 ∧ mdSpan d = 9216 := by decide +kernel

/-- Entry 5 of chapter Attention adds 577 cycles to the bound. -/
theorem test_attentionBound : entryBound 0 26 8 (ltOf (bitsOf [(0, 640), (32, 1), (160, 10)])) = 577 := by decide +kernel

/-- The page-table entry of slot 41 in chapter Attention reads POS 0x8100_000A and LINK 0x040F_FFFF; both tables read back what was written. -/
theorem test_pageTable : let e : PtE := ⟨10, 1, true, 0xFFFFF, false, false, true, 5, 7⟩
    bitsAt (ptVal e) 0 32 = 0x8100000A ∧ bitsAt (ptVal e) 32 32 = 0x040FFFFF ∧ ptOf (ptVal e) = e ∧
    ltOf (ltVal ⟨641, 1, 2, 3, 4, 5, 41, 10, 6, 4, 1⟩) = ⟨641, 1, 2, 3, 4, 5, 41, 10, 6, 4, 1⟩ := by decide +kernel

/-- DPA 0x6E_1234_5600 after the substitution of 3.12 for 3.7 (chapter Bonded Memory). -/
theorem test_translation : (regs [(F.SLC_APT_PHYS, 13 * 3 + 7, 12)] State.reset).decodeDpa false 0x6E12345600 = .slice (13 * 3 + 12) 0x12345600 ∧
    sliceBase (13 * 3 + 12) + 0x12345600 = 0x7812345600 := by decide +kernel

/-- The words of chapter Bank Units: operation, cycles, scalar register and immediate. -/
theorem test_unitWords : [0x0000000000000001, 0x3F00000000040008, 0x0000000000000102, 0x0000000100000019, 0x000000400040001A, 0x1B].map
      (fun w => (bwOp w, wordCycles w, bwForm w, bwSreg w, bwImm w, bwSegEnd w)) =
    [(0x01, 32, 0, 0, 0, false), (0x08, 2, 1, 0, 0x3F000000, false), (0x02, 32, 0, 0, 0, true), (0x19, 1, 0, 0, 1, false),
      (0x1A, 1, 0, 1, 64, false), (0x1B, 1, 0, 0, 0, false)] := by decide +kernel

/-- Unit 1.5 of tile 2.9 finds block 0x2_0000 at slice offset 0x4000_0A80 (chapter Bank Units). -/
theorem test_unitBlock : (State.reset.updBku 35 21 (fun b => { b with s := [(0, 0x20000)], area := bytesOf 128 [(40, 0x20000), (44, 0x2007F)] })).bkuBlock
    35 21 1 = some 0x40000A80 := by decide +kernel

/-- Element 1,000,000,000 lies in group 62,500,000 for k = 4, and in group 47,619,047 as its member 13 for k = 3 (chapter Random Bits). -/
theorem test_groups : 1000000000 / plgPer 4 = 62500000 ∧ 1000000000 % plgPer 4 = 0 ∧ 1000000000 / plgPer 3 = 47619047 ∧
    1000000000 % plgPer 3 = 13 := by decide +kernel

/-- The fields of an OPEN's register go to their own words of the key (R231). -/
theorem test_key : plgKey 1 2 3 4 = 0x00000004000000030000000200000001 := by decide +kernel

/-- Chunks 0 and 1 of channel 5 move at 20,013 and 20,021 (chapter Timing Contract). -/
theorem test_chunkCycles : chunkCycle 20000 5 0 = 20013 ∧ chunkCycle 20000 5 1 = 20021 := by decide +kernel

/-- P_beats 145: requests to beat 3,947 target the next frame; an UNCLAMP at beat 1,000 of the next frame resumes at its beat 4,049. -/
theorem test_targets : let s (b : Nat) : State := atBeat b (fun b => b) (regs [(F.BEAT_CFG_P_BEATS, 0, 145)] State.reset)
    (s 3947).targetFrame = 1 ∧ (s 3948).targetFrame = 2 ∧ 3900 + (s 0).propagation = 4049 ∧ (s (4096 + 1000)).resumeOf 4049 (4096 + 1000) = 4096 + 4049 := by
  decide +kernel

/-- The request in slot 100 and its reply in slot 286 (chapter Aelli Links). -/
theorem test_slots : let s := linked 0 0 (fun p => p) []
    let u := regs [(F.LNK_STATUS_LAT_CLASS, 15, 2)] s
    slotStart 4096 true 100 = 1067 ∧ u.letOf 15 100 = 223 ∧ slotStart 4096 true 223 = 2379 ∧ u.releaseAt 15 100 = 2955 ∧ u.replySlot 15 100 = 286 ∧
    slotStart 4096 true 286 = 3051 := by decide +kernel

/-- A trapped thread and a port gone DOWN: STATUS 0xC000 (chapter Host Interface), and 0xA000 with the trap alone. -/
theorem test_status : let s := regs [(F.ATT_PENDING_CONFIG_LOST, 0, 0)] State.reset
    (regs [(F.ATT_PENDING_TRAP, 0, 1), (F.ATT_PENDING_PORT_DOWN, 0, 1)] s).statusField 0 = 0xC000 ∧
    (regs [(F.ATT_PENDING_TRAP, 0, 1)] s).statusField 0 = 0xA000 ∧ s.statusField 0 = 0 := by decide +kernel

/-- The sealed shard of chapter Quoin. -/
theorem test_sealedLength : sealedLength (524288 * 4096) = 2155872320 := by decide +kernel

/-- Holds of 600 and 1,040 cycles lie in bins 9 and 10 (chapter Scorebook). -/
theorem test_bins : scbBin 600 = 9 ∧ scbBin 1040 = 10 := by decide +kernel
end Sys2Proof.Tests
end

section
/-! SUPPORT. The queue of waiting commands under every operation of the model: each leaves it as it was. -/

namespace Sys2Proof.Machine

/-! ### Folds and outcomes that carry a state -/

/-- A fold whose steps leave the queue alone, where the state is the first part of what the fold carries. -/
@[simp] theorem foldl_fst_pending {β γ : Type} (g : State × γ → β → State × γ) (l : List β) (q : State × γ)
    (h : ∀ a b, (g a b).1.pending = a.1.pending) : (l.foldl g q).1.pending = q.1.pending := by
  induction l generalizing q with
  | nil => rfl
  | cons e r ih => rw [List.foldl_cons, ih, h]

/-- A fold whose steps leave the queue alone, stated over what a step comes to: the kernel then compares the steps by name and does not run
them, where a step adds a large constant. -/
theorem foldl_pending_of_eq {β : Type} (g : State → β → State) (l : List β) (s : State) (h : ∀ a b c, c = g a b → c.pending = a.pending) :
    (l.foldl g s).pending = s.pending := foldl_pending g l s fun a b => h a b _ rfl

/-- A slot taken from its unit's hand leaves the queue alone. -/
theorem State.takeSlot_pending {s s1 : State} {x : Nat} {p : Slot → Bool} {sl : Slot} (h : s.takeSlot x p = some (sl, s1)) :
    s1.pending = s.pending := (State.takeSlot_same s x p _ h).2.2

/-- What a memory-side add comes to leaves the queue of s alone. -/
def AddRes.KeepsQueue (s : State) : AddRes → Prop
  | .ok s1 _ => s1.pending = s.pending
  | .fail s1 _ => s1.pending = s.pending
  | .viol _ => True

/-- What a bank unit's word does, or the fault it ends in, leaves the queue of s alone. -/
def WordKeepsQueue (s : State) : Except (State × Nat) State → Prop
  | .ok s1 => s1.pending = s.pending
  | .error r => r.1.pending = s.pending

variable (s : State)

/-! ### Operations of Machine/Slice.lean -/

@[simp] theorem State.winFail_pending (write : Bool) (code dpa : Nat) :
    (s.winFail write code dpa).pending = s.pending := by simp [State.winFail]
@[simp] theorem State.winDrop_pending (tag : Nat) : (s.winDrop tag).pending = s.pending := by simp [State.winDrop]

@[simp] theorem State.winPiece_pending (tag off code : Nat) (data : Bytes) : (s.winPiece tag off code data).pending = s.pending := by
  unfold State.winPiece
  split <;> simp

@[simp] theorem State.answer_pending (a : Acc) (code : Nat) (data : Bytes) : (s.answer a code data).pending = s.pending := by
  unfold State.answer
  split <;> simp

@[simp] theorem State.chanCode_pending (x c j code cause : Nat) : (s.chanCode x c j code cause).pending = s.pending := by
  unfold State.chanCode
  (repeat' split) <;> simp

@[simp] theorem State.refuseAcc_pending (a : Acc) (code cause : Nat) : (s.refuseAcc a code cause).pending = s.pending := by
  unfold State.refuseAcc
  split <;> simp

@[simp] theorem State.deliverFrom_pending (x : Nat) (a : Acc) (data : Bytes) (bad : Bool) :
    (s.deliverFrom x a data bad).pending = s.pending := by simp [State.deliverFrom]
@[simp] theorem State.pchFills_pending (x off n : Nat) (errs : Bool) :
    (s.pchFills x off n errs).pending = s.pending := by simp [State.pchFills]
@[simp] theorem State.wayFault_pending (p w : Nat) : (s.wayFault p w).pending = s.pending := by simp [State.wayFault]

theorem State.addChunk_keepsQueue (x off fmt path : Nat) (src : Bytes) (errs : List MemErr) :
    (s.addChunk x off fmt path src errs).KeepsQueue s := by
  unfold State.addChunk
  dsimp only
  (repeat' split) <;> simp [AddRes.KeepsQueue]

@[simp] theorem State.serveAcc_pending (x : Nat) (a : Acc) (path : Nat) (errs : List MemErr) :
    (s.serveAcc x a path errs).pending = s.pending := by
  have faults : ((wayFaults errs).foldl (fun z w => z.wayFault (pierOf x) w) s).pending = s.pending := by simp
  unfold State.serveAcc
  generalize (wayFaults errs).foldl (fun z w => z.wayFault (pierOf x) w) s = s1 at faults ⊢
  dsimp only
  split
  · simp [faults]
  · (repeat' split) <;> simp [faults]
  · next y off _ =>
    split
    · (repeat' split) <;> simp [faults]
    · split <;> simp [faults]
    · next fmt _ =>
      have add := s1.addChunk_keepsQueue y off fmt 2 a.data errs
      split
      · simp [faults]
      · next e => rw [e] at add; simpa using Eq.trans add faults
      · next e =>
        rw [e] at add
        split <;> simpa using Eq.trans add faults

@[simp] theorem State.accLate_pending (a : Acc) : (s.accLate a).pending = s.pending := by
  unfold State.accLate
  split
  · split <;> simp
  · rfl

@[simp] theorem State.inboundRun_pending (x i : Nat) (errs : List MemErr) : (s.inboundRun x i errs).pending = s.pending := by
  unfold State.inboundRun
  dsimp only
  (repeat' split) <;> simp

@[simp] theorem State.enqueue_pending (x : Nat) (a : Acc) : (s.enqueue x a).pending = s.pending := by simp [State.enqueue]

@[simp] theorem State.writeBackCorrected_pending (x : Nat) : (s.writeBackCorrected x).pending = s.pending := by
  unfold State.writeBackCorrected
  split <;> simp

@[simp] theorem State.scrubLine_pending (x line : Nat) (errs : List MemErr) :
    (s.scrubLine x line errs).pending = s.pending := by simp [State.scrubLine]
@[simp] theorem State.scrubEnd_pending (x : Nat) : (s.scrubEnd x).pending = s.pending := by simp [State.scrubEnd]

@[simp] theorem State.scrubChunk_pending (x : Nat) (errs : List MemErr) : (s.scrubChunk x errs).pending = s.pending := by
  unfold State.scrubChunk
  split <;> simp

@[simp] theorem State.openServe_pending (x : Nat) (errs : List MemErr) : (s.openServe x errs).pending = s.pending := by
  unfold State.openServe
  dsimp only
  (repeat' split) <;> simp

@[simp] theorem State.setOwed_pending (x n : Nat) : (s.setOwed x n).pending = s.pending := by simp [State.setOwed]

@[simp] theorem State.takeBand_pending (x : Nat) : (s.takeBand x).pending = s.pending := by
  unfold State.takeBand
  split <;> simp

@[simp] theorem State.refreshSlot_pending (x : Nat) : (s.refreshSlot x).pending = s.pending := by simp [State.refreshSlot]

@[simp] theorem State.sliceDeliver_pending (x : Nat) : (s.sliceDeliver x).pending = s.pending := by
  unfold State.sliceDeliver
  (repeat' split) <;> simp

@[simp] theorem State.sliceStart_pending (x op : Nat) : (s.sliceStart x op).pending = s.pending := by
  unfold State.sliceStart
  split
  · rfl
  · next h => split <;> simp [State.takeSlot_pending h]

@[simp] theorem State.flushBuffered_pending (x chunk : Nat) : (s.flushBuffered x chunk).pending = s.pending := by simp [State.flushBuffered]
@[simp] theorem State.slotRead_pending (x : Nat) (r : SliceRun) (errs : List MemErr) :
    (s.slotRead x r errs).pending = s.pending := by simp [State.slotRead]

@[simp] theorem State.slotWrite_pending (x : Nat) (r : SliceRun) (errs : List MemErr) : (s.slotWrite x r errs).pending = s.pending := by
  simp only [State.slotWrite]
  split <;> simp

@[simp] theorem State.slotChunk_pending (x : Nat) (errs : List MemErr) : (s.slotChunk x errs).pending = s.pending := by
  unfold State.slotChunk
  (repeat' split) <;> simp

@[simp] theorem State.latchStart_pending (x u : Nat) : (s.latchStart x u).pending = s.pending := by
  unfold State.latchStart
  split <;> simp

/-! ### Operations of Machine/BankOps.lean -/

@[simp] theorem State.bkuFault_pending (x u cause : Nat) : (s.bkuFault x u cause).pending = s.pending := by simp [State.bkuFault]

theorem State.wordStep_pending (x u op : Nat) (e : WordErr) (f : Nat → State → Except (State × Nat) State)
    (h : ∀ w, WordKeepsQueue s (f w s)) : (s.wordStep x u op e f).pending = s.pending := by
  unfold State.wordStep
  split
  · rfl
  · simp
  · rfl
  · next w _ =>
    have keeps := h w
    split
    · next r => rw [r] at keeps; exact (State.bkuFault_pending ..).trans keeps
    · next r => rw [r] at keeps; exact keeps

@[simp] theorem State.elemWord_pending (x u op : Nat) (e : WordErr) (f : Nat → Nat → Nat → Nat → Nat → Nat × Flags) :
    (s.elemWord x u op e f).pending = s.pending :=
  State.wordStep_pending s x u op e _ fun _ => by simp [WordKeepsQueue]

theorem State.chainSend_pending {s s1 : State} {x u v : Nat} (h : s.chainSend x u v = some s1) : s1.pending = s.pending := by
  simp only [State.chainSend] at h
  split at h
  · cases h
  · cases h; rfl

/-! ### Operations of Machine/Bank.lean -/

@[simp] theorem State.segBoundary_pending (x u : Nat) : (s.segBoundary x u).pending = s.pending := by simp [State.segBoundary]
@[simp] theorem State.pauseDone_pending (x u : Nat) : (s.pauseDone x u).pending = s.pending := by simp [State.pauseDone]
@[simp] theorem State.bkuIdle_pending (x u : Nat) : (s.bkuIdle x u).pending = s.pending := by simp [State.bkuIdle]

@[simp] theorem State.bankTake_pending (x op : Nat) : (s.bankTake x op).pending = s.pending := by
  unfold State.bankTake
  split
  · rfl
  · next h => split <;> simp [State.takeSlot_pending h]

/-! ### Operations of Machine/Random.lean -/

@[simp] theorem State.rngOpen_pending (x : Nat) : (s.rngOpen x).pending = s.pending := by
  unfold State.rngOpen
  split
  · rfl
  · next h => simp [State.takeSlot_pending h]

@[simp] theorem State.rngSeek_pending (x : Nat) : (s.rngSeek x).pending = s.pending := by
  unfold State.rngSeek
  split
  · rfl
  · next h => simp [State.takeSlot_pending h]

@[simp] theorem State.rngDraw_pending (x : Nat) : (s.rngDraw x).pending = s.pending := by
  unfold State.rngDraw
  split
  · rfl
  · next h => simp [State.takeSlot_pending h]

@[simp] theorem State.ctxReady_pending (x c : Nat) : (s.ctxReady x c).pending = s.pending := by simp [State.ctxReady]

/-! ### Operations of Machine/Play.lean -/

@[simp] theorem State.giveSlot_pending (x k i p kind : Nat) : (s.giveSlot x k i p kind).pending = s.pending := by
  unfold State.giveSlot
  dsimp only
  (repeat' split) <;> simp

@[simp] theorem State.issuePlay_pending (x k i p : Nat) : (s.issuePlay x k i p).pending = s.pending := by simp [State.issuePlay]
@[simp] theorem State.fetchFail_pending (x k i code info : Nat) :
    (s.fetchFail x k i code info).pending = s.pending := by simp [State.fetchFail]

@[simp] theorem State.playIssue_pending (x k : Nat) (fetch : Fetch) : (s.playIssue x k fetch).pending = s.pending := by
  unfold State.playIssue
  dsimp only
  (repeat' split) <;> simp

/-! ### Operations of Machine/SysOps.lean -/

@[simp] theorem State.checkRoutes_pending : s.checkRoutes.pending = s.pending := by simp [State.checkRoutes]
@[simp] theorem State.showMeas_pending (n : Nat) (v : BitVec 256) : (s.showMeas n v).pending = s.pending := by simp [State.showMeas]
@[simp] theorem State.extendMeas_pending (n : Nat) (d : BitVec 256) : (s.extendMeas n d).pending = s.pending := by simp [State.extendMeas]
@[simp] theorem State.replyTo_pending (op seq tag code detail : Nat) :
    (s.replyTo op seq tag code detail).pending = s.pending := by simp [State.replyTo]
@[simp] theorem State.endSub_pending (u : Sub) (code detail : Nat) : (s.endSub u code detail).pending = s.pending := by simp [State.endSub]
@[simp] theorem State.abortSubs_pending : s.abortSubs.pending = s.pending := by simp [State.abortSubs]
@[simp] theorem State.showSched_pending : s.showSched.pending = s.pending := by simp [State.showSched]
@[simp] theorem State.emptySlot_pending (i : Nat) : (s.emptySlot i).pending = s.pending := by simp [State.emptySlot]

@[simp] theorem State.markLost_pending (g : Grp) : (s.markLost g).pending = s.pending := by
  unfold State.markLost
  split <;> simp

@[simp] theorem State.evalLost_pending : s.evalLost.pending = s.pending := by simp [State.evalLost]
@[simp] theorem State.showBond_pending : s.showBond.pending = s.pending := by simp [State.showBond]

/-! ### Operations of Machine/LinkOps.lean -/

@[simp] theorem State.updPort_pending (q : Nat) (f : PortState → PortState) : (s.updPort q f).pending = s.pending := by simp [State.updPort]
@[simp] theorem State.remoteFail_pending (x c code : Nat) : (s.remoteFail x c code).pending = s.pending := by simp [State.remoteFail]

@[simp] theorem State.fillChannel_pending (q x c : Nat) : (s.fillChannel q x c).2.pending = s.pending := by
  unfold State.fillChannel
  dsimp only
  (repeat' split) <;> simp

@[simp] theorem State.fillRequest_pending (q x c n : Nat) : (s.fillRequest q x c n).2.pending = s.pending := by
  unfold State.fillRequest
  split <;> simp

@[simp] theorem State.fillOpen_pending (q : Nat) : (s.fillOpen q).2.pending = s.pending := by
  simp only [State.fillOpen]
  split <;> simp

@[simp] theorem State.fillReply_pending (q n : Nat) : (s.fillReply q n).2.pending = s.pending := by
  unfold State.fillReply
  split <;> simp

@[simp] theorem State.settleReceipts_pending (q : Nat) : (s.settleReceipts q).pending = s.pending := by simp [State.settleReceipts]

@[simp] theorem State.takeReceipt_pending (q : Nat) : (s.takeReceipt q).2.pending = s.pending := by
  unfold State.takeReceipt
  split <;> simp

/-! ### Operations of Machine/Pair.lean -/

@[simp] theorem State.setTwin_pending (v : Nat) : (s.setTwin v).pending = s.pending := by simp [State.setTwin]
@[simp] theorem State.updTwin_pending (f : Twin → Twin) : (s.updTwin f).pending = s.pending := by simp [State.updTwin]
@[simp] theorem State.tryPair_pending : s.tryPair.pending = s.pending := by simp [State.tryPair]
@[simp] theorem State.declareLoss_pending : s.declareLoss.pending = s.pending := by simp [State.declareLoss]
@[simp] theorem State.checkLoss_pending : s.checkLoss.pending = s.pending := by simp [State.checkLoss]
@[simp] theorem State.mirrorDown_pending (q : Nat) : (s.mirrorDown q).pending = s.pending := by simp [State.mirrorDown]

/-! ### Operations of Machine/Links.lean -/

@[simp] theorem State.sendCell_pending (q n : Nat) (f : Fill) (reply : Bool) : (s.sendCell q n f reply).pending = s.pending := by
  unfold State.sendCell
  split <;> simp

@[simp] theorem State.sendLet_pending (q n : Nat) : (s.sendLet q n).pending = s.pending := by
  unfold State.sendLet
  dsimp only
  (repeat' split) <;> simp

@[simp] theorem State.sendMsgs_pending (q : Nat) : (s.sendMsgs q).pending = s.pending := by simp [State.sendMsgs]
@[simp] theorem State.pruneSent_pending (q n : Nat) : (s.pruneSent q n).pending = s.pending := by simp [State.pruneSent]

@[simp] theorem State.cellSlotSend_pending (q : Nat) : (s.cellSlotSend q).pending = s.pending := by
  unfold State.cellSlotSend
  dsimp only
  (repeat' split) <;> simp

@[simp] theorem State.readForReply_pending (q tag : Nat) (p : Bytes) : (s.readForReply q tag p).pending = s.pending := by
  unfold State.readForReply
  dsimp only
  (repeat' split) <;> simp

@[simp] theorem State.cellErrors_pending (q n : Nat) (c : Cell) : (s.cellErrors q n c).pending = s.pending := by simp [State.cellErrors]

@[simp] theorem State.cellReceive_pending (q n : Nat) (c : Cell) : (s.cellReceive q n c).pending = s.pending := by
  unfold State.cellReceive
  (repeat' split) <;> simp

@[simp] theorem State.streamServe_pending (q : Nat) (st : Stream) (data : Bytes) :
    (s.streamServe q st data).pending = s.pending := by simp [State.streamServe]

@[simp] theorem State.streamCell_pending (q key : Nat) (payload : Bytes) : (s.streamCell q key payload).pending = s.pending := by
  unfold State.streamCell
  split <;> simp

@[simp] theorem State.settleReply_pending (q : Nat) (h : HeldCell) : (s.settleReply q h).pending = s.pending := by
  unfold State.settleReply
  (repeat' split) <;> simp

@[simp] theorem State.takeReply_pending (q : Nat) (h : HeldCell) : (s.takeReply q h).pending = s.pending := by
  unfold State.takeReply
  split <;> simp

@[simp] theorem State.openRequest_pending (q : Nat) (h : HeldCell) : (s.openRequest q h).pending = s.pending := by
  unfold State.openRequest
  dsimp only
  (repeat' split) <;> simp

@[simp] theorem State.unschedReplies_pending (q : Nat) : (s.unschedReplies q).pending = s.pending := by simp [State.unschedReplies]
@[simp] theorem State.cellLost_pending (q : Nat) : (s.cellLost q).pending = s.pending := by simp [State.cellLost]

@[simp] theorem State.cellAct_pending (q : Nat) (h : HeldCell) : (s.cellAct q h).pending = s.pending := by
  simp only [State.cellAct]
  split <;> simp

@[simp] theorem State.cellRelease_pending (q : Nat) : (s.cellRelease q).pending = s.pending := by
  unfold State.cellRelease
  (repeat' split) <;> simp

@[simp] theorem State.receipt_pending (q status : Nat) : (s.receipt q status).pending = s.pending := by
  unfold State.receipt
  split <;> simp

@[simp] theorem State.clearPort_pending (q : Nat) : (s.clearPort q).pending = s.pending := by simp [State.clearPort]

@[simp] theorem State.trainPort_pending (q : Nat) : (s.trainPort q).pending = s.pending := by simp [State.trainPort]
@[simp] theorem State.portDown_pending (q reason : Nat) : (s.portDown q reason).pending = s.pending := by simp [State.portDown]
@[simp] theorem State.loseSource_pending (q : Nat) : (s.loseSource q).pending = s.pending := by simp [State.loseSource]
@[simp] theorem State.portLost_pending (q reason : Nat) : (s.portLost q reason).pending = s.pending := by simp [State.portLost]

@[simp] theorem State.trainEnd_pending (q : Nat) (r : TrainResult) : (s.trainEnd q r).pending = s.pending := by
  unfold State.trainEnd
  (repeat' split) <;> simp

@[simp] theorem State.linkRetrain_pending (q : Nat) : (s.linkRetrain q).pending = s.pending := by simp [State.linkRetrain]

/-! ### Operations of Machine/PowerOps.lean -/

@[simp] theorem State.updPower_pending (f : Power → Power) : (s.updPower f).pending = s.pending := by simp [State.updPower]
@[simp] theorem State.setFiller_pending (total : Nat) : (s.setFiller total).pending = s.pending := by simp [State.setFiller]
@[simp] theorem State.rampBoundary_pending : s.rampBoundary.pending = s.pending := by simp [State.rampBoundary]
@[simp] theorem State.rampLimit_pending : s.rampLimit.pending = s.pending := by simp [State.rampLimit]
@[simp] theorem State.showPower_pending : s.showPower.pending = s.pending := by simp [State.showPower]
@[simp] theorem State.boostEnd_pending : s.boostEnd.pending = s.pending := by simp [State.boostEnd]
@[simp] theorem State.envelopeFrame_pending (w : Nat) : (s.envelopeFrame w).pending = s.pending := by simp [State.envelopeFrame]
@[simp] theorem State.decideFrame_pending (m : FrameMeas) (ran : Bool) :
    (s.decideFrame m ran).pending = s.pending := by simp [State.decideFrame]

@[simp] theorem State.restFiller_pending : s.restFiller.pending = s.pending := by
  unfold State.restFiller
  split <;> simp

@[simp] theorem State.commissionStop_pending : s.commissionStop.pending = s.pending := by simp [State.commissionStop]
@[simp] theorem State.rampDrop_pending : s.rampDrop.pending = s.pending := by simp [State.rampDrop]
@[simp] theorem State.clampMark_pending (cause : Nat) : (s.clampMark cause).pending = s.pending := by simp [State.clampMark]

@[simp] theorem State.gate_pending : s.gate.pending = s.pending := by simp [State.gate]

@[simp] theorem State.ungate_pending : s.ungate.pending = s.pending := by
  unfold State.ungate
  split <;> simp

@[simp] theorem State.callClamp_pending (cause piers : Nat) : (s.callClamp cause piers).pending = s.pending := by simp [State.callClamp]
@[simp] theorem State.clampOver_pending : s.clampOver.pending = s.pending := by simp [State.clampOver]
@[simp] theorem State.releaseClamp_pending : s.releaseClamp.pending = s.pending := by simp [State.releaseClamp]

/-! ### Operations of Machine/TwinOps.lean -/

@[simp] theorem State.copyPut_pending (x : Nat) (c : SlotCopy) : (s.copyPut x c).pending = s.pending := by simp [State.copyPut]
@[simp] theorem State.switchSlot_pending (toward : Nat) : (s.switchSlot toward).pending = s.pending := by simp [State.switchSlot]
@[simp] theorem State.putSlotCopy_pending (i x : Nat) (c : SlotCopy) :
    (s.putSlotCopy i x c).pending = s.pending := by simp [State.putSlotCopy]
@[simp] theorem State.sendRecordOn_pending (q kind flags ltile head addr : Nat) (data : Bytes) :
    (s.sendRecordOn q kind flags ltile head addr data).pending = s.pending := by simp [State.sendRecordOn]

@[simp] theorem State.sendRecord_pending (kind flags ltile head addr : Nat) (data : Bytes) (page : Nat × Nat × Nat) :
    (s.sendRecord kind flags ltile head addr data page).pending = s.pending := by
  unfold State.sendRecord
  split <;> simp

@[simp] theorem State.sendHead_pending (x h toward flags : Nat) (marks : List Mirrored) (all : Bool) :
    (s.sendHead x h toward flags marks all).s.pending = s.pending := by simp [State.sendHead]
@[simp] theorem State.sendCheckpoint_pending (slot flags : Nat) :
    (s.sendCheckpoint slot flags).pending = s.pending := by simp [State.sendCheckpoint]
@[simp] theorem State.showMirror_pending : s.showMirror.pending = s.pending := by simp [State.showMirror]

@[simp] theorem State.mirrorFrame_pending (ended : Option Nat) : (s.mirrorFrame ended).pending = s.pending := by
  unfold State.mirrorFrame
  (repeat' split) <;> simp

/-! ### Operations of Machine/Frame.lean -/

@[simp] theorem State.frameCheck_pending : s.frameCheck.pending = s.pending := by
  unfold State.frameCheck
  refine foldl_pending _ _ _ fun a x => foldl_pending _ _ _ fun z k => ?_
  (repeat' split) <;> simp

@[simp] theorem State.fabricCheck_pending : s.fabricCheck.pending = s.pending := by
  simp only [State.fabricCheck]
  split <;> simp (disch := intros; split <;> simp)

@[simp] theorem State.endSched_pending : s.endSched.pending = s.pending := by simp [State.endSched]
@[simp] theorem State.stopImage_pending (g : Image) : (s.stopImage g).pending = s.pending := by simp [State.stopImage]
@[simp] theorem State.sliceTurn_pending (pre : Bool) : (s.sliceTurn pre).pending = s.pending := by simp [State.sliceTurn]
@[simp] theorem State.patternDue_pending (k : Nat) : (s.patternDue k).pending = s.pending := by simp [State.patternDue]
@[simp] theorem State.releasePoint_pending (pre : Bool) : (s.releasePoint pre).pending = s.pending := by simp [State.releasePoint]
@[simp] theorem State.handoverPoint_pending (ended : Bool) : (s.handoverPoint ended).pending = s.pending := by simp [State.handoverPoint]
@[simp] theorem State.restRefresh_pending (x : Nat) : (s.restRefresh x).pending = s.pending := by simp [State.restRefresh]
@[simp] theorem State.beginFrame_pending (k : Nat) : (s.beginFrame k).pending = s.pending := by simp [State.beginFrame]
@[simp] theorem State.threadFrame_pending (x k : Nat) (keep : Bool) :
    (s.threadFrame x k keep).pending = s.pending := by simp [State.threadFrame]
@[simp] theorem State.imageFrame_pending (i k : Nat) : (s.imageFrame i k).pending = s.pending := by simp [State.imageFrame]
@[simp] theorem State.threadsFrame_pending : s.threadsFrame.pending = s.pending := by simp [State.threadsFrame]
@[simp] theorem State.powerFrame_pending (m : FrameMeas) (ran : Bool) :
    (s.powerFrame m ran).pending = s.pending := by simp [State.powerFrame]
@[simp] theorem State.frameBoundary_pending (m : FrameMeas) : (s.frameBoundary m).pending = s.pending := by simp [State.frameBoundary]

/-! ### Operations of Machine/Bridges.lean -/

@[simp] theorem State.bridgeSpares_pending (b dir : Nat) (groups : List Nat) :
    (s.bridgeSpares b dir groups).pending = s.pending := by simp [State.bridgeSpares]
@[simp] theorem State.bridgeRetrain_pending (b : Nat) : (s.bridgeRetrain b).pending = s.pending := by simp [State.bridgeRetrain]
@[simp] theorem State.setWidth_pending (b w : Nat) : (s.setWidth b w).pending = s.pending := by simp [State.setWidth]
@[simp] theorem State.bridgeTry_pending (b low high govLow govHigh : Nat) :
    (s.bridgeTry b low high govLow govHigh).pending = s.pending := by simp [State.bridgeTry]
@[simp] theorem State.bridgeDone_pending (b : Nat) (w : BridgeWires) : (s.bridgeDone b w).pending = s.pending := by simp [State.bridgeDone]
@[simp] theorem State.bothEnds_pending (b : Nat) : (s.bothEnds b).pending = s.pending := by simp [State.bothEnds]

/-! ### Operations of Machine/Fpn.lean -/

@[simp] theorem State.wrs_pending (i : Nat) (l : List (Fld × Nat)) : (s.wrs i l).pending = s.pending := by simp [State.wrs]
@[simp] theorem State.fpTile_pending (x : Nat) : (s.fpTile x).pending = s.pending := by simp [State.fpTile]
@[simp] theorem State.fpPier_pending (p : Nat) : (s.fpPier p).pending = s.pending := by simp [State.fpPier]
@[simp] theorem State.fpLink_pending (q : Nat) : (s.fpLink q).pending = s.pending := by simp [State.fpLink]
@[simp] theorem State.fpSpare_pending (g : Nat) : (s.fpSpare g).pending = s.pending := by simp [State.fpSpare]
@[simp] theorem State.fpBridge_pending (b : Nat) : (s.fpBridge b).pending = s.pending := by simp [State.fpBridge]
@[simp] theorem State.fpSensor_pending (i : Nat) : (s.fpSensor i).pending = s.pending := by simp [State.fpSensor]
@[simp] theorem State.fpCounts_pending : s.fpCounts.pending = s.pending := by simp [State.fpCounts]

@[simp] theorem State.fpEntry_pending (kind part : Nat) : (s.fpEntry kind part).pending = s.pending := by
  unfold State.fpEntry
  split <;> simp

@[simp] theorem State.fpAll_pending : s.fpAll.pending = s.pending := by simp [State.fpAll]
@[simp] theorem State.fpBuild_pending (full : Bool) : (s.fpBuild full).pending = s.pending := by simp [State.fpBuild]
@[simp] theorem State.setUnconf_pending (x : Nat) (v : Bool) : (s.setUnconf x v).pending = s.pending := by simp [State.setUnconf]
@[simp] theorem State.retireTile_pending (x reason : Nat) : (s.retireTile x reason).pending = s.pending := by simp [State.retireTile]
@[simp] theorem State.retireDue_pending (x : Nat) : (s.retireDue x).pending = s.pending := by simp [State.retireDue]
@[simp] theorem State.replaceWays_pending (p : Nat) : (s.replaceWays p).pending = s.pending := by simp [State.replaceWays]
@[simp] theorem State.writeRepair_pending (it : FpItem) : (s.writeRepair it).pending = s.pending := by simp [State.writeRepair]

@[simp] theorem State.fpChange_pending : s.fpChange.pending = s.pending := by
  unfold State.fpChange
  dsimp only
  (repeat' split) <;> simp

/-! ### Operations of Machine/Seal.lean -/

@[simp] theorem State.showSeal_pending : s.showSeal.pending = s.pending := by simp [State.showSeal]
@[simp] theorem State.sealGranules_pending (gs : List Nat) : (s.sealGranules gs).pending = s.pending := by simp [State.sealGranules]
@[simp] theorem State.clearGranules_pending (gs : List Nat) : (s.clearGranules gs).pending = s.pending := by simp [State.clearGranules]

@[simp] theorem State.chunkIn_pending (a : Nat) (bs : Bytes) (seals : Bool) : (s.chunkIn a bs seals).1.pending = s.pending := by
  unfold State.chunkIn
  (repeat' split) <;> simp

@[simp] theorem State.chunkOutOf_pending (a n : Nat) (errs : List MemErr) : (s.chunkOutOf a n errs).2.1.pending = s.pending := by
  unfold State.chunkOutOf
  dsimp only
  (repeat' split) <;> simp

@[simp] theorem State.copyIn_pending (bs : Bytes) (seals : Bool) (l : List (Nat × Nat)) (n : Nat) :
    (s.copyIn bs seals l n).s.pending = s.pending := by
  induction l generalizing s n with
  | nil => rfl
  | cons e r ih =>
    simp only [State.copyIn]
    split <;> simp [ih]

@[simp] theorem State.copyOut_pending (errs : List MemErr) (l : List (Nat × Nat)) (acc : Bytes) :
    (s.copyOut errs l acc).s.pending = s.pending := by
  induction l generalizing s acc with
  | nil => rfl
  | cons e r ih =>
    simp only [State.copyOut]
    split <;> simp [ih]

@[simp] theorem State.tsCopyOut_pending (x : Nat) (errs : List MemErr) (l : List (Nat × Nat)) (acc : Bytes) :
    (s.tsCopyOut x errs l acc).s.pending = s.pending := by
  induction l generalizing s acc with
  | nil => rfl
  | cons e r ih =>
    simp only [State.tsCopyOut]
    split <;> simp [ih]

/-! ### Operations of Machine/Images.lean -/

@[simp] theorem State.segment_pending (slot : Nat) (head data : Bytes) : (s.segment slot head data).1.pending = s.pending := by
  unfold State.segment
  dsimp only
  (repeat' split) <;> simp

@[simp] theorem State.segments_pending (slot n : Nat) (b : Bytes) : (s.segments slot n b).1.pending = s.pending := by
  induction n generalizing s b with
  | zero => rfl
  | succ n ih =>
    simp only [State.segments]
    (repeat' split) <;> simp [ih]

@[simp] theorem State.loadSlot_pending (slot : Nat) (h sig : Bytes) (sched : Nat) (resume : Option Nat) :
    (s.loadSlot slot h sig sched resume).pending = s.pending := by simp [State.loadSlot]

@[simp] theorem State.activate_pending (slot : Nat) (b : Bytes) : (s.activate slot b).1.pending = s.pending := by
  unfold State.activate
  extract_lets h body sig fail r code s1
  have loaded : r.1.pending = s.pending := by simp [r]
  clear_value code r
  (repeat' split) <;> simp [fail, s1, loaded]

@[simp] theorem State.restoreContext_pending (slot : Nat) (b : Bytes) : (s.restoreContext slot b).1.pending = s.pending := by
  unfold State.restoreContext
  dsimp only
  (repeat' split) <;> simp (disch := intros; split <;> simp)

/-! ### Operations of Machine/BondOps.lean -/

@[simp] theorem State.evalConfigured_pending (x : Nat) : (s.evalConfigured x).pending = s.pending := by simp [State.evalConfigured]
@[simp] theorem State.applyPier_pending (l : List Section) (p : Nat) : (s.applyPier l p).pending = s.pending := by simp [State.applyPier]
@[simp] theorem State.applyPch_pending (l : List Section) (p : Nat) : (s.applyPch l p).pending = s.pending := by simp [State.applyPch]
@[simp] theorem State.applyTwin_pending (l : List Section) : (s.applyTwin l).pending = s.pending := by simp [State.applyTwin]

@[simp] theorem State.applyRng_pending (l : List Section) : (s.applyRng l).pending = s.pending := by
  unfold State.applyRng
  split <;> simp

@[simp] theorem State.applyEnvelope_pending (l : List Section) : (s.applyEnvelope l).pending = s.pending := by simp [State.applyEnvelope]

@[simp] theorem State.applyBeat_pending (l : List Section) : (s.applyBeat l).pending = s.pending := by
  unfold State.applyBeat
  split <;> simp

@[simp] theorem State.applyTile_pending (l : List Section) (n : Nat) : (s.applyTile l n).pending = s.pending := by
  unfold State.applyTile
  split <;> simp

@[simp] theorem State.emptyHead_pending (x h : Nat) : (s.emptyHead x h).pending = s.pending := by simp [State.emptyHead]
@[simp] theorem State.applyHead_pending (x n h : Nat) (r : Bytes) (keep : Bool) :
    (s.applyHead x n h r keep).pending = s.pending := by simp [State.applyHead]
@[simp] theorem State.clearHead_pending (x h : Nat) : (s.clearHead x h).pending = s.pending := by simp [State.clearHead]

@[simp] theorem State.applyKv_pending (l : List Section) (n : Nat) : (s.applyKv l n).pending = s.pending := by
  unfold State.applyKv
  split
  · rfl
  · refine foldl_pending _ _ _ fun a h => ?_
    split <;> simp

@[simp] theorem State.bondEnd_pending (code sec detail : Nat) : (s.bondEnd code sec detail).pending = s.pending := by simp [State.bondEnd]
@[simp] theorem State.bondApply_pending (l : List Section) (kind : Nat) (carried : List (Nat × Nat)) :
    (s.bondApply l kind carried).pending = s.pending := by simp [State.bondApply]
@[simp] theorem State.bondCommit_pending (l : List Section) (hdr : Bytes) (carried : List (Nat × Nat)) :
    (s.bondCommit l hdr carried).pending = s.pending := by simp [State.bondCommit]
@[simp] theorem State.zeroSlice_pending (x : Nat) : (s.zeroSlice x).pending = s.pending := by simp [State.zeroSlice]

@[simp] theorem State.bondZeroed_pending : s.bondZeroed.pending = s.pending := by
  unfold State.bondZeroed
  split <;> simp

/-! ### Operations of Machine/Attention.lean -/

@[simp] theorem State.attAfresh_pending : s.attAfresh.pending = s.pending := by simp [State.attAfresh]

/-! ### Operations of Machine/Resets.lean -/

@[simp] theorem State.loseFields_pending (lost : Fld → Nat → Bool) : (s.loseFields lost).pending = s.pending := by simp [State.loseFields]
@[simp] theorem State.markSettings_pending (lost : Fld → Bool) : (s.markSettings lost).pending = s.pending := by simp [State.markSettings]
@[simp] theorem State.loseSections_pending (gone : Nat → Nat → Bool) :
    (s.loseSections gone).pending = s.pending := by simp [State.loseSections]

@[simp] theorem State.abandonLoad_pending (kind : Nat) : (s.abandonLoad kind).pending = s.pending := by
  unfold State.abandonLoad
  split <;> simp

@[simp] theorem State.fpPushV_pending (kind part repair value : Nat) :
    (s.fpPushV kind part repair value).pending = s.pending := by simp [State.fpPushV]
@[simp] theorem State.stopTile_pending (xs : List Nat) (zero keep : Bool) (x : Nat) :
    (s.stopTile xs zero keep x).pending = s.pending := by simp [State.stopTile]
@[simp] theorem State.dropChunks_pending (xs : List Nat) : (s.dropChunks xs).pending = s.pending := by simp [State.dropChunks]
@[simp] theorem State.readyUnits_pending (x : Nat) : (s.readyUnits x).pending = s.pending := by simp [State.readyUnits]
@[simp] theorem State.retireUnit_pending (x u : Nat) : (s.retireUnit x u).pending = s.pending := by simp [State.retireUnit]
@[simp] theorem State.retireUnits_pending (x : Nat) : (s.retireUnits x).pending = s.pending := by simp [State.retireUnits]
@[simp] theorem State.losePch_pending (p : Nat) : (s.losePch p).pending = s.pending := by simp [State.losePch]
@[simp] theorem State.emptyFor_pending (xs : List Nat) (i : Nat) : (s.emptyFor xs i).pending = s.pending := by simp [State.emptyFor]
@[simp] theorem State.loseCompute_pending : s.loseCompute.pending = s.pending := by simp [State.loseCompute]
@[simp] theorem State.unconfigure_pending (xs : List Nat) : (s.unconfigure xs).pending = s.pending := by simp [State.unconfigure]

@[simp] theorem State.resetBegin_pending (k : ResetKind) : (s.resetBegin k).pending = s.pending := by
  unfold State.resetBegin
  split <;> simp

@[simp] theorem State.resetRequest_pending (k : ResetKind) : (s.resetRequest k).pending = s.pending := by simp [State.resetRequest]
@[simp] theorem State.heldResets_pending : s.heldResets.pending = s.pending := by simp [State.heldResets]
@[simp] theorem State.mcodeOn_pending : s.mcodeOn.pending = s.pending := by simp [State.mcodeOn]

@[simp] theorem State.resetDone_pending (k : ResetKind) : (s.resetDone k).pending = s.pending := by
  unfold State.resetDone
  split <;> simp

@[simp] theorem State.loseStandby_pending : s.loseStandby.pending = s.pending := by simp [State.loseStandby]
@[simp] theorem State.losePark_pending : s.losePark.pending = s.pending := by simp [State.losePark]
@[simp] theorem State.enterLow_pending (n : Nat) : (s.enterLow n).pending = s.pending := by simp [State.enterLow]
@[simp] theorem State.exitBegin_pending (n : Nat) : (s.exitBegin n).pending = s.pending := by simp [State.exitBegin]
@[simp] theorem State.requestPower_pending (n : Nat) : (s.requestPower n).pending = s.pending := by simp [State.requestPower]
@[simp] theorem State.retireAll_pending (us : List Nat) : (s.retireAll us).pending = s.pending := by simp [State.retireAll]

@[simp] theorem State.powerDone_pending (retired : List Nat) : (s.powerDone retired).pending = s.pending := by
  unfold State.powerDone
  split <;> simp

/-! ### Operations of Machine/Beat.lean -/

@[simp] theorem State.beatEvent_pending : s.beatEvent.pending = s.pending := by simp [State.beatEvent]
@[simp] theorem State.holdover_pending : s.holdover.pending = s.pending := by simp [State.holdover]
@[simp] theorem State.retrainAll_pending : s.retrainAll.pending = s.pending := by simp [State.retrainAll]
@[simp] theorem State.lockBeat_pending (base : Nat) (via : Option Nat) :
    (s.lockBeat base via).pending = s.pending := by simp [State.lockBeat]

@[simp] theorem State.epochWord_pending (w : BitVec 96) : (s.epochWord w).pending = s.pending := by
  unfold State.epochWord
  split <;> simp

@[simp] theorem State.holdoverExpire_pending : s.holdoverExpire.pending = s.pending := by simp [State.holdoverExpire]

@[simp] theorem State.beatMark_pending (q field : Nat) : (s.beatMark q field).pending = s.pending := by
  unfold State.beatMark
  dsimp only
  (repeat' split) <;> simp

@[simp] theorem State.hear_pending (q type issuer value : Nat) : (s.hear q type issuer value).pending = s.pending := by simp [State.hear]

@[simp] theorem State.say_pending (type : Nat) : (s.say type).pending = s.pending := by
  unfold State.say
  split <;> simp

@[simp] theorem State.domainMsg_pending (type : Nat) (src : Option PortIx) (issuer : Fin 512) (value : BitVec 15) :
    (s.domainMsg type src issuer value).pending = s.pending := by
  unfold State.domainMsg
  split <;> simp

@[simp] theorem State.freezeBegin_pending : s.freezeBegin.pending = s.pending := by
  unfold State.freezeBegin
  split <;> simp

@[simp] theorem State.freezeEnd_pending : s.freezeEnd.pending = s.pending := by
  unfold State.freezeEnd
  split <;> simp

/-! ### Operations of Machine/Bond.lean -/

@[simp] theorem State.bondPending_pending : s.bondPending.pending = s.pending := by simp [State.bondPending]

@[simp] theorem State.bondRest_pending (h : Bytes) (ps : List Parsed) (l : List Section) : (s.bondRest h ps l).pending = s.pending := by
  unfold State.bondRest
  dsimp only
  (repeat' split) <;> simp

@[simp] theorem State.bondRead_pending (src : HostRead) : (s.bondRead src).pending = s.pending := by
  unfold State.bondRead
  (repeat' split) <;> simp

@[simp] theorem State.bondStart_pending : s.bondStart.pending = s.pending := by simp [State.bondStart]

/-! ### Operations of Machine/Boot.lean -/

@[simp] theorem State.scbLayout_pending : s.scbLayout.pending = s.pending := by simp [State.scbLayout]
@[simp] theorem State.moduleDown_pending (cold : Bool) : (s.moduleDown cold).pending = s.pending := by simp [State.moduleDown]

@[simp] theorem State.scbCold_pending : s.scbCold.pending = s.pending := by
  simp only [State.scbCold]
  split <;> simp

@[simp] theorem State.bootFail_pending (stage pier : Nat) : (s.bootFail stage pier).pending = s.pending := by simp [State.bootFail]

@[simp] theorem State.runImage_pending (b : Boot) (f : FwImage) (second fallback : Bool) :
    (s.runImage b f second fallback).pending = s.pending := by
  unfold State.runImage
  dsimp only
  (repeat' split) <;> simp

@[simp] theorem State.loadFacts_pending (facts : List (Nat × Nat × Nat)) : (s.loadFacts facts).pending = s.pending := by
  unfold State.loadFacts
  refine foldl_pending _ _ _ fun a e => ?_
  split <;> simp

@[simp] theorem State.showSteppings_pending (ps : List (Nat × Nat × Nat)) :
    (s.showSteppings ps).pending = s.pending := by simp [State.showSteppings]
@[simp] theorem State.bootBridge_pending (b : Nat) (r : BridgeBoot) : (s.bootBridge b r).pending = s.pending := by simp [State.bootBridge]
@[simp] theorem State.vertFail_pending (x g : Nat) : (s.vertFail x g).pending = s.pending := by simp [State.vertFail]
@[simp] theorem State.bootRetire_pending (reason : Nat) (xs : List Nat) :
    (s.bootRetire reason xs).pending = s.pending := by simp [State.bootRetire]
@[simp] theorem State.fuseFacts_pending (b : Boot) : (s.fuseFacts b).pending = s.pending := by simp [State.fuseFacts]
@[simp] theorem State.bootRoles_pending : s.bootRoles.pending = s.pending := by simp [State.bootRoles]
@[simp] theorem State.bootPort_pending (q : Nat) (r : Nat × TrainResult) : (s.bootPort q r).pending = s.pending := by simp [State.bootPort]

@[simp] theorem State.bootBeat_pending (b : Option (Option Nat × Nat)) : (s.bootBeat b).pending = s.pending := by
  unfold State.bootBeat
  split <;> simp

@[simp] theorem State.bootFinish_pending (b : Boot) (full : Bool) (f : FwImage) :
    (s.bootFinish b full f).pending = s.pending := by simp [State.bootFinish]

/-- Start-up from the fuses on leaves the queue alone, whether it comes to an end or goes back for the other image. A stage's value
is cleared once its queue is known, so that the kernel does not unfold the stages into one another. -/
theorem State.bringUp_pending (b : Boot) (f : FwImage) (units : List (Nat × Nat)) :
    (s.bringUp b f units).elim State.pending State.pending = s.pending := by
  unfold State.bringUp
  extract_lets full s1 life s2 s3 s4 s5 s6 s7 s8 quoin s9 s10 due s11 s12 s13 s14
  have fuses : s2.pending = s.pending := by simp [s2, s1]
  clear_value s2
  split
  · simpa using fuses
  split
  · simpa using fuses
  have facts : s5.pending = s.pending := by simp [s5, s4, s3, fuses]
  clear_value s5
  have bridges : s6.pending = s.pending := by simp (disch := intros; split <;> simp) [s6, facts]
  clear_value s6
  have repaired : s10.pending = s.pending := by simp [s10, s9, s8, s7, bridges]
  clear_value s10
  have microcode : s12.pending = s.pending := by simp [s12, s11, repaired]
  clear_value s12
  have ways : s13.pending = s.pending := by simp [s13, microcode]
  clear_value s13
  have ports : s14.pending = s.pending := by simp (disch := intros; split <;> simp) [s14, ways]
  clear_value s14
  split
  · exact repaired
  · simpa using ports

@[simp] theorem State.bootImage_pending (b : Boot) (f : FwImage) (second fallback : Bool) :
    (s.bootImage b f second fallback).pending = s.pending := by simp [State.bootImage]

theorem State.bringUp_inl_pending {s r : State} {b : Boot} {f : FwImage} {units : List (Nat × Nat)} (h : s.bringUp b f units = .inl r) :
    r.pending = s.pending := by
  have kept := s.bringUp_pending b f units
  rw [h] at kept
  exact kept

theorem State.bringUp_inr_pending {s r : State} {b : Boot} {f : FwImage} {units : List (Nat × Nat)} (h : s.bringUp b f units = .inr r) :
    r.pending = s.pending := by
  have kept := s.bringUp_pending b f units
  rw [h] at kept
  exact kept

@[simp] theorem State.bootOn_pending (b : Boot) : (s.bootOn b).pending = s.pending := by
  unfold State.bootOn
  split
  · rfl
  split
  · next e => exact State.bringUp_inl_pending e
  · next e =>
    have first := State.bringUp_inr_pending e
    dsimp only
    split
    · simpa using first
    split
    · next e => simpa [first] using State.bringUp_inl_pending e
    · next e => simpa [first] using State.bringUp_inr_pending e

@[simp] theorem State.startUp_pending (b : Boot) : (s.startUp b).pending = s.pending := by
  unfold State.startUp
  dsimp only
  (repeat' split) <;> simp

@[simp] theorem State.moduleReset_pending (cause : Nat) (b : Boot) :
    (s.moduleReset cause b).pending = s.pending := by simp [State.moduleReset]
@[simp] theorem State.coldStart_pending (b : Boot) : (s.coldStart b).pending = s.pending := by simp [State.coldStart]
@[simp] theorem State.mcodeChunk_pending (x u : Nat) (r : Bytes) : (s.mcodeChunk x u r).pending = s.pending := by simp [State.mcodeChunk]

/-! ### Operations of Machine/Thermal.lean -/

@[simp] theorem State.showFlow_pending : s.showFlow.pending = s.pending := by simp [State.showFlow]
@[simp] theorem State.showCoolant_pending : s.showCoolant.pending = s.pending := by simp [State.showCoolant]
@[simp] theorem State.showFast_pending (p : Nat) : (s.showFast p).pending = s.pending := by simp [State.showFast]
@[simp] theorem State.showPier_pending (p : Nat) : (s.showPier p).pending = s.pending := by simp [State.showPier]
@[simp] theorem State.chooseBand_pending (x : Nat) : (s.chooseBand x).pending = s.pending := by simp [State.chooseBand]

@[simp] theorem State.retireSensor_pending (i why : Nat) : (s.retireSensor i why).pending = s.pending := by
  simp only [State.retireSensor]
  split <;> simp

@[simp] theorem State.modelCheck_pending (p i : Nat) : (s.modelCheck p i).pending = s.pending := by simp [State.modelCheck]
@[simp] theorem State.ledgerSave_pending : s.ledgerSave.pending = s.pending := by simp [State.ledgerSave]
@[simp] theorem State.powerOff_pending (cause on : Nat) (trip : Bool) :
    (s.powerOff cause on trip).pending = s.pending := by simp [State.powerOff]
@[simp] theorem State.powerFail_pending : s.powerFail.pending = s.pending := by simp [State.powerFail]
@[simp] theorem State.trip_pending (i r : Nat) : (s.trip i r).pending = s.pending := by simp [State.trip]

@[simp] theorem State.showSite_pending (i : Nat) : (s.showSite i).pending = s.pending := by
  unfold State.showSite
  split <;> simp

@[simp] theorem State.sensorSample_pending (i : Nat) (reading : Option (BitVec 12)) : (s.sensorSample i reading).pending = s.pending := by
  unfold State.sensorSample
  split <;> simp

@[simp] theorem State.modelPier_pending (meas : ThermalMeas) (p : Nat) :
    (s.modelPier meas p).pending = s.pending := by simp [State.modelPier]

@[simp] theorem State.thermalUpdate_pending (meas : ThermalMeas) : (s.thermalUpdate meas).pending = s.pending := by
  have piers (l : List Nat) : (l.foldl (fun a p => a.modelPier meas p) s).pending = s.pending :=
    foldl_pending_of_eq _ _ _ fun a p _ e => (congrArg State.pending e).trans (State.modelPier_pending a meas p)
  rw [State.thermalUpdate]
  simp [-List.foldl_cons, piers]

@[simp] theorem State.setRth_pending (f : Fld) (p hot inlet mean : Nat) :
    (s.setRth f p hot inlet mean).pending = s.pending := by simp [State.setRth]
@[simp] theorem State.checkCooling_pending : s.checkCooling.pending = s.pending := by simp [State.checkCooling]
@[simp] theorem State.rthPier_pending (p : Nat) (w : RthWindow) : (s.rthPier p w).pending = s.pending := by simp [State.rthPier]

@[simp] theorem State.rthWindow_pending (win : List RthWindow) : (s.rthWindow win).pending = s.pending := by
  simp (disch := intros; split <;> simp) [State.rthWindow]

@[simp] theorem State.capLaw_pending (limit rth : Nat) : (s.capLaw limit rth).2.pending = s.pending := by
  unfold State.capLaw
  split <;> simp

@[simp] theorem State.capPier_pending (p : Nat) : (s.capPier p).pending = s.pending := by simp [State.capPier]
@[simp] theorem State.capUpdate_pending : s.capUpdate.pending = s.pending := by simp [State.capUpdate]
@[simp] theorem State.keepWarm_pending : s.keepWarm.pending = s.pending := by simp [State.keepWarm]
@[simp] theorem State.ledgerShow_pending (hours : Nat) : (s.ledgerShow hours).pending = s.pending := by simp [State.ledgerShow]
@[simp] theorem State.ledgerUpdate_pending (rails : List RailStress) (cycles : List Nat) (hours : Nat) :
    (s.ledgerUpdate rails cycles hours).pending = s.pending := by simp [State.ledgerUpdate]
@[simp] theorem State.inputRange_pending (v : Nat) : (s.inputRange v).pending = s.pending := by simp [State.inputRange]
@[simp] theorem State.phaseFail_pending (course : Bool) (p : Nat) : (s.phaseFail course p).pending = s.pending := by simp [State.phaseFail]
@[simp] theorem State.setPressure_pending (on : Bool) : (s.setPressure on).pending = s.pending := by simp [State.setPressure]

@[simp] theorem State.pressureOn_pending : s.pressureOn.pending = s.pending := by
  simp only [State.pressureOn]
  split <;> simp

@[simp] theorem State.dropResets_pending : s.dropResets.pending = s.pending := by simp [State.dropResets]
@[simp] theorem State.shutdown_pending : s.shutdown.pending = s.pending := by simp [State.shutdown]
@[simp] theorem State.commissionStart_pending : s.commissionStart.pending = s.pending := by simp [State.commissionStart]

@[simp] theorem State.commissionDone_pending (fit : Option (List Nat)) : (s.commissionDone fit).pending = s.pending := by
  unfold State.commissionDone
  (repeat' split) <;> simp

/-! ### Operations of Machine/Connector.lean -/

@[simp] theorem State.unmate_pending : s.unmate.pending = s.pending := by simp [State.unmate]

/-! ### Operations of Machine/HostOps.lean -/

@[simp] theorem State.ringErr_pending (cause : Nat) : (s.ringErr cause).pending = s.pending := by simp [State.ringErr]
@[simp] theorem State.ringClose_pending : s.ringClose.pending = s.pending := by simp [State.ringClose]
@[simp] theorem State.writeReply_pending (ok : Bool) (kind op seq tag code detail : Nat) :
    (s.writeReply ok kind op seq tag code detail).pending = s.pending := by simp [State.writeReply]

@[simp] theorem State.startStop_pending (slot frame : Nat) (start : Bool) : (s.startStop slot frame start).1.pending = s.pending := by
  unfold State.startStop
  dsimp only
  (repeat' split) <;> simp

@[simp] theorem State.finishSub_pending (u : Sub) : (s.finishSub u).pending = s.pending := by
  simp only [State.finishSub]
  split <;> simp

@[simp] theorem State.functionReset_pending : s.functionReset.pending = s.pending := by simp [State.functionReset]

/-! ### Operations of Machine/Host.lean -/

@[simp] theorem State.ringCtl_pending (v : Nat) : (s.ringCtl v).pending = s.pending := by simp [State.ringCtl]

@[simp] theorem State.fetchSub_pending (r : HostRead) : (s.fetchSub r).pending = s.pending := by
  unfold State.fetchSub
  dsimp only
  (repeat' split) <;> simp

@[simp] theorem State.runSub_pending (i op : Nat) (f : Bytes → State → State × Nat × Nat) (h : ∀ b, (f b s).1.pending = s.pending) :
    (s.runSub i op f).pending = s.pending := by
  unfold State.runSub
  split
  · rfl
  · simp [h]

@[simp] theorem State.sealedIn_pending (b : Bytes) (src : HostRead) : (s.sealedIn b src).1.pending = s.pending := by
  unfold State.sealedIn
  extract_lets r key n gs s1 full o m
  have moved : m.s.pending = s.pending := by simp [m, s1]
  clear_value m
  (repeat' split) <;> simp [moved]

@[simp] theorem State.plainIn_pending (b : Bytes) (src : HostRead) : (s.plainIn b src).1.pending = s.pending := by
  unfold State.plainIn
  dsimp only
  (repeat' split) <;> simp

@[simp] theorem State.toHost_pending (addr : Nat) (bs : Bytes) : (s.toHost addr bs).pending = s.pending := by simp [State.toHost]

@[simp] theorem State.outCopy_pending (b : Bytes) (failAt : Option Nat) (errs : List MemErr) :
    (s.outCopy b failAt errs).1.pending = s.pending := by
  unfold State.outCopy
  dsimp only
  (repeat' split) <;> simp

@[simp] theorem State.saveContext_pending (b : Bytes) (failAt : Option Nat) : (s.saveContext b failAt).1.pending = s.pending := by
  unfold State.saveContext
  dsimp only
  (repeat' split) <;> simp

@[simp] theorem State.winSend_pending (tag base : Nat) (write : Bool) (data : Bytes) (p : Nat × Nat) :
    (s.winSend tag base write data p).pending = s.pending := by
  unfold State.winSend
  (repeat' split) <;> simp

@[simp] theorem State.winRequest_pending (off len : Nat) (write : Bool) (data : Bytes) :
    (s.winRequest off len write data).pending = s.pending := by simp [State.winRequest]

/-! ### Operations of Machine/Margin.lean -/

@[simp] theorem State.marginBegin_pending : s.marginBegin.pending = s.pending := by
  unfold State.marginBegin
  split <;> simp

@[simp] theorem State.marginGo_pending (r : Option MarginRun) : (s.marginGo r).pending = s.pending := by
  unfold State.marginGo
  split <;> simp

@[simp] theorem State.marginStep_pending (pass : Bool) (worst spareErrs : Nat) :
    (s.marginStep pass worst spareErrs).pending = s.pending := by
  unfold State.marginStep
  split <;> simp

@[simp] theorem State.setLane_pending (lane v : Nat) : (s.setLane lane v).pending = s.pending := by simp [State.setLane]

@[simp] theorem State.laneMargin_pending (lane cmd : Nat) : (s.laneMargin lane cmd).pending = s.pending := by
  unfold State.laneMargin
  dsimp only
  (repeat' split) <;> simp

/-! ### Operations of Machine/Quoin.lean -/

@[simp] theorem State.quoDone_pending (code detail : Nat) : (s.quoDone code detail).pending = s.pending := by simp [State.quoDone]

@[simp] theorem State.quoCmd_pending (f : State → QuoRes) (h : (f s).1.pending = s.pending) : (s.quoCmd f).pending = s.pending := by
  simp [State.quoCmd, h]

@[simp] theorem State.quoInput_pending (len : Nat) (src : HostRead) (f : Bytes → QuoRes) (h : ∀ b, (f b).1.pending = s.pending) :
    (s.quoInput len src f).1.pending = s.pending := by
  unfold State.quoInput
  (repeat' split) <;> simp [h]

@[simp] theorem State.loadPackage_pending (b : Bytes) : (s.loadPackage b).1.pending = s.pending := by
  unfold State.loadPackage
  dsimp only
  (repeat' split) <;> simp

@[simp] theorem State.unsealBegin_pending (count : Nat) : (s.unsealBegin count).pending = s.pending := by simp [State.unsealBegin]
@[simp] theorem State.zeroGranules_pending (g n : Nat) : (s.zeroGranules g n).pending = s.pending := by simp [State.zeroGranules]

@[simp] theorem State.unsealEnd_pending : s.unsealEnd.pending = s.pending := by
  unfold State.unsealEnd
  split <;> simp

@[simp] theorem State.setOwner_pending (k : Option (BitVec 512)) : (s.setOwner k).pending = s.pending := by simp [State.setOwner]
@[simp] theorem State.retrainSessions_pending : s.retrainSessions.pending = s.pending := by simp [State.retrainSessions]

@[simp] theorem State.enrolKey_pending (b : Bytes) : (s.enrolKey b).1.pending = s.pending := by
  simp only [State.enrolKey]
  split <;> simp

@[simp] theorem State.releaseRecord_pending (boot : Boot) (b : Bytes) : (s.releaseRecord boot b).1.pending = s.pending := by
  unfold State.releaseRecord
  split <;> simp

@[simp] theorem State.showNonce_pending (v : Nat) (ok : Bool) : (s.showNonce v ok).pending = s.pending := by simp [State.showNonce]

@[simp] theorem State.drawNonce_pending : (s.drawNonce).1.pending = s.pending := by
  unfold State.drawNonce
  split <;> simp

@[simp] theorem State.openToken_pending (b : Bytes) : (s.openToken b).1.pending = s.pending := by
  simp only [State.openToken]
  split <;> simp

@[simp] theorem State.stageFw_pending (b : Bytes) : (s.stageFw b).1.pending = s.pending := by
  unfold State.stageFw
  split <;> simp

@[simp] theorem State.commitSvn_pending : (s.commitSvn).1.pending = s.pending := by
  unfold State.commitSvn
  (repeat' split) <;> simp

/-! ### Operations of Machine/Scorebook.lean -/

@[simp] theorem State.flushDone_pending (ok : Bool) : (s.flushDone ok).pending = s.pending := by
  unfold State.flushDone
  (repeat' split) <;> simp

@[simp] theorem State.scbRefill_pending (code : Nat) : (s.scbRefill code).pending = s.pending := by simp [State.scbRefill]
@[simp] theorem State.scbSetRate_pending (rate burst : Nat) : (s.scbSetRate rate burst).pending = s.pending := by simp [State.scbSetRate]

@[simp] theorem State.scbDataRead_pending (size off : Nat) : (s.scbDataRead size off).pending = s.pending := by
  simp only [State.scbDataRead]
  split <;> simp

/-! ### Operations of Machine/Registers.lean -/

@[simp] theorem State.rewritten_pending (f : Fld) : (s.rewritten f).pending = s.pending := by
  unfold State.rewritten
  (repeat' split) <;> simp

@[simp] theorem State.fieldWrite_pending (h : Hit) (w : WriteBits) (f : Fld) : (s.fieldWrite h w f).1.pending = s.pending := by
  unfold State.fieldWrite
  dsimp only
  (repeat' split) <;> simp

@[simp] theorem State.fieldsWrite_pending (h : Hit) (w : WriteBits) (l : List Fld) : (State.fieldsWrite h w l s).1.pending = s.pending := by
  induction l generalizing s with
  | nil => rfl
  | cons f r ih => simp [State.fieldsWrite, ih]

@[simp] theorem State.baseWritten_pending (x b : Nat) : (s.baseWritten x b).pending = s.pending := by simp [State.baseWritten]
@[simp] theorem State.attTrapAfresh_pending : s.attTrapAfresh.pending = s.pending := by simp [State.attTrapAfresh]
@[simp] theorem State.attAgain_pending : s.attAgain.pending = s.pending := by simp [State.attAgain]
@[simp] theorem State.portEnable_pending (q : Nat) : (s.portEnable q).pending = s.pending := by simp [State.portEnable]
@[simp] theorem State.afterWrite_pending (h : Hit) (w : WriteBits) : (s.afterWrite h w).pending = s.pending := by simp [State.afterWrite]

@[simp] theorem State.regWrite_pending (h : Hit) (w : WriteBits) : (s.regWrite h w).1.pending = s.pending := by
  unfold State.regWrite
  (repeat' split) <;> simp

@[simp] theorem State.viewWrite_pending (view : View) (off : Nat) (wide : Bool) (value : Nat) :
    (s.viewWrite view off wide value).pending = s.pending := by
  simp [State.viewWrite]

/-! ### Operations of Machine/Spdm.lean -/

@[simp] theorem State.sayTo_pending (tr : Transport) (b : Bytes) : (s.sayTo tr b).pending = s.pending := by simp [State.sayTo]
@[simp] theorem State.updConn_pending (tr : Transport) (f : Conn → Conn) : (s.updConn tr f).pending = s.pending := by simp [State.updConn]
@[simp] theorem State.setSessions_pending (l : List Session) : (s.setSessions l).pending = s.pending := by simp [State.setSessions]
@[simp] theorem State.draw256_pending : (s.draw256).2.pending = s.pending := by simp [State.draw256]
@[simp] theorem State.spdmTake_pending (tr : Transport) (req : Bytes) (lo hi n : Nat) (f : State) (h : f.pending = s.pending) :
    (s.spdmTake tr req lo hi n f).pending = s.pending := by simp [State.spdmTake, h]

@[simp] theorem State.spdmVersion_pending (tr : Transport) (req : Bytes) :
    (s.spdmVersion tr req).pending = s.pending := by simp [State.spdmVersion]
@[simp] theorem State.spdmCapabilities_pending (tr : Transport) (req : Bytes) :
    (s.spdmCapabilities tr req).pending = s.pending := by simp [State.spdmCapabilities]
@[simp] theorem State.spdmAlgorithms_pending (tr : Transport) (req : Bytes) :
    (s.spdmAlgorithms tr req).pending = s.pending := by simp [State.spdmAlgorithms]
@[simp] theorem State.spdmDigests_pending (tr : Transport) (req : Bytes) :
    (s.spdmDigests tr req).pending = s.pending := by simp [State.spdmDigests]
@[simp] theorem State.spdmCertificate_pending (tr : Transport) (req : Bytes) :
    (s.spdmCertificate tr req).pending = s.pending := by simp [State.spdmCertificate]
@[simp] theorem State.aliasSign_pending (context : String) (m : Bytes) :
    (s.aliasSign context m).2.pending = s.pending := by simp [State.aliasSign]
@[simp] theorem State.spdmChallengeNow_pending (tr : Transport) (req : Bytes) :
    (s.spdmChallengeNow tr req).pending = s.pending := by simp [State.spdmChallengeNow]
@[simp] theorem State.spdmMeasurementsNow_pending (tr : Transport) (req : Bytes) :
    (s.spdmMeasurementsNow tr req).pending = s.pending := by simp [State.spdmMeasurementsNow]
@[simp] theorem State.spdmKeyExchangeNow_pending (tr : Transport) (req : Bytes) :
    (s.spdmKeyExchangeNow tr req).pending = s.pending := by simp [State.spdmKeyExchangeNow]

@[simp] theorem State.spdmAnswer_pending (tr : Transport) (req : Bytes) : (s.spdmAnswer tr req).pending = s.pending := by
  unfold State.spdmAnswer
  (repeat' split) <;> simp

@[simp] theorem State.spdmMayDefer_pending (tr : Transport) (req : Bytes) :
    (s.spdmMayDefer tr req).pending = s.pending := by simp [State.spdmMayDefer]

@[simp] theorem State.spdmRespond_pending (tr : Transport) (req : Bytes) : (s.spdmRespond tr req).pending = s.pending := by
  refine State.spdmTake_pending s tr req 3 3 4 _ ?_
  split <;> simp

@[simp] theorem State.inSession_pending (tr : Transport) (req : Bytes) (done : Bool) (n : Nat) (f : Session → Bytes → State)
    (h : ∀ v m, (f v m).pending = s.pending) : (s.inSession tr req done n f).pending = s.pending := by
  refine State.spdmTake_pending s tr (req.drop 4) 3 3 n _ ?_
  split <;> simp [h]

@[simp] theorem State.updSession_pending (v : Session) : (s.updSession v).pending = s.pending := by simp [State.updSession]

@[simp] theorem State.spdmFinish_pending (tr : Transport) (req : Bytes) : (s.spdmFinish tr req).pending = s.pending := by
  simp [State.spdmFinish]

@[simp] theorem State.spdmBeat_pending (tr : Transport) (req : Bytes) : (s.spdmBeat tr req).pending = s.pending := by
  simp [State.spdmBeat]

@[simp] theorem State.spdmKeyUpdate_pending (tr : Transport) (req : Bytes) : (s.spdmKeyUpdate tr req).pending = s.pending := by
  simp [State.spdmKeyUpdate]

@[simp] theorem State.spdmEnd_pending (tr : Transport) (req : Bytes) : (s.spdmEnd tr req).pending = s.pending := by
  simp [State.spdmEnd]

/-! ### Operations of Machine/Twins.lean -/

@[simp] theorem State.pairWith_pending (r : PairRec) : (s.pairWith r).pending = s.pending := by simp [State.pairWith]
@[simp] theorem State.sendHeartbeats_pending : s.sendHeartbeats.pending = s.pending := by simp [State.sendHeartbeats]

@[simp] theorem State.heartbeatLate_pending : s.heartbeatLate.pending = s.pending := by
  unfold State.heartbeatLate
  split <;> simp

@[simp] theorem State.mirrorWrite_pending (a : Nat) (data : Bytes) (log : Bool) :
    (s.mirrorWrite a data log).pending = s.pending := by simp [State.mirrorWrite]

@[simp] theorem State.applyRecord_pending (r : Bytes) : (s.applyRecord r).pending = s.pending := by
  unfold State.applyRecord
  dsimp only
  (repeat' split) <;> simp

@[simp] theorem State.commitHeaders_pending (epoch : Nat) : (s.commitHeaders epoch).pending = s.pending := by simp [State.commitHeaders]
@[simp] theorem State.commitEpoch_pending (r : Bytes) : (s.commitEpoch r).pending = s.pending := by simp [State.commitEpoch]
@[simp] theorem State.rollBack_pending : s.rollBack.pending = s.pending := by simp [State.rollBack]
@[simp] theorem State.voidEpoch_pending : s.voidEpoch.pending = s.pending := by simp [State.voidEpoch]
@[simp] theorem State.takeHandover_pending (r : Bytes) : (s.takeHandover r).pending = s.pending := by simp [State.takeHandover]

@[simp] theorem State.inTurn_pending (r : Bytes) : (s.inTurn r).pending = s.pending := by
  unfold State.inTurn
  split <;> simp

@[simp] theorem State.drainLate_pending (n : Nat) : (State.drainLate n s).pending = s.pending := by
  induction n generalizing s with
  | zero => rfl
  | succ n ih =>
    unfold State.drainLate
    split <;> simp [ih]

@[simp] theorem State.recvRecord_pending (q kind : Nat) (r : Bytes) :
    (s.recvRecord q kind r).pending = s.pending := by simp [State.recvRecord]
@[simp] theorem State.pageConfirmed_pending (e : Nat × Nat × Nat) : (s.pageConfirmed e).pending = s.pending := by simp [State.pageConfirmed]
@[simp] theorem State.heardHeartbeat_pending (r : Bytes) : (s.heardHeartbeat r).pending = s.pending := by simp [State.heardHeartbeat]
@[simp] theorem State.deriveFree_pending (x h : Nat) : (s.deriveFree x h).pending = s.pending := by simp [State.deriveFree]
@[simp] theorem State.restoreTwin_pending (x h : Nat) : (s.restoreTwin x h).pending = s.pending := by simp [State.restoreTwin]
@[simp] theorem State.restoreSlotB_pending (x : Nat) : (s.restoreSlotB x).pending = s.pending := by simp [State.restoreSlotB]

@[simp] theorem State.takeoverRestored_pending : s.takeoverRestored.pending = s.pending := by
  unfold State.takeoverRestored
  extract_lets s1 duty f s2 s3 s4
  have back : s1.pending = s.pending := by simp [s1]
  clear_value s1
  have restored : s4.pending = s.pending := by simp [s4, s3, s2, back]
  clear_value s4
  (repeat' split) <;> simp [back, restored]

@[simp] theorem State.twinRelease_pending : s.twinRelease.pending = s.pending := by simp [State.twinRelease]

@[simp] theorem State.passTile_pending (q : State × Nat) (x : Nat) : (State.passTile q x).1.pending = q.1.pending := by
  simp [State.passTile]

@[simp] theorem State.backfillPass_pending : s.backfillPass.pending = s.pending := by
  simp [State.backfillPass]

end Sys2Proof.Machine
end

section
/-! SUPPORT. Every command answers a next state with the queue as it was: first the commands that choose between outcomes, then all. -/

namespace Sys2Proof.Machine

/-- What a command comes to is a next state with the queue of s. -/
def Answers (s : State) (r : Result) : Prop := ∃ s', r = .next s' ∧ s'.pending = s.pending

theorem Answers.next {s s' : State} (h : s'.pending = s.pending) : Answers s (.next s') := ⟨s', rfl, h⟩

/-- A word of a bank unit, by what the word does. -/
theorem Answers.word {s : State} {t x u op : Nat} {e : WordErr} {f : Nat → State → Except (State × Nat) State}
    (h : ∀ w, WordKeepsQueue (s.tick t) (f w (s.tick t))) : Answers s (.next ((s.tick t).wordStep x u op e f)) :=
  .next (State.wordStep_pending (s.tick t) x u op e f h)

/-- A submission, by what it does. -/
theorem Answers.sub {s : State} {t i op : Nat} {f : Bytes → State → State × Nat × Nat}
    (h : ∀ b, (f b (s.tick t)).1.pending = (s.tick t).pending) : Answers s (.next ((s.tick t).runSub i op f)) :=
  .next (State.runSub_pending (s.tick t) i op f h)

/-- A command of Quoin, by what it does. -/
theorem Answers.quo {s : State} {t : Nat} {f : State → QuoRes} (h : (f (s.tick t)).1.pending = (s.tick t).pending) :
    Answers s (.next ((s.tick t).quoCmd f)) := .next (State.quoCmd_pending (s.tick t) f h)

variable (s : State)

/-! ### Commands that choose between outcomes -/

theorem execThreadStart_answers (t : Nat) (x : TileIx) (mask : BitVec 4) : Answers s (execThreadStart t x mask s) := by
  unfold execThreadStart
  dsimp only
  split <;> exact .next (by simp)

theorem execThreadStop_answers (t : Nat) (x : TileIx) (mask : BitVec 4) : Answers s (execThreadStop t x mask s) := by
  unfold execThreadStop
  dsimp only
  split <;> exact .next (by simp)

theorem execTstoreZeroingDone_answers (t : Nat) (x : TileIx) : Answers s (execTstoreZeroingDone t x s) := by
  unfold execTstoreZeroingDone
  dsimp only
  split <;> exact .next (by simp)

theorem execArrayPassFault_answers (t : Nat) (x : TileIx) (k : ThreadIx) (col : Nat) (parity : Bool) :
    Answers s (execArrayPassFault t x k col parity s) := by
  unfold execArrayPassFault
  dsimp only
  split <;> exact .next (by simp)

theorem execWeightParityIdle_answers (t : Nat) (x : TileIx) (k : ThreadIx) : Answers s (execWeightParityIdle t x k s) := by
  unfold execWeightParityIdle
  dsimp only
  split <;> exact .next (by simp)

theorem execMvFault_answers (t : Nat) (x : TileIx) (vec : Fin 16) : Answers s (execMvFault t x vec s) := by
  unfold execMvFault
  dsimp only
  split <;> exact .next (by simp)

theorem execShadowWriteThrough_answers (t : Nat) (x : TileIx) (h : HeadIx) : Answers s (execShadowWriteThrough t x h s) := by
  unfold execShadowWriteThrough
  dsimp only
  split <;> exact .next (by simp)

theorem execKvShadowRestore_answers (t : Nat) (x : TileIx) (h : HeadIx) : Answers s (execKvShadowRestore t x h s) := by
  unfold execKvShadowRestore
  dsimp only
  split <;> exact .next (by simp)

theorem execScrubStart_answers (t : Nat) (x : TileIx) (value : Word32) : Answers s (execScrubStart t x value s) := by
  unfold execScrubStart
  dsimp only
  (repeat' split) <;> exact .next (by simp)

theorem execFlipMaskArm_answers (t : Nat) (x : TileIx) (value : Word64) : Answers s (execFlipMaskArm t x value s) := by
  unfold execFlipMaskArm
  dsimp only
  split <;> exact .next (by simp)

theorem execPchInval_answers (t : Nat) (p : PierIx) (value : Word64) : Answers s (execPchInval t p value s) := by
  unfold execPchInval
  dsimp only
  split <;> exact .next (by simp)

theorem execPchInvalDone_answers (t : Nat) (p : PierIx) : Answers s (execPchInvalDone t p s) := by
  unfold execPchInvalDone
  dsimp only
  split <;> exact .next (by simp)

theorem execBkuSync_answers (t : Nat) (x : TileIx) : Answers s (execBkuSync t x s) := by
  unfold execBkuSync
  dsimp only
  split
  · exact .next (by simp)
  · next h =>
    have kept := State.takeSlot_pending h
    split <;> exact .next (by simpa using kept)

theorem execBkuAbort_answers (t : Nat) (x : TileIx) : Answers s (execBkuAbort t x s) := by
  unfold execBkuAbort
  dsimp only
  split
  · exact .next (by simp)
  · next h => exact .next (by simpa using State.takeSlot_pending h)

theorem execBkuCommandAreaWrite_answers (t : Nat) (x : TileIx) : Answers s (execBkuCommandAreaWrite t x s) := by
  unfold execBkuCommandAreaWrite
  dsimp only
  split <;> exact .next (by simp)

theorem execBkuSequenceBegin_answers (t : Nat) (x : TileIx) : Answers s (execBkuSequenceBegin t x s) := by
  unfold execBkuSequenceBegin
  dsimp only
  split <;> exact .next (by simp)

theorem execProgWordsWrite_answers (t : Nat) (x : TileIx) : Answers s (execProgWordsWrite t x s) := by
  unfold execProgWordsWrite
  dsimp only
  split <;> exact .next (by simp)

theorem execBkuLd_answers (t : Nat) (x : TileIx) (u : UnitIx) (e : WordErr) (errs : List MemErr) :
    Answers s (execBkuLd t x u e errs s) := by
  refine .word fun w => ?_
  dsimp only
  (repeat' split) <;> simp [WordKeepsQueue]

theorem execBkuSt_answers (t : Nat) (x : TileIx) (u : UnitIx) (e : WordErr) : Answers s (execBkuSt t x u e s) := by
  refine .word fun w => ?_
  (repeat' split) <;> simp [WordKeepsQueue]

theorem execBkuCvt_answers (t : Nat) (x : TileIx) (u : UnitIx) (e : WordErr) : Answers s (execBkuCvt t x u e s) := by
  refine .word fun w => ?_
  (repeat' split) <;> simp [WordKeepsQueue]

theorem execChout_answers (t : Nat) (x : TileIx) (u : UnitIx) (e : WordErr) : Answers s (execChout t x u e s) := by
  refine .word fun w => ?_
  split
  · exact rfl
  · next h => exact State.chainSend_pending h

theorem execChin_answers (t : Nat) (x : TileIx) (u : UnitIx) (e : WordErr) : Answers s (execChin t x u e s) := by
  refine .word fun w => ?_
  (repeat' split) <;> simp [WordKeepsQueue]

theorem execChadd_answers (t : Nat) (x : TileIx) (u : UnitIx) (e : WordErr) : Answers s (execChadd t x u e s) := by
  refine .word fun w => ?_
  dsimp only
  split
  · exact rfl
  split
  · exact rfl
  · next h => simpa [WordKeepsQueue] using State.chainSend_pending h

theorem execBkuLoop_answers (t : Nat) (x : TileIx) (u : UnitIx) (e : WordErr) : Answers s (execBkuLoop t x u e s) := by
  unfold execBkuLoop
  dsimp only
  split <;> exact .next (by simp)

theorem execChainArrive_answers (t : Nat) (x : TileIx) (u : UnitIx) : Answers s (execChainArrive t x u s) := by
  unfold execChainArrive
  dsimp only
  split <;> exact .next (by simp)

theorem execDrawWrite_answers (t : Nat) (x : TileIx) : Answers s (execDrawWrite t x s) := by
  unfold execDrawWrite
  dsimp only
  split <;> exact .next (by simp)

theorem execCopyIn_answers (t i : Nat) (src : HostRead) : Answers s (execCopyIn t i src s) := by
  refine .sub fun b => ?_
  split <;> simp

theorem execActivate_answers (t i : Nat) (src : HostRead) : Answers s (execActivate t i src s) := by
  refine .sub fun b => ?_
  dsimp only
  (repeat' split) <;> simp

theorem execSubSave_answers (t i : Nat) (failAt : Option Nat) : Answers s (execSubSave t i failAt s) := by
  unfold execSubSave
  dsimp only
  split <;> exact .next (by simp)

theorem execSubRestore_answers (t i : Nat) (src : HostRead) : Answers s (execSubRestore t i src s) := by
  refine .sub fun b => ?_
  dsimp only
  (repeat' split) <;> simp

theorem execReplyRecord_answers (t : Nat) (ok : Bool) : Answers s (execReplyRecord t ok s) := by
  unfold execReplyRecord
  dsimp only
  split <;> exact .next (by simp)

theorem execWindowReadDeadline_answers (t i : Nat) : Answers s (execWindowReadDeadline t i s) := by
  unfold execWindowReadDeadline
  dsimp only
  split <;> exact .next (by simp)

theorem execBoostIntervalEnd_answers (t : Nat) : Answers s (execBoostIntervalEnd t s) := by
  unfold execBoostIntervalEnd
  dsimp only
  split <;> exact .next (by simp)

theorem execEvictKey_answers (t : Nat) (slot : BitVec 6) : Answers s (execEvictKey t slot s) := by
  refine .quo ?_
  split <;> simp

theorem execQuoExtend_answers (t len : Nat) (reg : BitVec 6) (src : HostRead) : Answers s (execQuoExtend t len reg src s) := by
  refine .quo (State.quoInput_pending _ _ _ _ fun b => ?_)
  (repeat' split) <;> simp

theorem execPrechargeStart_answers (t : Nat) : Answers s (execPrechargeStart t s) := by
  unfold execPrechargeStart
  dsimp only
  split <;> exact .next (by simp)

theorem execTripLatchRelease_answers (t : Nat) : Answers s (execTripLatchRelease t s) := by
  unfold execTripLatchRelease
  dsimp only
  split <;> exact .next (by simp)

/-! ### All commands -/

/-- Every other command is `.next` of a chain of operations, each of which leaves the queue alone. -/
theorem exec_answers (c : Instr) : Answers s (exec c s) := by
  cases c
  case threadStart => exact execThreadStart_answers ..
  case threadStop => exact execThreadStop_answers ..
  case tstoreZeroingDone => exact execTstoreZeroingDone_answers ..
  case arrayPassFault => exact execArrayPassFault_answers ..
  case weightParityIdle => exact execWeightParityIdle_answers ..
  case mvFault => exact execMvFault_answers ..
  case shadowWriteThrough => exact execShadowWriteThrough_answers ..
  case kvShadowRestore => exact execKvShadowRestore_answers ..
  case scrubStart => exact execScrubStart_answers ..
  case flipMaskArm => exact execFlipMaskArm_answers ..
  case pchInval => exact execPchInval_answers ..
  case pchInvalDone => exact execPchInvalDone_answers ..
  case bkuSync => exact execBkuSync_answers ..
  case bkuAbort => exact execBkuAbort_answers ..
  case bkuCommandAreaWrite => exact execBkuCommandAreaWrite_answers ..
  case bkuSequenceBegin => exact execBkuSequenceBegin_answers ..
  case progWordsWrite => exact execProgWordsWrite_answers ..
  case bkuLd => exact execBkuLd_answers ..
  case bkuSt => exact execBkuSt_answers ..
  case bkuCvt => exact execBkuCvt_answers ..
  case bkuMov => exact .word fun _ => by simp [WordKeepsQueue]
  case chout => exact execChout_answers ..
  case chin => exact execChin_answers ..
  case chadd => exact execChadd_answers ..
  case bkuSet => exact .word fun _ => by simp [WordKeepsQueue]
  case bkuSadd => exact .word fun _ => by simp [WordKeepsQueue]
  case bkuLoop => exact execBkuLoop_answers ..
  case bkuEnd => exact .word fun _ => by simp [WordKeepsQueue]
  case bkuWait => exact .word fun _ => by simp [WordKeepsQueue]
  case chainArrive => exact execChainArrive_answers ..
  case drawWrite => exact execDrawWrite_answers ..
  case copyIn => exact execCopyIn_answers ..
  case activate => exact execActivate_answers ..
  case subSave => exact execSubSave_answers ..
  case subRestore => exact execSubRestore_answers ..
  case replyRecord => exact execReplyRecord_answers ..
  case windowReadDeadline => exact execWindowReadDeadline_answers ..
  case boostIntervalEnd => exact execBoostIntervalEnd_answers ..
  case evictKey => exact execEvictKey_answers ..
  case quoExtend => exact execQuoExtend_answers ..
  case prechargeStart => exact execPrechargeStart_answers ..
  case tripLatchRelease => exact execTripLatchRelease_answers ..
  all_goals exact .next (by simp)

end Sys2Proof.Machine
end

section
/-! SUPPORT. The module before power-good, and the front of the queue. -/

namespace Sys2Proof.Machine

/-- A Reset value fits its field: a number lies below 2 to the field's width, and so does every index below 13. -/
def Fld.rstFits (f : Fld) : Bool :=
  match f.rst with
  | .num n => decide (n % 2 ^ 64 < 2 ^ f.w)
  | .own => decide (13 ≤ 2 ^ f.w)

theorem allFields_rstFits : ∀ f ∈ allFields, f.rstFits = true := by decide +kernel

theorem State.rd_reset (f : Fld) (i : Nat) : State.reset.rd f i = (f.dflt i).toNat % 2 ^ f.w := rfl

theorem State.rd_reset_of_rstFits {f : Fld} (h : f.rstFits = true) (i : Nat) :
    State.reset.rd f i = match f.rst with | .num n => n % 2 ^ 64 | .own => i % 13 := by
  unfold Fld.rstFits at h
  rw [State.rd_reset, Fld.dflt]
  cases hr : f.rst with
  | num n =>
    simp only [hr, decide_eq_true_eq] at h
    simp only [BitVec.toNat_ofNat, Nat.mod_eq_of_lt h]
  | own =>
    simp only [hr, decide_eq_true_eq] at h
    have small : i % 13 < 13 := Nat.mod_lt _ (by omega)
    simp only [BitVec.toNat_ofNat]
    rw [Nat.mod_eq_of_lt (by omega : i % 13 < 2 ^ 64), Nat.mod_eq_of_lt (by omega)]

theorem State.running_reset (x k : Nat) : State.reset.running x k = false := Nat.zero_testBit k

theorem State.meas_reset (n : Nat) : State.reset.quoin.meas.getD n 0 = 0 := by
  change (List.replicate 16 (0 : BitVec 256)).getD n 0 = 0
  rw [List.getD_eq_getElem?_getD, List.getElem?_replicate]
  split <;> rfl

theorem step_of_pending_cons (c : Instr) (r : List Instr) (s : State) :
    step { s with pending := c :: r } = exec c { s with pending := r } := rfl

theorem step_of_pending_nil {s : State} (h : s.pending = []) : step s = .next s := by simp only [step, h]

/-! ### Two changes of one event, one of them of a part that no record of the floor plan has -/

/-- Link 0, and link 65,536, which does not exist: the copies of a field are kept 65,536 apart, so that FP_LINK_PORT of link 65,536 lies where
FP_LINK_STATE of link 0 does. -/
def farLinkItems : List FpItem := [⟨3, 0, 0, 0, 0⟩, ⟨3, 65536, 0, 0, 0⟩]

/-- The module before power-good but for a valid floor plan and the two items. -/
def farLinkState : State := { State.reset.wr F.SYS_FP_STATUS_VALID 0 1 with fpPend := farLinkItems }

/-- The port number 65,536 of the second entry, taken to 8 bits, stands where the state of link 0 should. -/
theorem farLinkState_shown : (farLinkState.tick 0).fpChange.rd F.FP_LINK_STATE 0 = 0 := by decide +kernel

end Sys2Proof.Machine
end

section
namespace Sys2Proof
open Machine

/-- Settles O1, by the two cases of the queue. -/
theorem stepRunsFrontCommand : Obligations.StepRunsFrontCommand := ⟨step_of_pending_cons, fun _ h => step_of_pending_nil h⟩

/-- Settles O58: a field that nothing has written reads its Reset value, which fits it; everything else is the reset state as written. -/
theorem resetState : Obligations.ResetState := by
  unfold Obligations.ResetState
  exact ⟨fun f hf i => State.rd_reset_of_rstFits (allFields_rstFits f hf) i, rfl, fun _ => rfl, fun _ _ => rfl, ⟨rfl, rfl⟩,
    fun x k => ⟨State.running_reset x k, rfl⟩, fun _ => rfl, rfl, rfl, rfl, rfl, State.meas_reset, rfl, rfl, rfl, rfl, rfl⟩

/-- Settles O60, by the cases of the commands. -/
theorem everyCommandAnswers : Obligations.EveryCommandAnswers := fun c s => exec_answers s c

/-- Refutes O35 by its last clause: the items of one event may name any part, and an item of link 65,536 behind one of link 0 overwrites the
FP_LINK_STATE that the item of link 0 has just shown. LNK_STATUS.STATE of port 0 is 3 (UNTRAINED) before power-good, and FP_LINK_STATE reads 0. -/
theorem not_registerWrites : ¬ Obligations.RegisterWrites := by
  unfold Obligations.RegisterWrites
  rintro ⟨-, change⟩
  obtain ⟨-, taken⟩ := change 0 farLinkState
  obtain ⟨s', next, -, -, -, -, -, shown⟩ := taken 0 farLinkItems [] rfl (by decide) (by decide) (by decide)
  obtain rfl : (farLinkState.tick 0).fpChange = s' := by injection next
  obtain ⟨-, -, -, entries⟩ := shown (by decide +kernel)
  obtain ⟨-, link, -⟩ := entries ⟨3, 0, 0, 0, 0⟩ (by decide)
  have state : 0 = 3 := farLinkState_shown.symm.trans (link rfl (by decide))
  exact absurd state (by decide)

end Sys2Proof
end

section
/-! SUPPORT. What a CVT does: its operations one by one, and the state at its end. -/

namespace Sys2Proof.Machine

/-! ### Changes of the register file and of one tile -/

/-- Outside the register file and tile x the state is as it was. -/
def ConfinedTo (x : Nat) (s s' : State) : Prop := KeepsTiles x s s' ∧ s' = { s with fv := s'.fv, tiles := s'.tiles }

theorem ConfinedTo.refl (x : Nat) (s : State) : ConfinedTo x s s := ⟨fun _ _ => rfl, rfl⟩

theorem ConfinedTo.updTile {x : Nat} {s s' : State} (h : ConfinedTo x s s') (f : Tile → Tile) : ConfinedTo x s (s'.updTile x f) := by
  obtain ⟨tiles, rest⟩ := h
  refine ⟨fun y hy => (State.tile_updTile_ne s' f hy).trans (tiles y hy), ?_⟩
  rw [rest]; rfl

theorem ConfinedTo.regs {x : Nat} {s a b : State} (h : ConfinedTo x s a) (g : SameButRegs a b) : ConfinedTo x s b := by
  obtain ⟨tiles, rest⟩ := h
  refine ⟨fun y hy => (g.tile y).trans (tiles y hy), ?_⟩
  unfold SameButRegs at g
  rw [g, rest]

/-! ### The operations of a CVT -/

theorem State.takeSlot_of_find {s : State} {x : Nat} {p : Slot → Bool} {sl : Slot} (h : (s.tile x).eng.slots.find? p = some sl) :
    s.takeSlot x p = some (sl, s.updEng x (fun e => { e with slots := e.slots.erase sl })) := by
  simp [State.takeSlot, h]

@[simp] theorem State.tile_setFlags (s : State) (x k : Nat) (fl : Flags) (y : Nat) : (s.setFlags x k fl).tile y = s.tile y :=
  (State.setFlags_regs s x k fl).tile y

theorem State.rd_setFlags_of_mem {g : Nat × Fld} (hg : g ∈ numFlags) (s : State) (x k : Nat) (fl : Flags) :
    (s.setFlags x k fl).rd g.2 (x * 4 + k) = if fl.testBit g.1 then 1 else s.rd g.2 (x * 4 + k) := by
  obtain ⟨inexact, nan, saturated, special, overflow⟩ := State.setFlags_rd s x k fl
  simp only [numFlags, List.mem_cons, List.not_mem_nil, or_false] at hg
  rcases hg with rfl | rfl | rfl | rfl | rfl
  · exact inexact
  · exact nan
  · exact saturated
  · exact special
  · exact overflow

@[simp] theorem State.rd_vecPush (s : State) (x dst due : Nat) (lanes : List Nat) (f : Fld) (i : Nat) :
    (s.vecPush x dst due lanes).rd f i = s.rd f i := rfl

@[simp] theorem State.tile_vecPush_same (s : State) (x dst due : Nat) (lanes : List Nat) :
    (s.vecPush x dst due lanes).tile x =
      { s.tile x with eng := { (s.tile x).eng with vec := (s.tile x).eng.vec ++ [⟨dst, due, lanes⟩] } } := by
  simp [State.vecPush]

@[simp] theorem State.ctx_updEng (s : State) (x : Nat) (f : Engine → Engine) (k : Nat) : (s.updEng x f).ctx x k = s.ctx x k := by
  simp [State.ctx]

@[simp] theorem State.ctx_setFlags (s : State) (x k : Nat) (fl : Flags) (n : Nat) : (s.setFlags x k fl).ctx x n = s.ctx x n := by
  simp [State.ctx]

@[simp] theorem State.ctx_vecPush (s : State) (x dst due : Nat) (lanes : List Nat) (k : Nat) :
    (s.vecPush x dst due lanes).ctx x k = s.ctx x k := State.ctx_updEng s x _ k

/-- The element index of a thread's context moved on by n values where ROUND is 2 (R237). -/
def State.cvtAdvance (s : State) (x k round n : Nat) : State :=
  if round = 2 then s.updCtx x k (fun c => { c with e := (c.e + n) % 2 ^ 64 }) else s

@[simp] theorem State.rd_cvtAdvance (s : State) (x k round n : Nat) (f : Fld) (i : Nat) :
    (s.cvtAdvance x k round n).rd f i = s.rd f i := by
  unfold State.cvtAdvance
  split <;> simp

@[simp] theorem State.eng_cvtAdvance (s : State) (x k round n : Nat) : ((s.cvtAdvance x k round n).tile x).eng = (s.tile x).eng := by
  unfold State.cvtAdvance
  split <;> simp

theorem State.ctx_cvtAdvance (s : State) (x k round n : Nat) :
    (s.cvtAdvance x k round n).ctx x k =
      if round = 2 then { s.ctx x k with e := ((s.ctx x k).e + n) % 2 ^ 64 } else s.ctx x k := by
  unfold State.cvtAdvance
  split <;> simp [State.ctx]

theorem ConfinedTo.cvtAdvance {x : Nat} {s s' : State} (h : ConfinedTo x s s') (k round n : Nat) :
    ConfinedTo x s (s'.cvtAdvance x k round n) := by
  unfold State.cvtAdvance
  split
  · exact h.updTile _
  · exact h

/-- The scales or side words of a result on their way to a register, where it has any (R88). -/
def State.vecPushSide (s : State) (x dst due : Nat) : Option Nat → State
  | some sd => s.vecPush x dst due (streamLanes sd)
  | none => s

@[simp] theorem State.rd_vecPushSide (s : State) (x dst due : Nat) (side : Option Nat) (f : Fld) (i : Nat) :
    (s.vecPushSide x dst due side).rd f i = s.rd f i := by
  cases side <;> rfl

@[simp] theorem State.ctx_vecPushSide (s : State) (x dst due : Nat) (side : Option Nat) (k : Nat) :
    (s.vecPushSide x dst due side).ctx x k = s.ctx x k := by
  cases side <;> simp [State.vecPushSide]

theorem State.vec_vecPushSide (s : State) (x dst due : Nat) (side : Option Nat) :
    ((s.vecPushSide x dst due side).tile x).eng.vec =
      (s.tile x).eng.vec ++ side.toList.map (fun sd => ⟨dst, due, streamLanes sd⟩) := by
  cases side <;> simp [State.vecPushSide]

theorem ConfinedTo.vecPushSide {x : Nat} {s s' : State} (h : ConfinedTo x s s') (dst due : Nat) (side : Option Nat) :
    ConfinedTo x s (s'.vecPushSide x dst due side) := by
  cases side with
  | none => exact h
  | some sd => exact h.updTile _

/-! ### The end of a CVT -/

/-- The state after a CVT of n values whose result r holds no sum out of range (R88, R237). -/
def State.cvtEnd (s : State) (x : Nat) (sl : Slot) (n : Nat) (r : CvtRes) : State :=
  ((((s.updEng x (fun e => { e with slots := e.slots.erase sl })).cvtAdvance x sl.k (bitsAt (vImm sl.word) 17 2) n).vecPush
    x (vDst sl.word) (sl.cyc + 4) (streamLanes r.data)).setFlags x sl.k r.flags).vecPushSide x (vDst sl.word + 1) (sl.cyc + 4) r.side

section
variable (s : State) (x : Nat) (sl : Slot) (n : Nat) (r : CvtRes)

theorem State.cvtEnd_vec :
    ((s.cvtEnd x sl n r).tile x).eng.vec = (s.tile x).eng.vec ++ ⟨vDst sl.word, sl.cyc + 4, streamLanes r.data⟩ ::
      r.side.toList.map (fun sd => ⟨vDst sl.word + 1, sl.cyc + 4, streamLanes sd⟩) := by
  simp [State.cvtEnd, State.vec_vecPushSide]

theorem State.cvtEnd_ctx :
    (s.cvtEnd x sl n r).ctx x sl.k =
      if bitsAt (vImm sl.word) 17 2 = 2 then { s.ctx x sl.k with e := ((s.ctx x sl.k).e + n) % 2 ^ 64 } else s.ctx x sl.k := by
  simp [State.cvtEnd, State.ctx_cvtAdvance]

theorem State.cvtEnd_numFlags {g : Nat × Fld} (hg : g ∈ numFlags) :
    (s.cvtEnd x sl n r).rd g.2 (x * 4 + sl.k) = if r.flags.testBit g.1 then 1 else s.rd g.2 (x * 4 + sl.k) := by
  simp [State.cvtEnd, State.rd_setFlags_of_mem hg]

theorem State.cvtEnd_keepsRegs : KeepsRegs (numFlags.map (fun g => (g.2, x * 4 + sl.k))) s (s.cvtEnd x sl n r) := by
  intro f i hf
  simp [State.cvtEnd, State.setFlags_keeps _ x sl.k r.flags f i hf]

theorem State.cvtEnd_confined : ConfinedTo x s (s.cvtEnd x sl n r) :=
  (((((ConfinedTo.refl x s).updTile _).cvtAdvance _ _ _).updTile _).regs (State.setFlags_regs _ _ _ _)).vecPushSide _ _ _

end

/-- A CVT without a sum out of range takes up its slot and ends in `cvtEnd` (R88, R95). -/
theorem State.cvtRun_of_ovf_none {s : State} {x : Nat} {sl : Slot} {src dst : Fmt} {r : CvtRes}
    (slot : (s.tile x).eng.slots.find? (fun l => l.kind == 2 && vOp l.word == 0x08) = some sl)
    (source : cvtSrc (vForm sl.word) (vImm sl.word) = some src) (target : fmtOfCode (bitsAt (vImm sl.word) 0 8) = some dst)
    (result : cvt src dst ((vImm sl.word).testBit 16)
      (s.cvtModes x sl.k (if dst = .ls128 then 0 else bitsAt (vImm sl.word) 17 2) (cvtCount src dst) dst) (bitsAt (vImm sl.word) 24 8)
      (regStream (s.vreg x (vA sl.word))) (if fmtHasSide src then regStream (s.vreg x (vA sl.word + 1)) else 0) = r)
    (ovf : r.ovf = none) : s.cvtRun x = s.cvtEnd x sl (cvtCount src dst) r := by
  unfold State.cvtRun
  rw [State.takeSlot_of_find slot]
  simp only [source, target, result, ovf]
  unfold State.cvtEnd State.cvtAdvance
  cases r.side <;> rfl

end Sys2Proof.Machine
end

section
namespace Sys2Proof
open Machine

/-- Settles O5: the run ends in `State.cvtEnd`, whose parts are read off one by one. -/
theorem vectorConversions : Obligations.VectorConversions := by
  unfold Obligations.VectorConversions
  intro t x s sl src dst slot imm source target u n round side r ovf
  have run : u.cvtRun x = u.cvtEnd x sl n r := State.cvtRun_of_ovf_none slot source target rfl ovf
  obtain ⟨tiles, rest⟩ := State.cvtEnd_confined u x sl n r
  refine ⟨u.cvtEnd x sl n r, congrArg Host.Outcome.next run, (State.cvtEnd_vec u x sl n r).trans ?_, State.cvtEnd_ctx u x sl n r,
    fun g hg => State.cvtEnd_numFlags u x sl n r hg, State.cvtEnd_keepsRegs u x sl n r, tiles, rest⟩
  cases r.side <;> rfl

end Sys2Proof
end

section
/-! SUPPORT. How a pass of the matrix array begins: its part, its registers, and what it leaves alone. -/

namespace Sys2Proof.Machine

/-! ### Parts of a tile and sets of register writes -/

@[simp] theorem State.part_wr (s : State) (f : Fld) (i n x k : Nat) : (s.wr f i n).part x k = s.part x k := rfl
@[simp] theorem State.part_tick (s : State) (t x k : Nat) : (s.tick t).part x k = s.part x k := rfl
@[simp] theorem State.part_updEng (s : State) (x : Nat) (g : Engine → Engine) (k : Nat) : (s.updEng x g).part x k = s.part x k := by
  simp [State.part]

theorem State.tsRead_updTile (s : State) (y : Nat) (g : Tile → Tile) (x a n : Nat) : (s.updTile y g).tsRead x a n = s.tsRead x a n := by
  induction n generalizing a with
  | zero => rfl
  | succ n ih => simp [State.tsRead, ih]

@[simp] theorem State.arrDesc_updEng (s : State) (y : Nat) (g : Engine → Engine) (x j : Nat) :
    (s.updEng y g).arrDesc x j = s.arrDesc x j := congrArg leVal (State.tsRead_updTile s y _ x _ 64)

/-- The order in which register writes are listed does not matter. -/
theorem Sets.of_mem_iff {w w' : List (Fld × Nat × Nat)} {s s' : State} (h : Sets w s s') (same : ∀ e, e ∈ w' ↔ e ∈ w) : Sets w' s s' := by
  obtain ⟨listed, others⟩ := h
  refine ⟨fun e he => listed e ((same e).1 he), others.mono fun g hg => ?_⟩
  obtain ⟨e, he, rfl⟩ := List.mem_map.1 hg
  exact List.mem_map.2 ⟨e, (same e).2 he, rfl⟩

/-- Copies of fields of different numbers are different entries of the register file. -/
theorem Fld.key_ne {f g : Fld} {i j : Nat} (id : f.id ≠ g.id) (hi : i < 65536) (hj : j < 65536) : f.key i ≠ g.key j := by
  unfold Fld.key
  omega

/-- So are the copies of one index of fields of different numbers. -/
theorem Fld.key_ne_same {f g : Fld} (id : f.id ≠ g.id) (i : Nat) : f.key i ≠ g.key i := by
  unfold Fld.key
  omega

/-! ### SWAP and the start of a pass (R105, R113) -/

/-- SWAP makes the shadow weights the active ones (R105). -/
def State.swapWeights (s : State) (x k : Nat) (swap : Bool) : State :=
  if swap then ((s.wr F.ARR_STATUS_SHADOW_VALID (x * 4 + k) 0).wr F.ARR_STATUS_ACTIVE_VALID (x * 4 + k) 1).updPart x k
    (fun p => { p with active := p.shadow })
  else s

/-- The registers that SWAP sets. -/
def swapSets (i : Nat) (swap : Bool) : List (Fld × Nat × Nat) :=
  if swap then [(F.ARR_STATUS_SHADOW_VALID, i, 0), (F.ARR_STATUS_ACTIVE_VALID, i, 1)] else []

/-- A partition after a PASS: SWAP, then a new pass unless the descriptor has no rows, inputs or outputs (R105, R113). -/
def Part.begin (p : Part) (cyc d j : Nat) (swap : Bool) : Part :=
  let act := if swap then p.shadow else p.active
  let empty := pdRows d = 0 ∨ pdK d = 0 ∨ pdN d = 0
  { p with
    active := act, streamEnd := if empty then cyc else cyc + pdSpan d,
    passes := if empty then p.passes else p.passes ++ [⟨cyc, d, j, act, []⟩] }

section
variable (s : State) (x k cyc j : Nat) (swap : Bool)

theorem State.part_swapWeights_same :
    (s.swapWeights x k swap).part x k = { s.part x k with active := if swap then (s.part x k).shadow else (s.part x k).active } := by
  cases swap <;> simp [State.swapWeights]

theorem State.part_swapWeights_ne {n : Nat} (h : n ≠ k) : (s.swapWeights x k swap).part x n = s.part x n := by
  cases swap <;> simp [State.swapWeights, State.part_updPart_ne _ _ _ _ h]

@[simp] theorem State.eng_swapWeights : ((s.swapWeights x k swap).tile x).eng = (s.tile x).eng := by
  cases swap <;> simp [State.swapWeights]

theorem State.swapWeights_sets : Sets (swapSets (x * 4 + k) swap) s (s.swapWeights x k swap) := by
  cases swap with
  | false => exact Sets.refl s
  | true =>
    have chain := ((Sets.refl s).wr F.ARR_STATUS_SHADOW_VALID (x * 4 + k) 0 (by decide) (by simp)).wr F.ARR_STATUS_ACTIVE_VALID (x * 4 + k) 1
      (by decide) (by simpa using Fld.key_ne_same (by decide) _)
    exact (chain.of_fv (b := s.swapWeights x k true) rfl).of_mem_iff (by simp [swapSets, F.ARR_STATUS_ACTIVE_VALID, or_comm])

theorem ConfinedTo.swapWeights {s s' : State} (h : ConfinedTo x s s') : ConfinedTo x s (s'.swapWeights x k swap) := by
  cases swap with
  | false => exact h
  | true => exact (h.regs ((SameButRegs.refl s').wr _ _ _ |>.wr _ _ _)).updTile _

/-- A PASS is SWAP, the descriptor's index in the status register, and the change of its partition. -/
theorem State.passStart_eq :
    s.passStart x k cyc j swap =
      let d := s.arrDesc x j
      let u := ((s.swapWeights x k swap).wr F.ARR_STATUS_DESC_INDEX (x * 4 + k) j).updPart x k (fun p => { p with streamEnd := cyc + pdSpan d })
      u.updPart x k (fun p => if pdRows d = 0 ∨ pdK d = 0 ∨ pdN d = 0 then { p with streamEnd := cyc }
        else { p with passes := p.passes ++ [⟨cyc, d, j, p.active, []⟩] }) := by
  unfold State.passStart State.swapWeights
  by_cases empty : pdRows (s.arrDesc x j) = 0 ∨ pdK (s.arrDesc x j) = 0 ∨ pdN (s.arrDesc x j) = 0
  · simp only [empty, if_true]
  · simp only [empty, if_false]

theorem State.part_passStart_same : (s.passStart x k cyc j swap).part x k = (s.part x k).begin cyc (s.arrDesc x j) j swap := by
  rw [State.passStart_eq]
  simp only [State.part_updPart_same, State.part_wr, State.part_swapWeights_same, Part.begin]
  split <;> rfl

theorem State.part_passStart_ne {n : Nat} (h : n ≠ k) : (s.passStart x k cyc j swap).part x n = s.part x n := by
  rw [State.passStart_eq]
  simp only [State.part_updPart_ne _ _ _ _ h, State.part_wr, State.part_swapWeights_ne _ _ _ _ h]

@[simp] theorem State.eng_passStart : ((s.passStart x k cyc j swap).tile x).eng = (s.tile x).eng := by
  simp [State.passStart_eq]

theorem State.passStart_sets :
    Sets ((F.ARR_STATUS_DESC_INDEX, x * 4 + k, j % 2 ^ 16) :: swapSets (x * 4 + k) swap) s (s.passStart x k cyc j swap) := by
  rw [State.passStart_eq]
  refine ((State.swapWeights_sets s x k swap).wr F.ARR_STATUS_DESC_INDEX (x * 4 + k) j (by decide) ?_).of_fv rfl
  cases swap with
  | false => simp [swapSets]
  | true => simpa [swapSets] using ⟨Fld.key_ne_same (by decide) _, Fld.key_ne_same (by decide) _⟩

theorem ConfinedTo.passStart {s s' : State} (h : ConfinedTo x s s') : ConfinedTo x s (s'.passStart x k cyc j swap) := by
  rw [State.passStart_eq]
  exact (((h.swapWeights x k swap).regs ((SameButRegs.refl _).wr _ _ _)).updTile _).updTile _

end

/-- A PASS takes up its slot and begins (R105). -/
theorem State.arrayRun_pass_of_find {s : State} {x : Nat} {sl : Slot} (errs : List MemErr)
    (slot : (s.tile x).eng.slots.find? (fun l => l.kind == 0 && asCmd l.word == 2) = some sl) :
    s.arrayRun x 2 errs =
      (s.updEng x (fun e => { e with slots := e.slots.erase sl })).passStart x sl.k sl.cyc (asDesc sl.word) (asSwap sl.word) := by
  unfold State.arrayRun
  rw [State.takeSlot_of_find slot]
  rfl

theorem asDesc_mod (w : Nat) : asDesc w % 2 ^ 16 = asDesc w := Nat.mod_mod _ _

end Sys2Proof.Machine
end

section
namespace Sys2Proof
open Machine

/-- Settles O9: the slot leaves its engine, and the rest is `State.passStart`. -/
theorem arrayPasses : Obligations.ArrayPasses := by
  unfold Obligations.ArrayPasses
  intro t x s sl slot u i d p act empty
  let v := u.updEng x (fun e => { e with slots := e.slots.erase sl })
  have run : u.arrayRun x 2 [] = v.passStart x sl.k sl.cyc (asDesc sl.word) (asSwap sl.word) := State.arrayRun_pass_of_find [] slot
  have begun := State.part_passStart_same v x sl.k sl.cyc (asDesc sl.word) (asSwap sl.word)
  have sets := State.passStart_sets v x sl.k sl.cyc (asDesc sl.word) (asSwap sl.word)
  rw [asDesc_mod] at sets
  obtain ⟨tiles, rest⟩ := ((ConfinedTo.refl x.val u).updTile _).passStart (s' := v) x sl.k sl.cyc (asDesc sl.word) (asSwap sl.word)
  refine ⟨_, congrArg Host.Outcome.next run, begun.trans ?_, fun n hn => ?_, sets.from_fv rfl, ?_, tiles, rest⟩
  · simp only [v, State.part_updEng, State.arrDesc_updEng]; rfl
  · simp [v, State.part_passStart_ne _ _ _ _ _ _ hn]
  · simp [v, u]

end Sys2Proof
end

section
/-! SUPPORT. What a trap of a thread that holds none changes (R62, R63, R71): its tile's engine and the bits RUNNING and START. -/

namespace Sys2Proof.Machine

/-! ### One bit of a register -/

/-- Clearing a bit of a number: what lies above it and what lies below. -/
theorem putBits_zero (n b : Nat) : putBits n b 1 0 = 2 ^ b * (2 * (n / 2 ^ (b + 1))) + n % 2 ^ b := by
  have whole : n = 2 ^ b * (n / 2 ^ b) + n % 2 ^ b := (Nat.div_add_mod n (2 ^ b)).symm
  have half : n / 2 ^ b = 2 * (n / 2 ^ (b + 1)) + n / 2 ^ b % 2 := by
    rw [Nat.pow_succ, ← Nat.div_div_eq_div_mul]
    omega
  have cut : putBits n b 1 0 = n - 2 ^ b * (n / 2 ^ b % 2) := by
    simp [putBits, bitsAt, Nat.shiftRight_eq_div_pow, Nat.shiftLeft_eq, Nat.mul_comm]
  have split : 2 ^ b * (n / 2 ^ b) = 2 ^ b * (2 * (n / 2 ^ (b + 1))) + 2 ^ b * (n / 2 ^ b % 2) := by
    rw [← Nat.mul_add, ← half]
  omega

theorem testBit_putBits_zero (n b c : Nat) : (putBits n b 1 0).testBit c = (n.testBit c && decide (c ≠ b)) := by
  have small : n % 2 ^ b < 2 ^ b := Nat.mod_lt _ (Nat.two_pow_pos b)
  rw [putBits_zero, Nat.testBit_two_pow_mul_add _ small]
  rcases Nat.lt_trichotomy c b with below | rfl | above
  · simp [below, Nat.testBit_mod_two_pow, Nat.ne_of_lt below]
  · simp
  · obtain ⟨d, rfl⟩ := Nat.exists_eq_add_of_lt above
    have high : n.testBit (b + d + 1) = (n / 2 ^ (b + 1)).testBit d := by
      rw [Nat.testBit_div_two_pow]
      congr 1
      omega
    have shift : b + d + 1 - b = d + 1 := by omega
    have doubled : (2 * (n / 2 ^ (b + 1))).testBit (d + 1) = (n / 2 ^ (b + 1)).testBit d := by simp [Nat.testBit_succ]
    rw [if_neg (Nat.not_lt_of_lt above), shift, doubled, high, decide_eq_true (Nat.ne_of_gt above), Bool.and_true]

theorem State.testBit_rd_lt {s : State} {f : Fld} {i c : Nat} (h : (s.rd f i).testBit c = true) : c < f.w := by
  simp only [State.rd, Nat.testBit_mod_two_pow, Bool.and_eq_true, decide_eq_true_eq] at h
  exact h.1

/-- A bit of a field cleared reads as 0, and every other bit as before. -/
theorem State.testBit_rd_wrBit_false (s : State) (f : Fld) (i b c : Nat) (h : f.w ≤ 64) :
    ((s.wrBit f i b false).rd f i).testBit c = ((s.rd f i).testBit c && decide (c ≠ b)) := by
  have written : (s.wrBit f i b false).rd f i = putBits (s.rd f i) b 1 0 % 2 ^ f.w := State.rd_wr_same s f i _ h
  rw [written, Nat.testBit_mod_two_pow, testBit_putBits_zero]
  cases set : (s.rd f i).testBit c with
  | false => simp
  | true => simp [State.testBit_rd_lt set]

theorem satAdd_lt (w c n : Nat) : satAdd w c n < 2 ^ w := by
  have := Nat.two_pow_pos w
  unfold satAdd
  omega

theorem State.rd_sat_same (s : State) (f : Fld) (i n : Nat) (h : f.w ≤ 64) : (s.sat f i n).rd f i = satAdd f.w (s.rd f i) n :=
  (State.rd_wr_same s f i _ h).trans (Nat.mod_eq_of_lt (satAdd_lt _ _ _))

/-! ### Registers that keep their values -/

theorem State.rd_of_fv {a b : State} (h : b.fv = a.fv) (f : Fld) (i : Nat) : b.rd f i = a.rd f i := by
  unfold State.rd
  rw [h]

theorem KeepsRegs.of_fv {w : List (Fld × Nat)} {s a b : State} (h : KeepsRegs w s a) (e : b.fv = a.fv) : KeepsRegs w s b :=
  fun f i hf => (State.rd_of_fv e f i).trans (h f i hf)

/-- A write of one of the fields that may change. -/
theorem KeepsRegs.wr {fs : List Fld} {j : Nat} {s s' : State} (h : KeepsRegs (fs.map (·, j)) s s') {g : Fld} (hg : g ∈ fs) (n : Nat) :
    KeepsRegs (fs.map (·, j)) s (s'.wr g j n) :=
  State.keeps_wr _ _ _ g j n (List.mem_map.2 ⟨(g, j), List.mem_map_of_mem hg, rfl⟩) h

/-- A field of a number that no field that may change has reads as before. -/
theorem KeepsRegs.rd_of_id {fs : List Fld} {j : Nat} {s s' : State} (h : KeepsRegs (fs.map (·, j)) s s') {f : Fld} {i : Nat}
    (id : f.id ∉ fs.map Fld.id) (hi : i < 65536) (hj : j < 65536) : s'.rd f i = s.rd f i := by
  refine h f i fun hm => ?_
  obtain ⟨e, he, hk⟩ := List.mem_map.1 hm
  obtain ⟨g, hg, rfl⟩ := List.mem_map.1 he
  have other : f.id ≠ g.id := fun e => id (e ▸ List.mem_map_of_mem hg)
  exact Fld.key_ne other hi hj hk.symm

/-! ### Changes confined to a tile's engine -/

/-- Outside the register file and the engine of tile x the state is as it was. -/
def EngineOnly (x : Nat) (s s' : State) : Prop := ConfinedTo x s s' ∧ s'.tile x = { s.tile x with eng := (s'.tile x).eng }

theorem ConfinedTo.trans {x : Nat} {a b c : State} (h : ConfinedTo x a b) (g : ConfinedTo x b c) : ConfinedTo x a c := by
  obtain ⟨tiles, rest⟩ := h
  obtain ⟨tiles', rest'⟩ := g
  exact ⟨tiles.trans tiles', by rw [rest', rest]⟩

theorem ConfinedTo.beatNow {x : Nat} {s s' : State} (h : ConfinedTo x s s') : s'.beatNow = s.beatNow := by rw [h.2]; rfl
theorem ConfinedTo.now {x : Nat} {s s' : State} (h : ConfinedTo x s s') : s'.now = s.now := h.2 ▸ rfl

theorem EngineOnly.refl (x : Nat) (s : State) : EngineOnly x s s := ⟨ConfinedTo.refl x s, rfl⟩

theorem EngineOnly.trans {x : Nat} {a b c : State} (h : EngineOnly x a b) (g : EngineOnly x b c) : EngineOnly x a c := by
  obtain ⟨confined, tile⟩ := h
  obtain ⟨confined', tile'⟩ := g
  exact ⟨confined.trans confined', by rw [tile', tile]⟩

theorem EngineOnly.updEng (x : Nat) (s : State) (f : Engine → Engine) : EngineOnly x s (s.updEng x f) :=
  ⟨(ConfinedTo.refl x s).updTile _, by simp⟩

theorem EngineOnly.wr (x : Nat) (s : State) (f : Fld) (i n : Nat) : EngineOnly x s (s.wr f i n) :=
  ⟨(ConfinedTo.refl x s).regs ((SameButRegs.refl s).wr f i n), rfl⟩

theorem EngineOnly.foldl {β : Type} {x : Nat} (g : State → β → State) (h : ∀ a b, EngineOnly x a (g a b)) (l : List β) (s : State) :
    EngineOnly x s (l.foldl g s) := by
  induction l generalizing s with
  | nil => exact EngineOnly.refl x s
  | cons b r ih => exact (h s b).trans (ih (g s b))

theorem EngineOnly.part {x : Nat} {s s' : State} (h : EngineOnly x s s') (k : Nat) : s'.part x k = s.part x k := by
  unfold State.part
  rw [h.2]

/-! ### A thread stopped (R71), and its channels halted (R61) -/

/-- The register fields of a tile that the stop of a thread changes. -/
def stopFlds : List Fld := [F.SEQ_THREAD_CTL_RUNNING, F.SEQ_THREAD_CTL_START]

section
variable (s : State) (x k : Nat)

theorem State.running_stopThread (n : Nat) : (s.stopThread x k).running x n = (s.running x n && decide (n ≠ k)) := by
  have kept : (s.stopThread x k).rd F.SEQ_THREAD_CTL_RUNNING x = (s.wrBit F.SEQ_THREAD_CTL_RUNNING x k false).rd F.SEQ_THREAD_CTL_RUNNING x :=
    State.rd_wr_ne _ _ _ _ _ _ (Fld.key_ne_same (by decide) x)
  unfold State.running
  rw [kept, State.testBit_rd_wrBit_false _ _ _ _ _ (by decide)]

theorem State.started_stopThread (n : Nat) : (s.stopThread x k).started x n = (s.started x n && decide (n ≠ k)) := by
  have before : (s.wrBit F.SEQ_THREAD_CTL_RUNNING x k false).rd F.SEQ_THREAD_CTL_START x = s.rd F.SEQ_THREAD_CTL_START x :=
    State.rd_wr_ne _ _ _ _ _ _ (Fld.key_ne_same (by decide) x)
  have written : (s.stopThread x k).rd F.SEQ_THREAD_CTL_START x =
      ((s.wrBit F.SEQ_THREAD_CTL_RUNNING x k false).wrBit F.SEQ_THREAD_CTL_START x k false).rd F.SEQ_THREAD_CTL_START x := rfl
  unfold State.started
  rw [written, State.testBit_rd_wrBit_false _ _ _ _ _ (by decide), before]

theorem State.stopThread_keepsRegs : KeepsRegs (stopFlds.map (·, x)) s (s.stopThread x k) :=
  (((State.keeps_refl _ s).wr (by decide) _).wr (by decide) _).of_fv rfl

theorem State.stopThread_engineOnly : EngineOnly x s (s.stopThread x k) :=
  ((EngineOnly.wr x s _ _ _).trans (EngineOnly.wr x _ _ _ _)).trans (EngineOnly.updEng x _ _)

theorem State.trap_stopThread : ((s.stopThread x k).thread x k).trap = (s.thread x k).trap := by
  simp [State.stopThread, State.wrBit]

theorem State.thread_stopThread_ne {n : Nat} (h : n ≠ k) : (s.stopThread x k).thread x n = s.thread x n := by
  simp [State.stopThread, State.wrBit, State.thread_updThread_ne _ _ _ h]

theorem State.haltChans_fv (code : Nat) : (s.haltChans x k code).fv = s.fv := by
  unfold State.haltChans
  refine (foldl_keep State.fv _ _ _ fun a c => ?_).trans rfl
  split <;> rfl

theorem State.haltChans_engineOnly (code : Nat) : EngineOnly x s (s.haltChans x k code) := by
  unfold State.haltChans
  refine (EngineOnly.updEng x s _).trans (EngineOnly.foldl _ (fun a c => ?_) _ _)
  split
  · exact EngineOnly.updEng x a _
  · exact EngineOnly.refl x a

theorem State.thread_haltChans (code n : Nat) : (s.haltChans x k code).thread x n = s.thread x n := by
  unfold State.haltChans
  refine (foldl_keep (fun a => a.thread x n) _ _ _ fun a c => ?_).trans (by simp [State.thread])
  split
  · simp [State.thread]
  · rfl

end

/-! ### The trap of one thread (R62, R63) -/

/-- Changes of a thread that agree on the thread as it stands agree on the state. -/
theorem State.updThread_congr {s : State} {x k : Nat} {f g : Thread → Thread} (h : f (s.thread x k) = g (s.thread x k)) :
    s.updThread x k f = s.updThread x k g := by
  unfold State.thread State.tile at h
  simp only [State.updThread, State.updEng, State.updTile, Tab.upd, h]

theorem State.undoStart_of_save {s : State} {x k : Nat} (h : (s.thread x k).save = none) : s.undoStart x k = s := by
  simp [State.undoStart, h]

section
variable {s : State} {x k : Nat} (free : Untrapped s x k) (code info : Nat) (shared multi : Bool) (idx : Nat)
include free

theorem State.trapThread_of_untrapped :
    s.trapThread x k code info shared multi idx = ((s.stopThread x k).haltChans x k code).updThread x k
      (fun h => { h with trap := some ⟨code, info, shared, multi, idx, s.beatNow, s.now⟩ }) := by
  obtain ⟨noTrap, noSave, noRecord⟩ := free
  have none : (((s.stopThread x k).haltChans x k code).thread x k).trap = none := by
    rw [State.thread_haltChans, State.trap_stopThread, noTrap]
  simp only [State.trapThread, State.undoStart_of_save noSave, noRecord, bne_self_eq_false, Bool.false_eq_true, if_false]
  exact State.updThread_congr (by simp only [none])

theorem State.trap_trapThread :
    ((s.trapThread x k code info shared multi idx).thread x k).trap = some ⟨code, info, shared, multi, idx, s.beatNow, s.now⟩ := by
  rw [State.trapThread_of_untrapped free, State.thread_updThread_same]

theorem State.thread_trapThread_ne {n : Nat} (h : n ≠ k) : (s.trapThread x k code info shared multi idx).thread x n = s.thread x n := by
  rw [State.trapThread_of_untrapped free, State.thread_updThread_ne _ _ _ h, State.thread_haltChans, State.thread_stopThread_ne _ _ _ h]

theorem State.trapThread_fv : (s.trapThread x k code info shared multi idx).fv = (s.stopThread x k).fv := by
  rw [State.trapThread_of_untrapped free]
  exact State.haltChans_fv _ _ _ _

theorem State.running_trapThread (n : Nat) : (s.trapThread x k code info shared multi idx).running x n = (s.running x n && decide (n ≠ k)) :=
  (congrArg (·.testBit n) (State.rd_of_fv (State.trapThread_fv free ..) _ _)).trans (State.running_stopThread s x k n)

theorem State.started_trapThread (n : Nat) : (s.trapThread x k code info shared multi idx).started x n = (s.started x n && decide (n ≠ k)) :=
  (congrArg (·.testBit n) (State.rd_of_fv (State.trapThread_fv free ..) _ _)).trans (State.started_stopThread s x k n)

/-- The trapped thread is stopped, with its record to be written. -/
theorem State.trapThread_trapsWith :
    TrapsWith s (s.trapThread x k code info shared false (s.thread x k).last) x k code info shared :=
  ⟨State.trap_trapThread free .., by simp [State.running_trapThread free], by simp [State.started_trapThread free]⟩

end

/-! ### Traps of some threads of a tile -/

/-- What traps of threads of tile x that hold none may change: the tile's engine, RUNNING and START, and these only from 1 to 0. -/
structure TrapFrame (x : Nat) (s s' : State) : Prop where
  engine : EngineOnly x s s'
  regs : KeepsRegs (stopFlds.map (·, x)) s s'
  running : ∀ n, s.running x n = false → s'.running x n = false
  started : ∀ n, s.started x n = false → s'.started x n = false

theorem TrapFrame.refl (x : Nat) (s : State) : TrapFrame x s s := ⟨EngineOnly.refl x s, State.keeps_refl _ s, fun _ => id, fun _ => id⟩

theorem TrapFrame.trans {x : Nat} {a b c : State} (h : TrapFrame x a b) (g : TrapFrame x b c) : TrapFrame x a c :=
  ⟨h.engine.trans g.engine, h.regs.trans g.regs, fun n => g.running n ∘ h.running n, fun n => g.started n ∘ h.started n⟩

theorem State.trapThread_frame {s : State} {x k : Nat} (free : Untrapped s x k) (code info : Nat) (shared multi : Bool) (idx : Nat) :
    TrapFrame x s (s.trapThread x k code info shared multi idx) where
  engine := by
    rw [State.trapThread_of_untrapped free]
    exact ((State.stopThread_engineOnly s x k).trans (State.haltChans_engineOnly _ x k code)).trans (EngineOnly.updEng x _ _)
  regs := (State.stopThread_keepsRegs s x k).of_fv (State.trapThread_fv free ..)
  running n h := by simp [State.running_trapThread free, h]
  started n h := by simp [State.started_trapThread free, h]

/-- A thread without a trap still has none after a change that leaves it and its record alone. -/
theorem Untrapped.of_same {s s' : State} {x k : Nat} (free : Untrapped s x k) (thread : s'.thread x k = s.thread x k)
    (record : s'.rd F.SEQ_TRAP_CODE (x * 4 + k) = s.rd F.SEQ_TRAP_CODE (x * 4 + k)) : Untrapped s' x k := by
  unfold Untrapped at *
  rwa [thread, record]

/-- A trap reads the same from any earlier state of the same cycle in which its thread was the same. -/
theorem TrapsWith.of_before {s a s' : State} {x k code info : Nat} {shared : Bool} (trap : TrapsWith a s' x k code info shared)
    (thread : a.thread x k = s.thread x k) (beat : a.beatNow = s.beatNow) (now : a.now = s.now) :
    TrapsWith s s' x k code info shared := by
  unfold TrapsWith at *
  rwa [thread, beat, now] at trap

/-- A trap stands after the traps of other threads. -/
theorem TrapsWith.of_after {s a s' : State} {x k code info : Nat} {shared : Bool} (trap : TrapsWith s a x k code info shared)
    (thread : s'.thread x k = a.thread x k) (frame : TrapFrame x a s') : TrapsWith s s' x k code info shared := by
  obtain ⟨record, running, started⟩ := trap
  exact ⟨(congrArg Thread.trap thread).trans record, frame.running k running, frame.started k started⟩

/-- One trap found by a unit at work is a trap of its thread alone (R73). -/
theorem State.trapOne_eq (s : State) (x k code info : Nat) :
    s.trapOne x k code info = s.trapThread x k code info false false (s.thread x k).last := by
  simp [State.trapOne, State.raise, lowestTrap]

/-- The traps of those threads of a list that meet a test. -/
def State.trapEach (s : State) (x code info : Nat) (on : Nat → Bool) (l : List Nat) : State :=
  l.foldl (fun a n => if on n then a.trapThread x n code info true false (a.thread x n).last else a) s

theorem State.trapAll_eq (s : State) (x code info : Nat) :
    s.trapAll x code info =
      s.trapEach x code info (fun n => s.running x n || s.started x n || s.trapped x n) (List.range (s.threadCount x)) := rfl

/-- Traps of different threads that hold none: each is trapped, and the others are as they were. -/
theorem State.trapEach_spec {x : Nat} (code info : Nat) (on : Nat → Bool) (l : List Nat) (s : State) (distinct : l.Nodup)
    (free : ∀ n ∈ l, on n = true → Untrapped s x n) (bound : ∀ n ∈ l, x * 4 + n < 65536) :
    TrapFrame x s (s.trapEach x code info on l) ∧
    (∀ n, (n ∈ l → on n = false) → (s.trapEach x code info on l).thread x n = s.thread x n) ∧
    (∀ n ∈ l, on n = true → TrapsWith s (s.trapEach x code info on l) x n code info true) := by
  induction l generalizing s with
  | nil => exact ⟨TrapFrame.refl x s, fun _ _ => rfl, nofun⟩
  | cons m r ih =>
    obtain ⟨fresh, distinct⟩ := List.nodup_cons.1 distinct
    let a := if on m then s.trapThread x m code info true false (s.thread x m).last else s
    have frame : TrapFrame x s a := by
      by_cases hm : on m = true
      · simpa [a, hm] using State.trapThread_frame (free m (by simp) hm) ..
      · simpa [a, hm] using TrapFrame.refl x s
    have others : ∀ n, (n = m → on n = false) → a.thread x n = s.thread x n := by
      intro n off
      by_cases hm : on m = true
      · have ne : n ≠ m := by rintro rfl; simp [off rfl] at hm
        simpa [a, hm] using State.thread_trapThread_ne (free m (by simp) hm) _ _ _ _ _ ne
      · simp [a, hm]
    have ne : ∀ n ∈ r, n ≠ m := fun n hn e => fresh (e ▸ hn)
    have later : ∀ n ∈ r, a.thread x n = s.thread x n := fun n hn => others n fun e => absurd e (ne n hn)
    have small : x < 65536 := by
      have := bound m (by simp)
      omega
    have stillFree : ∀ n ∈ r, on n = true → Untrapped a x n := fun n hn hon =>
      Untrapped.of_same (free n (by simp [hn]) hon) (later n hn) (frame.regs.rd_of_id (by decide) (bound n (by simp [hn])) small)
    obtain ⟨frame', others', trapped⟩ := ih a distinct stillFree fun n hn => bound n (by simp [hn])
    have run : s.trapEach x code info on (m :: r) = a.trapEach x code info on r := rfl
    rw [run]
    refine ⟨frame.trans frame', fun n off => ?_, fun n hn hon => ?_⟩
    · exact (others' n fun hn => off (by simp [hn])).trans (others n fun e => off (by simp [e]))
    · rcases List.mem_cons.1 hn with rfl | hn
      · have first : TrapsWith s a x n code info true := by simpa [a, hon] using State.trapThread_trapsWith (free n (by simp) hon) code info true
        exact TrapsWith.of_after first (others' n fun hn => absurd hn fresh) frame'
      · exact TrapsWith.of_before (trapped n hn hon) (later n hn) frame.engine.1.beatNow frame.engine.1.now

end Sys2Proof.Machine
end

section
/-! SUPPORT. What an occurrence recorded in the Scorebook changes (R461, R464, R467): the Scorebook and its own registers. -/

namespace Sys2Proof.Machine

/-- Outside the Scorebook and the registers of its own state the state is as it was. -/
def ScbOnly (s s' : State) : Prop := s' = { s with fv := s'.fv, scb := s'.scb } ∧ KeepsRegs (scbFlds.map (·, 0)) s s'

theorem ScbOnly.refl (s : State) : ScbOnly s s := ⟨rfl, State.keeps_refl _ s⟩

theorem ScbOnly.trans {a b c : State} (h : ScbOnly a b) (g : ScbOnly b c) : ScbOnly a c := by
  obtain ⟨rest, regs⟩ := h
  obtain ⟨rest', regs'⟩ := g
  exact ⟨by rw [rest', rest], regs.trans regs'⟩

theorem ScbOnly.tiles {s s' : State} (h : ScbOnly s s') : s'.tiles = s.tiles := h.1 ▸ rfl

theorem ScbOnly.ite (c : Prop) [Decidable c] {s a b : State} (h : ScbOnly s a) (g : ScbOnly s b) : ScbOnly s (if c then a else b) := by
  split <;> assumption

theorem ScbOnly.wr {f : Fld} (hf : f ∈ scbFlds) (s : State) (n : Nat) : ScbOnly s (s.wr f 0 n) :=
  ⟨rfl, (State.keeps_refl _ s).wr hf n⟩

theorem ScbOnly.scb (s : State) (c : Scb) : ScbOnly s { s with scb := c } := ⟨rfl, (State.keeps_refl _ s).of_fv rfl⟩

theorem State.scbLand_scbOnly (s : State) (a : Aside) : ScbOnly s (s.scbLand a) :=
  .ite _ (.scb s _) (.wr (by decide) s _)

theorem State.scbDrain_scbOnly (l : List Aside) (s : State) : ScbOnly s (State.scbDrain l s) := by
  induction l generalizing s with
  | nil => exact .refl s
  | cons a r ih => exact (s.scbLand_scbOnly a).trans (ih _)

theorem State.scbThawNow_scbOnly (s : State) (auto : Bool) : ScbOnly s (s.scbThawNow auto) := by
  unfold State.scbThawNow
  exact ((((ScbOnly.scb s _).trans (State.scbDrain_scbOnly _ _)).trans (.wr (by decide) _ _)).trans (.wr (by decide) _ _)).trans
    (.wr (by decide) _ _) |>.trans (.wr (by decide) _ _)

theorem State.scbFlushBegin_scbOnly (s : State) (reason : Nat) : ScbOnly s (s.scbFlushBegin reason) :=
  (ScbOnly.scb s _).trans (.wr (by decide) _ _)

theorem State.scbTrigger_scbOnly (s : State) (reason : Nat) (trip : Bool) : ScbOnly s (s.scbTrigger reason trip) := by
  unfold State.scbTrigger
  extract_lets s1
  have thawed : ScbOnly s s1 := .ite _ (s.scbThawNow_scbOnly true) (.refl s)
  split
  · exact thawed.trans (s1.scbFlushBegin_scbOnly reason)
  · exact .ite _ (.ite _ thawed (thawed.trans (.scb s1 _))) (.ite _ thawed (thawed.trans (.scb s1 _)))

theorem State.note_scbOnly (s : State) (code value : Nat) : ScbOnly s (s.note code value) := by
  unfold State.note
  extract_lets word rate burst miss ok old s1 b a old' s3 s4 s2
  have admitted : ScbOnly s s1 := .ite _ (.scb s _) (.refl s)
  have queued : ScbOnly s1 s4 := (ScbOnly.scb s1 _).trans (.wr (by decide) _ _)
  have landed : ScbOnly s s2 := admitted.trans (.ite _ (.ite _ (queued.trans (s4.scbThawNow_scbOnly true)) queued) (s1.scbLand_scbOnly a))
  exact .ite _ (landed.trans (s2.scbTrigger_scbOnly 2 false)) landed

end Sys2Proof.Machine
end

section
/-! SUPPORT. What a fault of the matrix array does to its partitions (R119, R122). -/

namespace Sys2Proof.Machine

/-- A partition without passes and without a load. -/
def Part.emptied (p : Part) : Part := { p with passes := [], load := none }

/-- The register fields of a partition that a fault clears. -/
def faultFlds : List Fld := [F.ARR_STATUS_ACTIVE_VALID, F.ARR_STATUS_SHADOW_VALID, F.ARR_STATUS_LOADING]

section
variable (s : State) (x : Nat)

theorem State.part_abandon (k n : Nat) : (s.abandon x k).part x n = if n = k then (s.part x n).emptied else s.part x n := by
  unfold State.abandon
  split
  · next same => subst same; simp [Part.emptied]
  · next other => simp [State.part_updPart_ne _ _ _ _ other]

theorem State.abandon_keepsRegs (k : Nat) : KeepsRegs (faultFlds.map (·, x * 4 + k)) s (s.abandon x k) :=
  ((((State.keeps_refl _ s).wr (g := F.ARR_STATUS_ACTIVE_VALID) (by decide) 0).wr (g := F.ARR_STATUS_SHADOW_VALID) (by decide) 0).wr
    (g := F.ARR_STATUS_LOADING) (by decide) 0).of_fv rfl

/-- The status bits of the partition read 0. -/
theorem State.rd_abandon_same (k : Nat) {f : Fld} (hf : f ∈ faultFlds) : (s.abandon x k).rd f (x * 4 + k) = 0 := by
  have zero (g : Fld) (w : g.w ≤ 64) (a : State) : (a.wr g (x * 4 + k) 0).rd g (x * 4 + k) = 0 :=
    (State.rd_wr_same a g _ 0 w).trans (Nat.zero_mod _)
  have other {g h : Fld} (id : g.id ≠ h.id) (a : State) : (a.wr h (x * 4 + k) 0).rd g (x * 4 + k) = a.rd g (x * 4 + k) :=
    State.rd_wr_ne a g h _ _ 0 (Fld.key_ne_same id _)
  unfold State.abandon
  simp only [faultFlds, List.mem_cons, List.not_mem_nil, or_false] at hf
  rw [State.rd_updPart]
  rcases hf with rfl | rfl | rfl
  · rw [other (by decide), other (by decide), zero _ (by decide)]
  · rw [other (by decide), zero _ (by decide)]
  · exact zero _ (by decide) _

/-- Status bits that read 0 go on to. -/
theorem State.rd_abandon_zero (k n : Nat) {f : Fld} (hf : f ∈ faultFlds) (hk : x * 4 + k < 65536) (hn : x * 4 + n < 65536)
    (h : s.rd f (x * 4 + n) = 0) : (s.abandon x k).rd f (x * 4 + n) = 0 := by
  by_cases same : n = k
  · subst same; exact State.rd_abandon_same s x n hf
  · refine (s.abandon_keepsRegs x k f _ fun hm => ?_).trans h
    obtain ⟨e, he, hk⟩ := List.mem_map.1 hm
    obtain ⟨g, -, rfl⟩ := List.mem_map.1 he
    simp only [Fld.key] at hk
    omega

theorem ConfinedTo.abandon {s s' : State} (h : ConfinedTo x s s') (k : Nat) : ConfinedTo x s (s'.abandon x k) :=
  (h.regs ((((SameButRegs.refl s').wr _ _ _).wr _ _ _).wr _ _ _)).updTile _

theorem State.thread_abandon (k n : Nat) : (s.abandon x k).thread x n = s.thread x n := by
  simp [State.abandon, State.thread]

end

/-- Several partitions abandoned (R122). -/
def State.abandonEach (s : State) (x : Nat) (l : List Nat) : State := l.foldl (fun a k => a.abandon x k) s

section
variable (s : State) (x : Nat) (l : List Nat)

theorem State.part_abandonEach (n : Nat) :
    (s.abandonEach x l).part x n = if n ∈ l then (s.part x n).emptied else s.part x n := by
  induction l generalizing s with
  | nil => simp [State.abandonEach]
  | cons k r ih =>
    refine (ih (s.abandon x k)).trans ?_
    by_cases same : n = k <;> by_cases later : n ∈ r <;> simp [State.part_abandon, Part.emptied, same, later]

theorem State.thread_abandonEach (n : Nat) : (s.abandonEach x l).thread x n = s.thread x n :=
  foldl_keep (fun a => a.thread x n) _ l s fun a k => a.thread_abandon x k n

theorem State.abandonEach_confined : ConfinedTo x s (s.abandonEach x l) := by
  induction l generalizing s with
  | nil => exact ConfinedTo.refl x s
  | cons k r ih => exact ((ConfinedTo.refl x s).abandon x k).trans (ih _)

variable {l} (bound : ∀ k ∈ l, x * 4 + k < 65536)
include bound

theorem State.rd_abandonEach_other {f : Fld} {i : Nat} (id : f.id ∉ faultFlds.map Fld.id) (hi : i < 65536) :
    (s.abandonEach x l).rd f i = s.rd f i := by
  induction l generalizing s with
  | nil => rfl
  | cons k r ih =>
    exact (ih (s.abandon x k) fun n hn => bound n (by simp [hn])).trans ((s.abandon_keepsRegs x k).rd_of_id id hi (bound k (by simp)))

theorem State.rd_abandonEach_zero {f : Fld} (hf : f ∈ faultFlds) {n : Nat} (hn : x * 4 + n < 65536)
    (h : n ∈ l ∨ s.rd f (x * 4 + n) = 0) : (s.abandonEach x l).rd f (x * 4 + n) = 0 := by
  induction l generalizing s with
  | nil => simpa [State.abandonEach] using h
  | cons k r ih =>
    refine ih (s.abandon x k) (fun m hm => bound m (by simp [hm])) ?_
    rcases h with hmem | hzero
    · rcases List.mem_cons.1 hmem with rfl | later
      · exact .inr (s.rd_abandon_same x n hf)
      · exact .inl later
    · exact .inr (s.rd_abandon_zero x k n hf (bound k (by simp)) hn hzero)

end

theorem State.threadCount_le (s : State) (x : Nat) : s.threadCount x ≤ 4 := by
  unfold State.threadCount
  split <;> omega

end Sys2Proof.Machine
end

section
/-! SUPPORT. The faults of the matrix array as one change of the state each (R119, R122, R505). -/

namespace Sys2Proof.Machine

/-! ### A fault of one partition (R119) -/

/-- The fault counts of R119. -/
def faultCounts : List Fld := [F.ARR_CHECK_PARITY_FAULTS, F.ARR_CHECK_RESIDUE_FAULTS]

/-- A partition whose fault has been counted and whose work has been abandoned. -/
def State.faultDrop (s : State) (x k : Nat) (f : Fld) : State := (s.sat f x 1).abandon x k

/-- A fault of a partition with work in flight: dropped, and its thread trapped. -/
def State.faultPart (s : State) (x k : Nat) (f : Fld) (info : Nat) : State := (s.faultDrop x k f).trapOne x k 3 info

theorem faultCounts_spec {f : Fld} (hf : f ∈ faultCounts) :
    f.w ≤ 64 ∧ f.id ∉ faultFlds.map Fld.id ∧ f.id ∉ stopFlds.map Fld.id ∧ F.SEQ_TRAP_CODE.id ≠ f.id := by
  revert f
  decide

section
variable {s : State} {x k : Nat} {f : Fld} (hx : x < 104) (hk : k < 4) (hf : f ∈ faultCounts)

theorem State.faultDrop_confined : ConfinedTo x s (s.faultDrop x k f) :=
  ((ConfinedTo.refl x s).regs ((SameButRegs.refl s).wr _ _ _)).abandon x k

theorem State.thread_faultDrop (n : Nat) : (s.faultDrop x k f).thread x n = s.thread x n := State.thread_abandon _ x k n

theorem State.part_faultDrop : (s.faultDrop x k f).part x k = (s.part x k).emptied := by
  simp [State.faultDrop, State.part_abandon, State.sat]

include hx hk hf

theorem State.rd_faultDrop_count : (s.faultDrop x k f).rd f x = satAdd f.w (s.rd f x) 1 := by
  obtain ⟨width, notStatus, -, -⟩ := faultCounts_spec hf
  exact (((s.sat f x 1).abandon_keepsRegs x k).rd_of_id notStatus (by omega) (by omega)).trans (s.rd_sat_same f x 1 width)

theorem State.faultDrop_untrapped (free : Untrapped s x k) : Untrapped (s.faultDrop x k f) x k := by
  obtain ⟨-, -, -, notCode⟩ := faultCounts_spec hf
  have abandoned := ((s.sat f x 1).abandon_keepsRegs x k).rd_of_id (f := F.SEQ_TRAP_CODE) (i := x * 4 + k) (by decide) (by omega) (by omega)
  exact Untrapped.of_same free (State.thread_faultDrop k) (abandoned.trans (State.rd_wr_id _ _ _ _ _ _ notCode (by omega) (by omega)))

variable (free : Untrapped s x k) (info : Nat)
include free

theorem State.faultPart_frame : TrapFrame x (s.faultDrop x k f) (s.faultPart x k f info) := by
  unfold State.faultPart
  rw [State.trapOne_eq]
  exact State.trapThread_frame (State.faultDrop_untrapped hx hk hf free) ..

theorem State.faultPart_trapsWith : TrapsWith s (s.faultPart x k f info) x k 3 info false := by
  unfold State.faultPart
  rw [State.trapOne_eq]
  exact TrapsWith.of_before (State.trapThread_trapsWith (State.faultDrop_untrapped hx hk hf free) ..) (State.thread_faultDrop k)
    State.faultDrop_confined.beatNow State.faultDrop_confined.now

theorem State.faultPart_confined : ConfinedTo x s (s.faultPart x k f info) :=
  State.faultDrop_confined.trans (State.faultPart_frame hx hk hf free info).engine.1

theorem State.part_faultPart : (s.faultPart x k f info).part x k = (s.part x k).emptied :=
  ((State.faultPart_frame hx hk hf free info).engine.part k).trans State.part_faultDrop

theorem State.rd_faultPart_count : (s.faultPart x k f info).rd f x = satAdd f.w (s.rd f x) 1 := by
  obtain ⟨-, -, notStop, -⟩ := faultCounts_spec hf
  exact ((State.faultPart_frame hx hk hf free info).regs.rd_of_id notStop (by omega) (by omega)).trans (State.rd_faultDrop_count hx hk hf)

theorem State.rd_faultPart_status {g : Fld} (hg : g ∈ faultFlds) : (s.faultPart x k f info).rd g (x * 4 + k) = 0 := by
  have notStop : ∀ g ∈ faultFlds, g.id ∉ stopFlds.map Fld.id := by decide
  exact ((State.faultPart_frame hx hk hf free info).regs.rd_of_id (notStop g hg) (by omega) (by omega)).trans (State.rd_abandon_same _ x k hg)

end

/-! ### A fault of the shared control (R122) -/

/-- Whether a trap of every thread reaches a thread. -/
def State.inUse (s : State) (x n : Nat) : Bool := s.running x n || s.started x n || s.trapped x n

/-- Every partition of the mode dropped. -/
def State.faultDropAll (s : State) (x : Nat) : State := s.abandonEach x (List.range (s.threadCount x))

/-- A fault of the shared control: every partition dropped, and every thread in use trapped. -/
def State.faultShared (s : State) (x info : Nat) : State :=
  (s.faultDropAll x).trapEach x 3 info (s.inUse x) (List.range (s.threadCount x))

section
variable {s : State} {x : Nat} (hx : x < 104)
include hx

theorem State.thread_lt {n : Nat} (h : n ∈ List.range (s.threadCount x)) : x * 4 + n < 65536 := by
  have := List.mem_range.1 h
  have := s.threadCount_le x
  omega

theorem State.rd_faultDropAll {f : Fld} (id : f.id ∉ faultFlds.map Fld.id) {i : Nat} (hi : i < 65536) :
    (s.faultDropAll x).rd f i = s.rd f i := State.rd_abandonEach_other s x (fun _ => State.thread_lt hx) id hi

theorem State.inUse_faultDropAll : (s.faultDropAll x).inUse x = s.inUse x := by
  funext n
  have rd {f : Fld} (id : f.id ∉ faultFlds.map Fld.id) : (s.faultDropAll x).rd f x = s.rd f x := State.rd_faultDropAll hx id (by omega)
  have thread : (s.faultDropAll x).thread x n = s.thread x n := State.thread_abandonEach s x _ n
  simp only [State.inUse, State.running, State.started, State.trapped, thread, rd (f := F.SEQ_THREAD_CTL_RUNNING) (by decide),
    rd (f := F.SEQ_THREAD_CTL_START) (by decide), rd (f := F.SEQ_THREAD_CTL_TRAPPED) (by decide)]

theorem State.threadCount_faultDropAll : (s.faultDropAll x).threadCount x = s.threadCount x := by
  unfold State.threadCount
  rw [State.rd_faultDropAll hx (by decide) (by omega)]

/-- The command in these terms. -/
theorem State.trapAll_faultDropAll (info : Nat) : (s.faultDropAll x).trapAll x 3 info = s.faultShared x info := by
  have same := State.inUse_faultDropAll (s := s) hx
  rw [State.trapAll_eq, State.threadCount_faultDropAll hx]
  exact congrArg (State.trapEach _ x 3 info · _) same

variable (free : ∀ n < s.threadCount x, s.inUse x n = true → Untrapped s x n) (info : Nat)
include free

theorem State.faultShared_traps :
    TrapFrame x (s.faultDropAll x) (s.faultShared x info) ∧
    ∀ n < s.threadCount x, s.inUse x n = true → TrapsWith s (s.faultShared x info) x n 3 info true := by
  have thread (n : Nat) : (s.faultDropAll x).thread x n = s.thread x n := State.thread_abandonEach s x _ n
  have before : ConfinedTo x s (s.faultDropAll x) := State.abandonEach_confined s x _
  have stillFree : ∀ n ∈ List.range (s.threadCount x), s.inUse x n = true → Untrapped (s.faultDropAll x) x n := fun n hn on =>
    Untrapped.of_same (free n (List.mem_range.1 hn) on) (thread n) (State.rd_faultDropAll hx (by decide) (State.thread_lt hx hn))
  obtain ⟨frame, -, traps⟩ := State.trapEach_spec 3 info (s.inUse x) _ _ List.nodup_range stillFree fun _ => State.thread_lt hx
  exact ⟨frame, fun n hn on => TrapsWith.of_before (traps n (List.mem_range.2 hn) on) (thread n) before.beatNow before.now⟩

theorem State.faultShared_confined : ConfinedTo x s (s.faultShared x info) :=
  (State.abandonEach_confined s x _).trans (State.faultShared_traps hx free info).1.engine.1

theorem State.part_faultShared {n : Nat} (hn : n < s.threadCount x) : (s.faultShared x info).part x n = (s.part x n).emptied := by
  rw [(State.faultShared_traps hx free info).1.engine.part, State.faultDropAll, State.part_abandonEach, if_pos (List.mem_range.2 hn)]

theorem State.rd_faultShared_status {g : Fld} (hg : g ∈ faultFlds) {n : Nat} (hn : n < s.threadCount x) :
    (s.faultShared x info).rd g (x * 4 + n) = 0 := by
  have notStop : ∀ g ∈ faultFlds, g.id ∉ stopFlds.map Fld.id := by decide
  have small := State.thread_lt hx (List.mem_range.2 hn)
  exact ((State.faultShared_traps hx free info).1.regs.rd_of_id (notStop g hg) small (by omega)).trans
    (State.rd_abandonEach_zero s x (fun _ => State.thread_lt hx) hg small (.inl (List.mem_range.2 hn)))

end

/-! ### Weight parity while a partition is idle (R505) -/

/-- One more count, of a copy not yet written. -/
theorem Sets.sat {w : List (Fld × Nat × Nat)} {s s' : State} (h : Sets w s s') (f : Fld) (i n : Nat) (hw : f.w ≤ 64)
    (hk : ∀ e ∈ w, e.1.key e.2.1 ≠ f.key i) : Sets ((f, i, satAdd f.w (s.rd f i) n) :: w) s (s'.sat f i n) := by
  have kept : s'.rd f i = s.rd f i := h.2 f i fun hm => by
    rw [List.map_map] at hm
    obtain ⟨e, he, same⟩ := List.mem_map.1 hm
    exact hk e he same
  have written := h.wr f i (satAdd f.w (s.rd f i) n) hw hk
  rw [Nat.mod_eq_of_lt (satAdd_lt _ _ _)] at written
  rwa [State.sat, kept]

/-- The weights of a partition invalid, and the error counted. -/
def State.parityDrop (s : State) (x k : Nat) : State :=
  ((s.wr F.ARR_STATUS_ACTIVE_VALID (x * 4 + k) 0).wr F.ARR_STATUS_SHADOW_VALID (x * 4 + k) 0).sat F.ARR_CHECK_PARITY_FAULTS x 1

theorem State.parityDrop_sets (s : State) {x k : Nat} (hx : x < 104) (hk : k < 4) :
    Sets [(F.ARR_CHECK_PARITY_FAULTS, x, satAdd F.ARR_CHECK_PARITY_FAULTS.w (s.rd F.ARR_CHECK_PARITY_FAULTS x) 1),
      (F.ARR_STATUS_SHADOW_VALID, x * 4 + k, 0), (F.ARR_STATUS_ACTIVE_VALID, x * 4 + k, 0)] s (s.parityDrop x k) := by
  have other {g : Fld} (id : g.id ≠ F.ARR_CHECK_PARITY_FAULTS.id) : g.key (x * 4 + k) ≠ F.ARR_CHECK_PARITY_FAULTS.key x :=
    Fld.key_ne id (by omega) (by omega)
  have invalid := ((Sets.refl s).wr F.ARR_STATUS_ACTIVE_VALID (x * 4 + k) 0 (by decide) (by simp)).wr F.ARR_STATUS_SHADOW_VALID (x * 4 + k) 0
    (by decide) (by simpa using Fld.key_ne_same (by decide) _)
  simp only [Nat.zero_mod] at invalid
  exact invalid.sat F.ARR_CHECK_PARITY_FAULTS x 1 (by decide) (by simpa using ⟨other (by decide), other (by decide)⟩)

theorem State.rd_parityDrop_residue (s : State) {x k : Nat} (hx : x < 104) (hk : k < 4) :
    (s.parityDrop x k).rd F.ARR_CHECK_RESIDUE_FAULTS x = s.rd F.ARR_CHECK_RESIDUE_FAULTS x := by
  refine (State.parityDrop_sets s hx hk).2 _ _ ?_
  have other {g : Fld} (id : F.ARR_CHECK_RESIDUE_FAULTS.id ≠ g.id) : F.ARR_CHECK_RESIDUE_FAULTS.key x ≠ g.key (x * 4 + k) :=
    Fld.key_ne id (by omega) (by omega)
  simpa using ⟨Fld.key_ne_same (by decide) x, other (by decide), other (by decide)⟩

end Sys2Proof.Machine
end

section
namespace Sys2Proof
open Machine

/-- Settles O11: a fault of one partition is `State.faultPart`, parity while idle `State.parityDrop` and a Scorebook record, and a shared fault
`State.faultShared`. -/
theorem arrayFaults : Obligations.ArrayFaults := by
  unfold Obligations.ArrayFaults
  intro t x k s u i
  have hi : i < 65536 := by omega
  refine ⟨fun col parity busy free => ?_, fun idle => ?_, fun free => ?_⟩
  · let f := if parity then F.ARR_CHECK_PARITY_FAULTS else F.ARR_CHECK_RESIDUE_FAULTS
    let info := (if (u.part x k).passes.isEmpty then 0xFF else col % 256) + 256 * bit parity
    have hf : f ∈ faultCounts := by cases parity <;> decide
    have run : execArrayPassFault t x k col parity s = .next (u.faultPart x k f info) := if_pos busy
    obtain ⟨tiles, rest⟩ := State.faultPart_confined x.isLt k.isLt hf free info
    have status {g : Fld} (hg : g ∈ faultFlds) := State.rd_faultPart_status x.isLt k.isLt hf free info hg
    exact ⟨_, run, State.faultPart_trapsWith x.isLt k.isLt hf free info, State.part_faultPart x.isLt k.isLt hf free info,
      status (by decide), status (by decide), status (by decide), State.rd_faultPart_count x.isLt k.isLt hf free info, tiles, rest⟩
  · let v := u.parityDrop x k
    have run : execWeightParityIdle t x k s = .next (v.noteFw 3 i) := if_neg (by simp [u, idle])
    have noted : ScbOnly v (v.noteFw 3 i) := State.note_scbOnly v _ i
    obtain ⟨listed, -⟩ := State.parityDrop_sets u x.isLt k.isLt
    simp only [List.forall_mem_cons] at listed
    obtain ⟨count, shadow, active, -⟩ := listed
    have kept {g : Fld} (id : g.id ∉ scbFlds.map Fld.id) {n : Nat} (hn : n < 65536) : (v.noteFw 3 i).rd g n = v.rd g n :=
      noted.2.rd_of_id id hn (by omega)
    exact ⟨_, run, (kept (by decide) hi).trans active, (kept (by decide) hi).trans shadow, (kept (by decide) (by omega)).trans count,
      (kept (by decide) (by omega)).trans (State.rd_parityDrop_residue u x.isLt k.isLt), noted.tiles, noted.1⟩
  · have run : execSharedControlFault t x s = .next (u.faultShared x (0xFF + 256 * 2)) :=
      congrArg Host.Outcome.next (State.trapAll_faultDropAll x.isLt _)
    obtain ⟨tiles, rest⟩ := State.faultShared_confined x.isLt free (0xFF + 256 * 2)
    exact ⟨_, run, fun n hn => ⟨State.part_faultShared x.isLt free _ hn, State.rd_faultShared_status x.isLt free _ (by decide) hn,
      State.rd_faultShared_status x.isLt free _ (by decide) hn, (State.faultShared_traps x.isLt free _).2 n hn⟩, tiles, rest⟩

end Sys2Proof
end

section
/-! SUPPORT. Two states in which work is booked to a thread that does not exist. The copies of a register field are kept 65,536 apart, so that a
register of such a thread lies where a register of another field does. -/

namespace Sys2Proof.Machine

/-! ### An MV descriptor of a thread whose SEQ_TRAP_CODE lies where ARR_CHECK_RESIDUE_FAULTS of tile 0 does -/

/-- A run of the MV path booked to thread 27 × 65,536. -/
def farMvRun : MvRun := ⟨27 * 65536, 0, 0, 0, none, 0, 0, []⟩

/-- The module before power-good but for that run on tile 0. -/
def farMvState : State := State.reset.updTile 0 (fun t => { t with mv := [farMvRun] })

theorem farMvState_untrapped : Untrapped (farMvState.tick 0) 0 farMvRun.k := by
  unfold Untrapped
  decide +kernel

/-- The fault counted in tile 0 reads as a trap already recorded, and no trap is left to record. -/
theorem farMvState_faulted :
    ((((farMvState.tick 0).sat F.ARR_CHECK_RESIDUE_FAULTS 0 1).putMv 0 farMvRun none).trapOne 0 farMvRun.k 3 768).thread 0 farMvRun.k =
      Thread.idle := by decide +kernel

/-! ### A PASS_LOAD of a thread whose ARR_STATUS lies where SLC_APT of field 0 of pier 0 does -/

/-- PASS_LOAD of descriptor 15 and load descriptor 1. -/
def farLoadSlot : Slot := ⟨0, 67 * 65536, 0, 0, 3 + 15 <<< 8 + 1 <<< 24⟩

/-- A LOAD of one column of 32 INT8 weights at slice address 64. -/
def farLoadDesc : Nat := 0x11 <<< 8 + 0x11 <<< 16 + 0x01 <<< 24 + 1 <<< 45 + 32 <<< 64 + 1 <<< 80 + 64 <<< 128

/-- The module before power-good but for the slot in hand on tile 0, the load's descriptor in its tile store, and byte 64 of its slice. -/
def farLoadState : State :=
  { State.reset.updEng 0 (fun e => { e with slots := [farLoadSlot] }) with
    ts := cellsWrite [] 64 (leBytes 64 farLoadDesc), mem := cellsWrite [] 64 [1] }

theorem farLoadState_slot :
    (farLoadState.tile 0).eng.slots.find? (fun l => l.kind == 0 && asCmd l.word == 3) = some farLoadSlot := by decide +kernel

theorem farLoadState_desc : (farLoadState.tick 0).arrDesc 0 (asLoad farLoadSlot.word) = farLoadDesc := by decide +kernel

theorem farLoadDesc_counts : pdK farLoadDesc ≠ 0 ∧ pdN farLoadDesc ≠ 0 := by decide +kernel

theorem farLoadState_readable : loadReadable (farLoadState.tick 0) 0 farLoadDesc := by
  have inSlice : pdSlice farLoadDesc = true := by decide +kernel
  have plain : fmtIsMx (fmtD (pdW farLoadDesc)) = false := by decide +kernel
  intro n _
  simp only [inSlice, plain, if_true]
  exact ⟨fun _ _ _ => ⟨rfl, rfl⟩, nofun⟩

/-- The column that the load descriptor names starts with 1. -/
theorem farLoadState_weights : (loadWeights (farLoadState.tick 0) 0 farLoadDesc).1 = [1] := by decide +kernel

/-- The columns of the load in progress. -/
def Part.loadCols (p : Part) : Option (List Nat) := p.load.map (fun l => l.w.cols)

/-- The load reads its column at the start of the slice, where every byte is 0. -/
theorem farLoadState_loaded : (((farLoadState.tick 0).arrayRun 0 3 []).part 0 farLoadSlot.k).loadCols = some [0] := by decide +kernel

end Sys2Proof.Machine
end

section
namespace Sys2Proof
open Machine

/-- Refutes O10 by PASS_LOAD: a slot in hand may be booked to any thread. The pass of thread 67 × 65,536 of tile 0 writes its index 15 to
ARR_STATUS.DESC_INDEX, which lies where SLC_APT.PHYS of field 0 of pier 0 does; from then on the load's slice address decodes to a violation, and
the load takes its weights from the start of the slice and not from where its descriptor says. -/
theorem not_arrayLoads : ¬ Obligations.ArrayLoads := by
  unfold Obligations.ArrayLoads
  rintro ⟨loads, -⟩
  have desc : (farLoadState.tick 0).arrDesc (0 : TileIx).val (asLoad farLoadSlot.word) = farLoadDesc := farLoadState_desc
  have passLoad := loads 0 0 farLoadState farLoadSlot
  simp only [desc] at passLoad
  obtain ⟨hk, hn⟩ := farLoadDesc_counts
  obtain ⟨-, named⟩ := passLoad hk hn farLoadState_readable
  obtain ⟨s', next, part, -⟩ := named farLoadState_slot
  obtain rfl : (farLoadState.tick 0).arrayRun 0 3 [] = s' := by injection next
  have read : some [0] = some [1] := farLoadState_loaded.symm.trans
    ((congrArg Part.loadCols part).trans (congrArg some farLoadState_weights))
  exact absurd read (by decide)

/-- Refutes O12 by its last clause: a run of the MV path may be booked to any thread. The fault of a run of thread 27 × 65,536 of tile 0 is counted
in ARR_CHECK.RESIDUE_FAULTS, which lies where that thread's SEQ_TRAP.CODE does: the thread counts as one whose trap is recorded, and none is left to
record. -/
theorem not_mvPath : ¬ Obligations.MvPath := by
  unfold Obligations.MvPath
  intro h
  obtain ⟨-, -, -, fault⟩ := h 0 0 farMvState
  obtain ⟨s', next, ⟨trap, -⟩, -⟩ := fault farMvRun [] 0 rfl farMvState_untrapped
  obtain rfl : (((farMvState.tick 0).sat F.ARR_CHECK_RESIDUE_FAULTS 0 1).putMv 0 farMvRun none).trapOne 0 farMvRun.k 3 768 = s' := by
    injection next
  have lost : none = some _ := (congrArg Thread.trap farMvState_faulted).symm.trans trap
  exact absurd lost nofun

end Sys2Proof
end

section
/-! SUPPORT. What a write to a tile store and an attention step's own write to its slice change (R55, R156, R179), and that a trap of any thread
changes only its tile's engine and registers. -/

namespace Sys2Proof.Machine

/-! ### Writes to a tile store (R55) -/

/-- Outside the tile stores and the engine of tile x the state is as it was. -/
def StoreOnly (x : Nat) (s s' : State) : Prop :=
  KeepsTiles x s s' ∧ s' = { s with ts := s'.ts, tiles := s'.tiles } ∧ s'.tile x = { s.tile x with eng := (s'.tile x).eng }

theorem StoreOnly.refl (x : Nat) (s : State) : StoreOnly x s s := ⟨fun _ _ => rfl, rfl, rfl⟩

theorem StoreOnly.trans {x : Nat} {a b c : State} (h : StoreOnly x a b) (g : StoreOnly x b c) : StoreOnly x a c := by
  obtain ⟨tiles, rest, tile⟩ := h
  obtain ⟨tiles', rest', tile'⟩ := g
  exact ⟨tiles.trans tiles', by rw [rest', rest], by rw [tile', tile]⟩

theorem StoreOnly.fv {x : Nat} {s s' : State} (h : StoreOnly x s s') : s'.fv = s.fv := h.2.1 ▸ rfl
theorem StoreOnly.attends {x : Nat} {s s' : State} (h : StoreOnly x s s') : (s'.tile x).attends = (s.tile x).attends := by rw [h.2.2]
theorem StoreOnly.shadows {x : Nat} {s s' : State} (h : StoreOnly x s s') : (s'.tile x).shadows = (s.tile x).shadows := by rw [h.2.2]
theorem StoreOnly.restore {x : Nat} {s s' : State} (h : StoreOnly x s s') : (s'.tile x).restore = (s.tile x).restore := by rw [h.2.2]

theorem StoreOnly.ts (x : Nat) (s : State) (m : List Host.Cell) : StoreOnly x s { s with ts := m } := ⟨fun _ _ => rfl, rfl, rfl⟩

theorem StoreOnly.updEng (x : Nat) (s : State) (f : Engine → Engine) : StoreOnly x s (s.updEng x f) :=
  ⟨fun _ hy => State.tile_updEng_ne s f hy, rfl, by simp⟩

theorem StoreOnly.foldl {β : Type} {x : Nat} (g : State → β → State) (h : ∀ a b, StoreOnly x a (g a b)) (l : List β) (s : State) :
    StoreOnly x s (l.foldl g s) :=
  List.foldlRecOn l g (StoreOnly.refl x s) fun _ so b _ => so.trans (h _ b)

section
variable (s : State) (x a : Nat) (bs : Bytes)

theorem State.tsWriteRow_storeOnly : StoreOnly x s (s.tsWriteRow x a bs) := by
  unfold State.tsWriteRow
  dsimp only
  split
  · split
    · exact (StoreOnly.ts x s _).trans (StoreOnly.updEng x _ _)
    · exact StoreOnly.refl x s
  · exact StoreOnly.ts x s _

theorem State.tsWriteFrom_storeOnly (n : Nat) : StoreOnly x s (s.tsWriteFrom x n a bs) := by
  induction n generalizing s a bs with
  | zero => exact StoreOnly.refl x s
  | succ n ih =>
    unfold State.tsWriteFrom
    split
    · exact StoreOnly.refl x s
    · exact (s.tsWriteRow_storeOnly x a _).trans (ih _ _ _)

theorem State.tsWrite_storeOnly : StoreOnly x s (s.tsWrite x a bs) := s.tsWriteFrom_storeOnly x a bs _

end

/-- Outside the register file, the tile stores and tile x the state is as it was. -/
def StoreConfined (x : Nat) (s s' : State) : Prop := KeepsTiles x s s' ∧ s' = { s with fv := s'.fv, ts := s'.ts, tiles := s'.tiles }

section
variable {x : Nat} {s a b : State}

theorem StoreOnly.confined (h : StoreOnly x s a) : StoreConfined x s a := by
  obtain ⟨tiles, rest, -⟩ := h
  exact ⟨tiles, by rw [rest]⟩

theorem StoreConfined.updTile (h : StoreConfined x s a) (f : Tile → Tile) : StoreConfined x s (a.updTile x f) := by
  obtain ⟨tiles, rest⟩ := h
  exact ⟨fun y hy => (State.tile_updTile_ne a f hy).trans (tiles y hy), by rw [rest]; rfl⟩

theorem StoreConfined.regs (h : StoreConfined x s a) (g : SameButRegs a b) : StoreConfined x s b := by
  obtain ⟨tiles, rest⟩ := h
  refine ⟨fun y hy => (g.tile y).trans (tiles y hy), ?_⟩
  unfold SameButRegs at g
  rw [g, rest]

theorem StoreConfined.mem (h : StoreConfined x s a) : a.mem = s.mem := h.2 ▸ rfl

end

/-! ### Writes of an attention step to its slice (R156, R179) -/

/-- Outside the slices, the pier caches, the registers and the slice controller of tile x the state is as it was. -/
def SliceOnly (x : Nat) (s s' : State) : Prop :=
  KeepsTiles x s s' ∧
  s' = { s with fv := s'.fv, mem := s'.mem, badLines := s'.badLines, latent := s'.latent, pch := s'.pch, tiles := s'.tiles } ∧
  s'.tile x = { s.tile x with slice := (s'.tile x).slice }

theorem SliceOnly.refl (x : Nat) (s : State) : SliceOnly x s s := ⟨fun _ _ => rfl, rfl, rfl⟩

theorem SliceOnly.trans {x : Nat} {a b c : State} (h : SliceOnly x a b) (g : SliceOnly x b c) : SliceOnly x a c := by
  obtain ⟨tiles, rest, tile⟩ := h
  obtain ⟨tiles', rest', tile'⟩ := g
  exact ⟨tiles.trans tiles', by rw [rest', rest], by rw [tile', tile]⟩

theorem SliceOnly.ts {x : Nat} {s s' : State} (h : SliceOnly x s s') : s'.ts = s.ts := h.2.1 ▸ rfl
theorem SliceOnly.eng {x : Nat} {s s' : State} (h : SliceOnly x s s') : (s'.tile x).eng = (s.tile x).eng := by rw [h.2.2]
theorem SliceOnly.shadows {x : Nat} {s s' : State} (h : SliceOnly x s s') : (s'.tile x).shadows = (s.tile x).shadows := by rw [h.2.2]

theorem SliceOnly.foldl {β : Type} {x : Nat} (g : State → β → State) (h : ∀ a b, SliceOnly x a (g a b)) (l : List β) (s : State) :
    SliceOnly x s (l.foldl g s) :=
  List.foldlRecOn l g (SliceOnly.refl x s) fun _ so b _ => so.trans (h _ b)

section
variable (s : State) (x a : Nat) (bs : Bytes)

theorem State.memWriteLine_sliceOnly : SliceOnly x s (s.memWriteLine a bs) := by
  unfold State.memWriteLine
  dsimp only
  (repeat' split) <;> exact ⟨fun _ _ => rfl, rfl, rfl⟩

theorem State.memWriteFrom_sliceOnly (n : Nat) : SliceOnly x s (s.memWriteFrom n a bs) := by
  induction n generalizing s a bs with
  | zero => exact SliceOnly.refl x s
  | succ n ih =>
    unfold State.memWriteFrom
    split
    · exact SliceOnly.refl x s
    · exact (s.memWriteLine_sliceOnly x a _).trans (ih _ _ _)

theorem SliceOnly.latent (m : Tab Nat) : SliceOnly x s { s with latent := m } := ⟨fun _ _ => rfl, rfl, rfl⟩

theorem SliceOnly.pch (l : List PLine) : SliceOnly x s { s with pch := l } := ⟨fun _ _ => rfl, rfl, rfl⟩

theorem SliceOnly.updSlice (f : Slice → Slice) : SliceOnly x s (s.updSlice x f) :=
  ⟨fun _ hy => State.tile_updSlice_ne s x f hy, rfl, by simp⟩

theorem SliceOnly.wr (f : Fld) (i n : Nat) : SliceOnly x s (s.wr f i n) := ⟨fun _ _ => rfl, rfl, rfl⟩

theorem State.dramWrite_sliceOnly (path : Nat) : SliceOnly x s (s.dramWrite x a path bs) := by
  have stored : SliceOnly x s (s.memWrite (sliceBase x + a) bs) := s.memWriteFrom_sliceOnly x _ bs _
  have landed := fun m f => (stored.trans (SliceOnly.latent _ x m)).trans (SliceOnly.updSlice _ x f)
  unfold State.dramWrite
  dsimp only
  split
  · exact landed _ _
  · split
    · exact ((landed _ _).trans (SliceOnly.latent _ x _)).trans (SliceOnly.wr _ x _ _ _)
    · exact landed _ _

theorem State.ownWrite_sliceOnly : SliceOnly x s (s.ownWrite x a bs) :=
  (s.dramWrite_sliceOnly x a bs 0).trans (SliceOnly.pch _ x _)

end

/-! ### Traps of any thread (R62 to R64) -/

theorem EngineOnly.attends {x : Nat} {s s' : State} (h : EngineOnly x s s') : (s'.tile x).attends = (s.tile x).attends := by rw [h.2]

theorem EngineOnly.of_regs {s s' : State} (x : Nat) (h : SameButRegs s s') : EngineOnly x s s' :=
  ⟨(ConfinedTo.refl x s).regs h, by rw [h.tile]⟩

theorem State.undoStart_engineOnly (s : State) (x k : Nat) : EngineOnly x s (s.undoStart x k) := by
  unfold State.undoStart
  split
  · exact EngineOnly.refl x s
  · split
    · refine EngineOnly.trans (EngineOnly.of_regs x ?_) (EngineOnly.updEng x _ _)
      refine List.foldlRecOn (motive := SameButRegs s) _ _ ?_ fun _ regs c _ => regs.wr _ _ _
      repeat' apply SameButRegs.wr
      exact SameButRegs.refl s
    · exact EngineOnly.refl x s

theorem State.trapThread_engineOnly (s : State) (x k code info : Nat) (shared multi : Bool) (idx : Nat) :
    EngineOnly x s (s.trapThread x k code info shared multi idx) := by
  have halted : EngineOnly x s (((s.undoStart x k).stopThread x k).haltChans x k code) :=
    ((s.undoStart_engineOnly x k).trans (State.stopThread_engineOnly _ x k)).trans (State.haltChans_engineOnly _ x k code)
  unfold State.trapThread
  dsimp only
  split
  · exact halted.trans (EngineOnly.wr x _ _ _ _)
  · exact halted.trans (EngineOnly.updEng x _ _)

theorem State.trapOne_engineOnly (s : State) (x k code info : Nat) : EngineOnly x s (s.trapOne x k code info) := by
  rw [State.trapOne_eq]
  exact s.trapThread_engineOnly ..

end Sys2Proof.Machine
end

section
/-! SUPPORT. The shadow of a head's tables after a reset (R157): lost, or restored. -/

namespace Sys2Proof.Machine

/-- The registers that say that a head's tables are lost (R152, R157). -/
def lostSets (ix : Nat) : List (Fld × Nat × Nat) :=
  [(F.KVS_STATE_LOST, ix, 1), (F.SYS_CFG_LOST_KV, 0, 1), (F.ATT_PENDING_KV_LOST, 0, 1), (F.ATT_PENDING_CONFIG_LOST, 0, 1)]

theorem hIx_lt (x : TileIx) {h : Nat} (small : h < 4) : hIx x h < 65536 := by
  unfold hIx
  omega

theorem State.headLost_regs (s : State) (ix : Nat) : SameButRegs s (s.headLost ix) :=
  ((((SameButRegs.refl s).wr _ _ _).wr _ _ _).wr _ _ _).wr _ _ _

theorem State.headLost_sets (s : State) {ix : Nat} (hix : ix < 65536) : Sets (lostSets ix) s (s.headLost ix) := by
  have key {f g : Fld} (id : f.id ≠ g.id) : f.key ix ≠ g.key 0 := Fld.key_ne id hix (by decide)
  have lost := (Sets.refl s).wr F.KVS_STATE_LOST ix 1 (by decide) (by simp)
  have config := lost.wr F.SYS_CFG_LOST_KV 0 1 (by decide) (by simpa using key (by decide))
  have kv := config.wr F.ATT_PENDING_KV_LOST 0 1 (by decide) (by simpa using ⟨by decide, key (by decide)⟩)
  have pending := kv.wr F.ATT_PENDING_CONFIG_LOST 0 1 (by decide) (by simpa using ⟨by decide, by decide, key (by decide)⟩)
  exact pending.of_mem_iff fun _ => (List.mem_reverse (as := lostSets ix)).symm

section
variable (s : State) (x h : Nat)

/-- The slice offset of a head's shadow. -/
def State.shadowAt : Nat := s.ownOff (s.rd F.KVS_SHADOW_SHADOW_BASE (hIx x h))

/-- A shadow that does not come back: a line of it is uncorrectable, or its step words differ (R157; log entry 62). -/
def State.shadowBad : Bool :=
  s.badRange (sliceBase x + s.shadowAt x h) (64 + 16 * s.kvPool x h + 32 * s.rd F.KVS_TABLES_LT_CAP (hIx x h)) ||
    fieldAt (s.dram x (s.shadowAt x h) 64) 8 8 != fieldAt (s.dram x (s.shadowAt x h) 64) 16 8

/-- The two tables copied from the shadow to the tile store. -/
def State.tablesBack : State :=
  (s.tsWrite x (s.rd F.KVS_TABLES_PT_BASE (hIx x h)) (s.dram x (s.shadowAt x h + 64) (16 * s.kvPool x h))).tsWrite x
    (s.rd F.KVS_TABLES_LT_BASE (hIx x h))
    (s.dram x (s.shadowAt x h + 64 + 16 * s.kvPool x h) (32 * s.rd F.KVS_TABLES_LT_CAP (hIx x h)))

theorem State.tablesBack_storeOnly : StoreOnly x s (s.tablesBack x h) :=
  (s.tsWrite_storeOnly x _ _).trans (State.tsWrite_storeOnly _ x _ _)

theorem State.kvRestore_of_bad (bad : s.shadowBad x h = true) : s.kvRestore x h = s.headLost (hIx x h) := if_pos bad

theorem State.kvRestore_of_good (good : s.shadowBad x h = false) :
    s.kvRestore x h = ((s.tablesBack x h).wr F.KVS_STATE_FREE_HEAD (hIx x h) (fieldAt (s.dram x (s.shadowAt x h) 64) 24 4)).wr
      F.KVS_STATE_FREE_COUNT (hIx x h) (fieldAt (s.dram x (s.shadowAt x h) 64) 28 4) := if_neg (Bool.eq_false_iff.1 good)

/-- The registers of a head whose tables came back. -/
theorem State.kvRestore_sets (good : s.shadowBad x h = false) :
    Sets [(F.KVS_STATE_FREE_HEAD, hIx x h, fieldAt (s.dram x (s.shadowAt x h) 64) 24 4 % 2 ^ 20),
      (F.KVS_STATE_FREE_COUNT, hIx x h, fieldAt (s.dram x (s.shadowAt x h) 64) 28 4 % 2 ^ F.KVS_STATE_FREE_COUNT.w)] s (s.kvRestore x h) := by
  rw [State.kvRestore_of_good s x h good]
  have head := (Sets.refl (s.tablesBack x h)).wr F.KVS_STATE_FREE_HEAD (hIx x h) (fieldAt (s.dram x (s.shadowAt x h) 64) 24 4)
    (by decide) (by simp)
  have count := head.wr F.KVS_STATE_FREE_COUNT (hIx x h) (fieldAt (s.dram x (s.shadowAt x h) 64) 28 4) (by decide)
    (by simpa using Fld.key_ne_same (by decide) _)
  exact (count.from_fv (s.tablesBack_storeOnly x h).fv).of_mem_iff fun e => by
    simp only [List.mem_cons, List.not_mem_nil, or_false]
    exact or_comm

theorem State.kvRestore_confined : StoreConfined x s (s.kvRestore x h) := by
  cases bad : s.shadowBad x h with
  | true =>
    rw [State.kvRestore_of_bad s x h bad]
    exact (StoreOnly.refl x s).confined.regs (s.headLost_regs _)
  | false =>
    rw [State.kvRestore_of_good s x h bad]
    exact (s.tablesBack_storeOnly x h).confined.regs (((SameButRegs.refl _).wr _ _ _).wr _ _ _)

theorem State.restore_kvRestore : ((s.kvRestore x h).tile x).restore = (s.tile x).restore := by
  cases bad : s.shadowBad x h with
  | true => rw [State.kvRestore_of_bad s x h bad, (s.headLost_regs _).tile]
  | false => rw [State.kvRestore_of_good s x h bad, State.tile_wr, State.tile_wr, (s.tablesBack_storeOnly x h).restore]

end

end Sys2Proof.Machine
end

section
namespace Sys2Proof
open Machine

/-- Settles O14: the records are writes of the step to its own slice, and the restore is `State.kvRestore` by its two branches. -/
theorem attentionShadow : Obligations.AttentionShadow := by
  unfold Obligations.AttentionShadow
  intro t x h s u
  refine ⟨fun d due => ?_, fun owed steady => ?_⟩
  · let v := d.writes.foldl (fun z w => z.ownWrite x w.1 w.2) u
    have run : execShadowWriteThrough t x h s = .next (v.updTile x (fun t => { t with shadows := t.shadows.erase d })) := by
      unfold execShadowWriteThrough
      dsimp only
      rw [State.tile_tick, due]
    have written : SliceOnly x u v := SliceOnly.foldl _ (fun a w => a.ownWrite_sliceOnly x _ _) _ _
    exact ⟨_, run, by simp [written.shadows, u], rfl, written.ts, by simp [written.eng, u]⟩
  · intro ix b pool len hd
    have run : execKvShadowRestore t x h s =
        .next ((u.kvRestore x h).updTile x (fun t => { t with restore := t.restore.filter (fun k => k != h.val) })) :=
      if_pos (Bool.and_eq_true_iff.2 ⟨owed, congrArg not steady⟩)
    obtain ⟨tiles, rest⟩ := (u.kvRestore_confined x h).updTile (fun t => { t with restore := t.restore.filter (fun k => k != h.val) })
    refine ⟨_, run, by simp [State.restore_kvRestore, u], (u.kvRestore_confined x h).mem, tiles, fun bad => ?_, fun good => ?_, rest⟩
    · rw [State.kvRestore_of_bad u x h bad]
      exact ⟨((u.headLost_sets (hIx_lt x h.isLt)).from_fv rfl).of_fv rfl, rfl⟩
    · refine ⟨((u.kvRestore_sets x h good).from_fv rfl).of_fv rfl, ?_⟩
      rw [State.updTile_ts, State.kvRestore_of_good u x h good, State.wr_ts, State.wr_ts, State.tablesBack]
      rfl

end Sys2Proof
end

section
/-! SUPPORT. How ATTEND takes up its slot (R141, R142, R146, R220). -/

namespace Sys2Proof.Machine

section
variable (s : State) (x : Nat) (sl : Slot)

/-- ATTEND out of its slot, with its descriptor shown in ARR_MV_STATUS. -/
def State.attendTaken : State :=
  ((s.updEng x (fun e => { e with slots := e.slots.erase sl })).wr F.ARR_MV_STATUS_DESC_INDEX x (bitsAt sl.word 4 16)).wr
    F.ARR_MV_STATUS_THREAD x sl.k

/-- The step that ATTEND starts. -/
def State.attendNew : Attend :=
  let d := s.arrDesc x (bitsAt sl.word 4 16)
  ⟨sl.k, bitsAt sl.word 4 16, d, sl.cyc, s.attendBound x (adHead d) (adEntries d), false, false, [], []⟩

/-- A head's share accumulators at the start of a step: cleared unless the step has NO_SCORE (R220). -/
def State.scoreStart (h : Nat) (noScore : Bool) : State := if noScore then s else s.clearScores x h

/-- A step begun: its head BUSY, its cycles booked, its share accumulators cleared. -/
def State.attendBegun (a : Attend) : State :=
  ((s.wr F.KVS_STATE_BUSY (hIx x (adHead a.desc)) 1).updTile x (fun t => { t with
    mvEnd := a.origin + adBudget a.desc, attends := t.attends ++ [a] })).scoreStart x (adHead a.desc) (adNoScore a.desc)

theorem State.attendStart_of_find (slot : (s.tile x).eng.slots.find? (fun l => l.kind == 1 && bitsAt l.word 0 4 == 2) = some sl) :
    s.attendStart x =
      if adEntries (s.attendNew x sl).desc = 0 ∨ adBudget (s.attendNew x sl).desc = 0 then
        (s.attendTaken x sl).updTile x (fun t => { t with mvEnd := sl.cyc + 1 })
      else (s.attendTaken x sl).attendBegun x (s.attendNew x sl) := by
  unfold State.attendStart
  rw [State.takeSlot_of_find slot]
  rfl

theorem State.tile_attendTaken :
    (s.attendTaken x sl).tile x = { s.tile x with eng := { (s.tile x).eng with slots := (s.tile x).eng.slots.erase sl } } := by
  simp [State.attendTaken]

theorem State.attendTaken_sets :
    Sets [(F.ARR_MV_STATUS_DESC_INDEX, x, bitsAt sl.word 4 16), (F.ARR_MV_STATUS_THREAD, x, sl.k % 4)] s (s.attendTaken x sl) := by
  have index := (Sets.refl s).wr F.ARR_MV_STATUS_DESC_INDEX x (bitsAt sl.word 4 16) (by decide) (by simp)
  have thread := index.wr F.ARR_MV_STATUS_THREAD x sl.k (by decide) (by simpa using Fld.key_ne_same (by decide) _)
  have whole : bitsAt sl.word 4 16 % 2 ^ F.ARR_MV_STATUS_DESC_INDEX.w = bitsAt sl.word 4 16 := Nat.mod_mod _ _
  rw [whole] at thread
  exact (thread.of_fv (b := s.attendTaken x sl) rfl).of_mem_iff fun e => by
    simp only [List.mem_cons, List.not_mem_nil, or_false]
    exact or_comm

theorem ConfinedTo.attendTaken : ConfinedTo x s (s.attendTaken x sl) :=
  ((ConfinedTo.refl x s).updTile _).regs (((SameButRegs.refl _).wr _ _ _).wr _ _ _)

variable (a : Attend)

theorem State.tile_scoreStart (h : Nat) (noScore : Bool) :
    (s.scoreStart x h noScore).tile x =
      { s.tile x with
        score := if noScore then (s.tile x).score else Tab.dropWhere (fun k => k % 16384 / 4096 == h) (s.tile x).score } := by
  cases noScore with
  | true => rfl
  | false => exact State.tile_updTile_same s x _

theorem State.tile_attendBegun :
    (s.attendBegun x a).tile x =
      { s.tile x with
        mvEnd := a.origin + adBudget a.desc, attends := (s.tile x).attends ++ [a],
        score := if adNoScore a.desc then (s.tile x).score
          else Tab.dropWhere (fun k => k % 16384 / 4096 == adHead a.desc) (s.tile x).score } := by
  simp [State.attendBegun, State.tile_scoreStart]

theorem State.tile_attendBegun_attendTaken :
    ((s.attendTaken x sl).attendBegun x a).tile x =
      { s.tile x with
        eng := { (s.tile x).eng with slots := (s.tile x).eng.slots.erase sl },
        mvEnd := a.origin + adBudget a.desc, attends := (s.tile x).attends ++ [a],
        score := if adNoScore a.desc then (s.tile x).score
          else Tab.dropWhere (fun k => k % 16384 / 4096 == adHead a.desc) (s.tile x).score } := by
  rw [State.tile_attendBegun, State.tile_attendTaken]

theorem State.attendBegun_fv : (s.attendBegun x a).fv = (s.wr F.KVS_STATE_BUSY (hIx x (adHead a.desc)) 1).fv := by
  unfold State.attendBegun State.scoreStart
  split <;> rfl

theorem ConfinedTo.attendBegun {s s' : State} (h : ConfinedTo x s s') : ConfinedTo x s (s'.attendBegun x a) := by
  have begun := (h.regs ((SameButRegs.refl s').wr F.KVS_STATE_BUSY (hIx x (adHead a.desc)) 1)).updTile (fun t => { t with
    mvEnd := a.origin + adBudget a.desc, attends := t.attends ++ [a] })
  unfold State.attendBegun State.scoreStart
  split
  · exact begun
  · exact begun.updTile _

end

theorem adHead_lt (d : Nat) : adHead d < 4 := Nat.mod_lt _ (by decide)

theorem Sets.attendBegun {w : List (Fld × Nat × Nat)} {s s' : State} (x : TileIx) (a : Attend) (h : Sets w s s')
    (new : ∀ e ∈ w, e.1.id ≠ F.KVS_STATE_BUSY.id ∧ e.2.1 < 65536) :
    Sets ((F.KVS_STATE_BUSY, hIx x (adHead a.desc), 1) :: w) s (s'.attendBegun x a) := by
  refine (h.wr F.KVS_STATE_BUSY (hIx x (adHead a.desc)) 1 (by decide) fun e he => ?_).of_fv (State.attendBegun_fv s' x a)
  obtain ⟨id, small⟩ := new e he
  exact Fld.key_ne id small (hIx_lt x (adHead_lt _))

end Sys2Proof.Machine
end

section
/-! SUPPORT. The checks of an attention step (R142, R145), and its end (R146, R160). -/

namespace Sys2Proof.Machine

/-- An attention step changed where it stands. -/
theorem State.tile_putAttend_some (s : State) (x : Nat) (old new : Attend) :
    (s.putAttend x old (some new)).tile x =
      { s.tile x with attends := (s.tile x).attends.map (fun m => if m = old then new else m) } := State.tile_updTile_same s x _

theorem State.thread_putAttend (s : State) (x : Nat) (old : Attend) (new : Option Attend) (k : Nat) :
    (s.putAttend x old new).thread x k = s.thread x k := by simp [State.putAttend, State.thread]

/-- A step that is replaced by another is no longer listed. -/
theorem State.notMem_putAttend (s : State) (x : Nat) {a new : Attend} (other : new ≠ a) : a ∉ ((s.putAttend x a (some new)).tile x).attends := by
  rw [State.tile_putAttend_some]
  intro listed
  obtain ⟨m, -, eq⟩ := List.mem_map.1 listed
  split at eq
  · exact other eq
  · contradiction

/-- The trap of a sum out of range in one of a step's rows (R154). -/
def State.attendOvf (s : State) (x k : Nat) : Option Nat → State
  | some v => s.trapOne x k 5 (1 + 16 * v)
  | none => s

/-- The trap that a step failed with, which for a malformed chain loses the head's tables (R151 to R153). -/
def State.attendFail (s : State) (x k h : Nat) : Option (Nat × Nat) → State
  | none => s
  | some f => if f.1 = 0x26 then (s.trapOne x k f.1 f.2).headLost (hIx x h) else s.trapOne x k f.1 f.2

theorem State.attendOvf_engineOnly (s : State) (x k : Nat) (ovf : Option Nat) : EngineOnly x s (s.attendOvf x k ovf) := by
  cases ovf with
  | none => exact EngineOnly.refl x s
  | some v => exact State.trapOne_engineOnly ..

theorem State.attendFail_engineOnly (s : State) (x k h : Nat) (fail : Option (Nat × Nat)) : EngineOnly x s (s.attendFail x k h fail) := by
  cases fail with
  | none => exact EngineOnly.refl x s
  | some f =>
    have failed : EngineOnly x s (s.trapOne x k f.1 f.2) := State.trapOne_engineOnly ..
    unfold State.attendFail
    dsimp only
    split
    · exact failed.trans (EngineOnly.of_regs x (State.headLost_regs _ _))
    · exact failed

/-- The work of a step ends with its record marked as run, and with its flags and traps. -/
theorem State.attendWork_eq (s : State) (x : Nat) (a : Attend) (errs : List MemErr) :
    ∃ (v : State) (new : Attend) (flags : Flags) (ovf : Option Nat) (fail : Option (Nat × Nat)), new.ran = true ∧
      s.attendWork x a errs =
        (((v.putAttend x a (some new)).setFlags x a.k flags).attendOvf x a.k ovf).attendFail x a.k (adHead a.desc) fail :=
  ⟨_, _, _, _, _, rfl, rfl⟩

theorem State.notMem_attendWork (s : State) (x : Nat) {a : Attend} (notRan : a.ran = false) (errs : List MemErr) :
    a ∉ ((s.attendWork x a errs).tile x).attends := by
  obtain ⟨v, new, flags, ovf, fail, ran, work⟩ := s.attendWork_eq x a errs
  rw [work, (State.attendFail_engineOnly ..).attends, (State.attendOvf_engineOnly ..).attends, State.tile_setFlags]
  exact State.notMem_putAttend _ x fun same => by simp [same, notRan] at ran

/-- The trap BUDGET of a step whose bound exceeds its budget (R145). -/
def State.attendOver (s : State) (x : Nat) (a : Attend) : State :=
  (s.putAttend x a (some { a with ran := true })).trapOne x a.k 0x25 (min (ceilDiv a.bound 256) 0xFFFF)

/-- A read without errors leaves the state as it is. -/
theorem State.foldl_tsErrs_nil (s : State) (x : Nat) (l : List (Nat × Nat)) :
    l.foldl (fun z r => z.tsErrs x r.1 r.2 (storeErrs [])) s = s := foldl_keep id _ l s fun _ _ => rfl

section
variable {s : State} {x : Nat} {a : Attend}

/-- A step whose table and planes are legal is checked against its budget (R142, R145). -/
theorem State.attendCheck_of_legal (first : (s.tile x).attends.find? (fun a => !a.ran) = some a)
    (legal : ∀ e < adEntries a.desc, ltIllegal (s.ltRaw x (adHead a.desc) e) = false)
    (rows : s.kvGroup x (adHead a.desc) * (((List.range (adEntries a.desc)).map
      (fun e => ltOf (s.ltRaw x (adHead a.desc) e))).map (fun e => e.new)).sum ≤ 65536)
    (reach : s.attendReach x (adHead a.desc) a.desc
      ((List.range (adEntries a.desc)).map (fun e => ltOf (s.ltRaw x (adHead a.desc) e))) = false) :
    s.attendCheck x [] = if adBudget a.desc < a.bound then s.attendOver x a else s.attendWork x a [] := by
  have noIllegal : (List.range (adEntries a.desc)).find? (fun i =>
      ltIllegal (((List.range (adEntries a.desc)).map (fun e => s.ltRaw x (adHead a.desc) e)).getD i 0)) = none := by
    refine List.find?_eq_none.2 fun e he => ?_
    have small := List.mem_range.1 he
    simp [List.getD_eq_getElem?_getD, small, legal e small]
  have entries : ((List.range (adEntries a.desc)).map (fun e => s.ltRaw x (adHead a.desc) e)).map ltOf =
      (List.range (adEntries a.desc)).map (fun e => ltOf (s.ltRaw x (adHead a.desc) e)) := List.map_map
  unfold State.attendCheck
  simp only [first, noIllegal, entries, reach, if_neg (Nat.not_lt.2 rows), State.foldl_tsErrs_nil, List.append_nil, List.isEmpty_nil,
    Bool.not_true, Bool.false_eq_true, if_false, State.attendOver, State.trapOne, State.thread_putAttend]
  rfl

theorem State.attendOver_spec (free : Untrapped s x a.k) :
    TrapsWith s (s.attendOver x a) x a.k 0x25 (min (ceilDiv a.bound 256) 0xFFFF) false ∧
    ((s.attendOver x a).tile x).attends = (s.tile x).attends.map (fun m => if m = a then { a with ran := true } else m) ∧
    ConfinedTo x s (s.attendOver x a) := by
  let v := s.putAttend x a (some { a with ran := true })
  have marked : ConfinedTo x s v := (ConfinedTo.refl x s).updTile _
  have thread : v.thread x a.k = s.thread x a.k := State.thread_putAttend ..
  have trap : EngineOnly x v (s.attendOver x a) := State.trapOne_engineOnly ..
  refine ⟨?_, trap.attends.trans (congrArg Tile.attends (State.tile_putAttend_some ..)), marked.trans trap.1⟩
  unfold State.attendOver
  rw [State.trapOne_eq]
  exact TrapsWith.of_before (State.trapThread_trapsWith (Untrapped.of_same free thread rfl) ..) thread marked.beatNow marked.now

end

/-! ### The results land (R146, R160) -/

section
variable (s : State) (x : Nat) (a : Attend)

/-- The writes of a step to its tile store. -/
def State.attendWrites : State := a.writes.foldl (fun z w => z.tsWrite x w.1 w.2) s

/-- A step's writes done and its head no longer BUSY. -/
def State.attendIdle : State := ((s.attendWrites x a).putAttend x a none).wr F.KVS_STATE_BUSY (hIx x (adHead a.desc)) 0

/-- A step counted, and its shadow write-through due (R156, R160). -/
def State.attendCount : State :=
  (s.wr F.KVS_COUNT_STEPS (hIx x (adHead a.desc)) (s.rd F.KVS_COUNT_STEPS (hIx x (adHead a.desc)) + 1)).updTile x (fun t => { t with
    shadows := t.shadows ++ [⟨adHead a.desc, a.shadow⟩] })

theorem State.attendLand_of_find (first : (s.tile x).attends.find? (fun a => a.ran) = some a) :
    s.attendLand x = if a.ok then (s.attendIdle x a).attendCount x a else s.attendIdle x a := by
  unfold State.attendLand
  rw [first]
  rfl

theorem State.attendWrites_storeOnly : StoreOnly x s (s.attendWrites x a) :=
  StoreOnly.foldl _ (fun z _ => z.tsWrite_storeOnly x _ _) _ _

theorem State.tile_attendIdle :
    (s.attendIdle x a).tile x = { (s.attendWrites x a).tile x with attends := (s.tile x).attends.erase a } := by
  simp [State.attendIdle, State.putAttend, (s.attendWrites_storeOnly x a).attends]

theorem State.attendIdle_confined : StoreConfined x s (s.attendIdle x a) :=
  ((s.attendWrites_storeOnly x a).confined.updTile _).regs ((SameButRegs.refl _).wr _ _ _)

theorem State.attendIdle_sets : Sets [(F.KVS_STATE_BUSY, hIx x (adHead a.desc), 0)] s (s.attendIdle x a) :=
  ((Sets.refl _).wr F.KVS_STATE_BUSY _ 0 (by decide) (by simp)).from_fv (s.attendWrites_storeOnly x a).fv

theorem State.attendCount_sets {w : List (Fld × Nat × Nat)} {s s' : State} (h : Sets w s s')
    (new : ∀ e ∈ w, e.1.key e.2.1 ≠ F.KVS_COUNT_STEPS.key (hIx x (adHead a.desc))) :
    Sets ((F.KVS_COUNT_STEPS, hIx x (adHead a.desc), (s.rd F.KVS_COUNT_STEPS (hIx x (adHead a.desc)) + 1) % 2 ^ 32) :: w) s
      (s'.attendCount x a) := by
  have kept : s'.rd F.KVS_COUNT_STEPS (hIx x (adHead a.desc)) = s.rd F.KVS_COUNT_STEPS (hIx x (adHead a.desc)) := h.2 _ _ fun listed => by
    rw [List.map_map] at listed
    obtain ⟨e, he, same⟩ := List.mem_map.1 listed
    exact new e he same
  rw [← kept]
  exact (h.wr F.KVS_COUNT_STEPS _ _ (by decide) new).of_fv rfl

/-- The end of a step: what its tile lists afterwards. -/
theorem State.attendLand_tile (first : (s.tile x).attends.find? (fun a => a.ran) = some a) :
    ((s.attendLand x).tile x).attends = (s.tile x).attends.erase a ∧
    ((s.attendLand x).tile x).shadows =
      if a.ok then (s.tile x).shadows ++ [⟨adHead a.desc, a.shadow⟩] else (s.tile x).shadows := by
  have idle := s.tile_attendIdle x a
  have attends : ((s.attendIdle x a).tile x).attends = (s.tile x).attends.erase a := by rw [idle]
  have shadows : ((s.attendIdle x a).tile x).shadows = (s.tile x).shadows := by
    rw [idle, ← (s.attendWrites_storeOnly x a).shadows]
  rw [s.attendLand_of_find x a first]
  split
  · exact ⟨by simp [State.attendCount, attends], by simp [State.attendCount, shadows]⟩
  · exact ⟨attends, shadows⟩

theorem State.attendLand_ts (first : (s.tile x).attends.find? (fun a => a.ran) = some a) :
    (s.attendLand x).ts = (s.attendWrites x a).ts := by
  rw [s.attendLand_of_find x a first]
  split <;> rfl

theorem State.attendLand_sets (first : (s.tile x).attends.find? (fun a => a.ran) = some a) :
    Sets ((F.KVS_STATE_BUSY, hIx x (adHead a.desc), 0) ::
      (if a.ok then [(F.KVS_COUNT_STEPS, hIx x (adHead a.desc), (s.rd F.KVS_COUNT_STEPS (hIx x (adHead a.desc)) + 1) % 2 ^ 32)]
        else [])) s (s.attendLand x) := by
  rw [s.attendLand_of_find x a first]
  split
  · refine (State.attendCount_sets x a (s.attendIdle_sets x a) (by simpa using Fld.key_ne_same (by decide) _)).of_mem_iff fun e => ?_
    simp only [List.mem_cons, List.not_mem_nil, or_false]
    exact or_comm
  · exact s.attendIdle_sets x a

theorem State.attendLand_confined (first : (s.tile x).attends.find? (fun a => a.ran) = some a) : StoreConfined x s (s.attendLand x) := by
  rw [s.attendLand_of_find x a first]
  split
  · exact ((s.attendIdle_confined x a).regs ((SameButRegs.refl _).wr _ _ _)).updTile _
  · exact s.attendIdle_confined x a

end

/-! ### A row that sees no page (R148) -/

theorem attendRow_of_unseen (d dim ctr : Nat) (q : List Val) {pages : List PageView} (holes : Bool) (unseen : ∀ p ∈ pages, p.vis = []) :
    attendRow d dim ctr q pages holes =
      ⟨List.replicate (dim * (fmtBits (fmtD (dsc d 2 1)) / 8)) 0, noMass, 1 + 8 * bit holes, [], ctr, false, 0⟩ := by
  have none : pages.filter (fun p => !p.vis.isEmpty) = [] := List.filter_eq_nil_iff.2 fun p hp => by simp [unseen p hp]
  unfold attendRow
  simp [none]

end Sys2Proof.Machine
end

section
namespace Sys2Proof
open Machine

/-- Settles O13: ATTEND is `State.attendTaken` and, unless it has no entries or no budget, `State.attendBegun`; the check goes to
`State.attendOver` or to the work; the end is `State.attendIdle` and, for a step that passed its checks, `State.attendCount`. -/
theorem attentionSteps : Obligations.AttentionSteps := by
  unfold Obligations.AttentionSteps
  refine ⟨fun t x s => ?_, fun d dim ctr q pages holes unseen => ?_⟩
  · intro u
    refine ⟨fun sl slot => ?_, fun a first => ?_, fun a first => ?_⟩
    · intro j d empty
      have start := u.attendStart_of_find x sl slot
      have sets := (u.attendTaken_sets x sl).from_fv (s := s) rfl
      have taken := ConfinedTo.attendTaken u x sl
      by_cases none : empty
      · have run : execAttend t x s = .next _ := congrArg Host.Outcome.next (start.trans (if_pos none))
        have tile := u.tile_attendTaken x sl
        obtain ⟨tiles, rest⟩ := taken.updTile (fun t => { t with mvEnd := sl.cyc + 1 })
        exact ⟨_, run, by simp [none, tile, u], by simp [none], by simp [tile, u], by rw [if_pos none]; exact sets.of_fv rfl,
          fun _ => by simp [tile, u], fun some => absurd none some, tiles, rest⟩
      · have run : execAttend t x s = .next _ := congrArg Host.Outcome.next (start.trans (if_neg none))
        have tile := u.tile_attendBegun_attendTaken x sl (u.attendNew x sl)
        have listed := sets.attendBegun x (u.attendNew x sl) (by
          simp only [List.forall_mem_cons]
          exact ⟨⟨by decide, by omega⟩, ⟨by decide, by omega⟩, List.forall_mem_nil _⟩)
        obtain ⟨tiles, rest⟩ := taken.attendBegun x (u.attendNew x sl)
        refine ⟨_, run, ?_, ?_, ?_, listed.of_mem_iff fun e => ?_, fun quiet => ?_, fun _ scored q => ?_, tiles, rest⟩
        · exact (congrArg Tile.attends tile).trans (if_neg none).symm
        · rw [if_neg none]; exact congrArg Tile.mvEnd tile
        · exact congrArg Tile.eng tile
        · rw [if_neg none]
          exact (List.mem_append.trans or_comm).trans (List.mem_append (s := [_])).symm
        · exact (congrArg Tile.score tile).trans (if_pos (quiet.resolve_left none))
        · have live : adNoScore (u.attendNew x sl).desc = false := scored
          simp only [tile, live, Bool.false_eq_true, if_false, Tab.get_dropWhere, beq_iff_eq]
          rfl
    · intro d h es legal rows reach
      have run : execAttendBudgetCheck t x [] s = .next _ :=
        congrArg Host.Outcome.next (State.attendCheck_of_legal (s := u) first legal rows reach)
      refine ⟨fun within => ?_, fun exceeds free => ?_⟩
      · rw [if_neg (Nat.not_lt.2 within)] at run
        have notRan : a.ran = false := by simpa using List.find?_some first
        exact ⟨_, run, u.notMem_attendWork x notRan []⟩
      · rw [if_pos exceeds] at run
        obtain ⟨traps, attends, tiles, rest⟩ := State.attendOver_spec free
        exact ⟨_, run, traps, by rw [rest]; rfl, by rw [rest]; rfl, attends, tiles, rest⟩
    · obtain ⟨attends, shadows⟩ := u.attendLand_tile x a first
      obtain ⟨tiles, rest⟩ := u.attendLand_confined x a first
      have run : execAttendWriteBack t x s = .next (u.attendLand x) := rfl
      exact ⟨_, run, attends, shadows, u.attendLand_ts x a first, (u.attendLand_sets x a first).from_fv rfl, tiles, rest⟩
  · intro r
    have row : r = _ := attendRow_of_unseen d dim ctr q holes unseen
    rw [row]
    have seen : ∀ b, (1 + 8 * bit b).testBit 0 = true := by decide
    exact ⟨rfl, rfl, seen holes, rfl⟩

end Sys2Proof
end

section
/-! SUPPORT. What a random slot changes (R235, R236, R238): one context of its tile, and the draws on their way to a register. -/

namespace Sys2Proof.Machine

/-! ### Changes of one tile -/

/-- Outside tile x the state is as it was. -/
def TileOnly (x : Nat) (s s' : State) : Prop := KeepsTiles x s s' ∧ s' = { s with tiles := s'.tiles }

theorem TileOnly.refl (x : Nat) (s : State) : TileOnly x s s := ⟨fun _ _ => rfl, rfl⟩

theorem TileOnly.updTile {x : Nat} {s s' : State} (h : TileOnly x s s') (f : Tile → Tile) : TileOnly x s (s'.updTile x f) := by
  obtain ⟨tiles, rest⟩ := h
  refine ⟨fun y other => (State.tile_updTile_ne s' f other).trans (tiles y other), ?_⟩
  rw [rest]; rfl

/-! ### The contexts of a tile -/

@[simp] theorem State.ctx_updCtx_same (s : State) (x n : Nat) (f : Ctx → Ctx) : (s.updCtx x n f).ctx x n = f (s.ctx x n) := by
  simp [State.ctx]

theorem State.ctx_updCtx_ne (s : State) (x c : Nat) (f : Ctx → Ctx) {n : Nat} (h : n ≠ c) : (s.updCtx x c f).ctx x n = s.ctx x n := by
  simp [State.ctx, Tab.get_upd_ne _ _ _ _ h]

/-! ### A random slot taken up -/

/-- The slot leaves its engine, and its context changes. -/
def State.rngTake (s : State) (x : Nat) (sl : Slot) (f : Ctx → Ctx) : State :=
  (s.updEng x (fun e => { e with slots := e.slots.erase sl })).updCtx x (rsCtx sl.word) f

section
variable (s : State) (x : Nat) (sl : Slot) (f : Ctx → Ctx)

theorem State.ctx_rngTake_same : (s.rngTake x sl f).ctx x (rsCtx sl.word) = f (s.ctx x (rsCtx sl.word)) := by
  simp [State.rngTake]

theorem State.ctx_rngTake_ne {n : Nat} (h : n ≠ rsCtx sl.word) : (s.rngTake x sl f).ctx x n = s.ctx x n :=
  (State.ctx_updCtx_ne _ _ _ _ h).trans (s.ctx_updEng x _ n)

@[simp] theorem State.slots_rngTake : ((s.rngTake x sl f).tile x).eng.slots = (s.tile x).eng.slots.erase sl := by
  simp [State.rngTake]

@[simp] theorem State.draws_rngTake : ((s.rngTake x sl f).tile x).draws = (s.tile x).draws := by
  simp [State.rngTake]

theorem State.rngTake_tileOnly : TileOnly x s (s.rngTake x sl f) := ((TileOnly.refl x s).updTile _).updTile _

/-- The context that an OPEN sets (R231, R234, R235, R238). -/
def State.rngOpened : Ctx :=
  let r := s.vreg x (rsVreg sl.word)
  ⟨plgKey (r.getD 0 0) (r.getD 1 0) (r.getD 2 0) (if sl.word.testBit 12 then (s.tile x).facts.logical else r.getD 3 0),
    sl.word.testBit 13, sl.word.testBit 12, true, 0, true, sl.cyc + 32⟩

/-- A context that a SEEK moves to the element of its register's first two lanes (R235, R238). -/
def State.rngSought (c : Ctx) : Ctx :=
  let r := s.vreg x (rsVreg sl.word)
  { c with e := r.getD 0 0 % 2 ^ 32 + 2 ^ 32 * (r.getD 1 0 % 2 ^ 32), busy := true, due := sl.cyc + 1024 }

/-- The elements that one draw serves (R233). -/
def Ctx.per (c : Ctx) : Nat := if c.k3 then 21 else 16

/-- The element index after a DRAW: 256 groups on (R236). -/
def Ctx.afterDraw (c : Ctx) : Nat := (c.e / c.per + 256) * c.per % 2 ^ 64

/-- The draws that a DRAW sends to its register (R236, R238). -/
def State.rngPend : VecPend :=
  let c := s.ctx x (rsCtx sl.word)
  ⟨rsVreg sl.word, sl.cyc + 8, drawLanes s.seed c.key (c.e / c.per)⟩

/-- A DRAW taken up: its context is 256 groups on and its draws are on their way. -/
def State.rngDrawn : State :=
  (s.rngTake x sl (fun c => { c with e := (s.ctx x (rsCtx sl.word)).afterDraw })).updTile x (fun t => { t with
    drawFree := sl.cyc + 4, draws := t.draws ++ [s.rngPend x sl] })

theorem State.ctx_rngDrawn_same :
    (s.rngDrawn x sl).ctx x (rsCtx sl.word) = { s.ctx x (rsCtx sl.word) with e := (s.ctx x (rsCtx sl.word)).afterDraw } := by
  rw [← s.ctx_rngTake_same x sl (fun c => { c with e := (s.ctx x (rsCtx sl.word)).afterDraw })]
  simp [State.rngDrawn, State.ctx]

theorem State.tile_rngDrawn :
    ((s.rngDrawn x sl).tile x).draws = (s.tile x).draws ++ [s.rngPend x sl] ∧ ((s.rngDrawn x sl).tile x).drawFree = sl.cyc + 4 ∧
    ((s.rngDrawn x sl).tile x).eng.slots = (s.tile x).eng.slots.erase sl := by
  simp [State.rngDrawn]

theorem State.rngDrawn_tileOnly : TileOnly x s (s.rngDrawn x sl) := (s.rngTake_tileOnly x sl _).updTile _

end

section
variable {s : State} {x : Nat} {sl : Slot}

theorem State.rngOpen_of_find (h : (s.tile x).eng.slots.find? (fun l => l.kind == 7 && rsOp l.word == 1) = some sl) :
    s.rngOpen x = s.rngTake x sl (fun _ => s.rngOpened x sl) := by
  unfold State.rngOpen
  rw [State.takeSlot_of_find h]
  rfl

theorem State.rngSeek_of_find (h : (s.tile x).eng.slots.find? (fun l => l.kind == 7 && rsOp l.word == 2) = some sl) :
    s.rngSeek x = s.rngTake x sl (s.rngSought x sl) := by
  unfold State.rngSeek
  rw [State.takeSlot_of_find h]
  rfl

theorem State.rngDraw_of_find (h : (s.tile x).eng.slots.find? (fun l => l.kind == 7 && rsOp l.word == 3) = some sl) :
    s.rngDraw x = s.rngDrawn x sl := by
  unfold State.rngDraw
  rw [State.takeSlot_of_find h]
  rfl

end

/-! ### A context ready, and draws written (R238) -/

theorem State.ctxReady_of_due {s : State} {x k : Nat} (busy : (s.ctx x k).busy = true) (due : (s.ctx x k).due ≤ s.gclk) :
    s.ctxReady x k = s.updCtx x k (fun e => { e with busy := false }) := if_pos ⟨busy, due⟩

/-- The draws p written to their register. -/
def State.drawLand (s : State) (x : Nat) (p : VecPend) : State :=
  (s.updTile x (fun z => { z with draws := z.draws.erase p })).setVreg x p.dst p.lanes

theorem execDrawWrite_of_find {t : Nat} {x : TileIx} {s : State} {p : VecPend}
    (h : (s.tile x).draws.find? (fun p => decide (p.due ≤ (s.tick t).gclk)) = some p) :
    execDrawWrite t x s = .next ((s.tick t).drawLand x p) := by
  simp only [execDrawWrite, State.tile_tick, h]
  rfl

section
variable (s : State) (x : Nat) (p : VecPend)

theorem State.vreg_drawLand_ne {r : Nat} (h : r ≠ p.dst) : (s.drawLand x p).vreg x r = s.vreg x r := by
  rw [State.drawLand, State.vreg_setVreg_ne _ _ _ _ h, State.vreg, State.tile_updTile_same, ← State.vreg]

theorem State.draws_drawLand : ((s.drawLand x p).tile x).draws = (s.tile x).draws.erase p := by
  rw [State.drawLand, State.setVreg, State.tile_updEng_same, State.tile_updTile_same]

theorem State.drawLand_tileOnly : TileOnly x s (s.drawLand x p) := ((TileOnly.refl x s).updTile _).updTile _

end

end Sys2Proof.Machine
end

section
namespace Sys2Proof
open Machine

/-- Settles O26: OPEN and SEEK are `State.rngTake` and DRAW is `State.rngDrawn`; a context that is due is ready, and draws that are due are
`State.drawLand`. -/
theorem randomSlots : Obligations.RandomSlots := by
  unfold Obligations.RandomSlots
  intro t x s u frame
  refine ⟨fun sl slot => ?_, fun sl slot => ?_, fun sl slot => ?_, fun k busy due c which => ?_, fun p first => ?_⟩
  · exact ⟨u.rngTake x sl (fun _ => u.rngOpened x sl), congrArg Host.Outcome.next (State.rngOpen_of_find (s := u) slot),
      u.ctx_rngTake_same x sl _, fun _ => u.ctx_rngTake_ne x sl _, u.slots_rngTake x sl _, u.rngTake_tileOnly x sl _⟩
  · exact ⟨u.rngTake x sl (u.rngSought x sl), congrArg Host.Outcome.next (State.rngSeek_of_find (s := u) slot),
      u.ctx_rngTake_same x sl _, fun _ => u.ctx_rngTake_ne x sl _, u.slots_rngTake x sl _, u.rngTake_tileOnly x sl _⟩
  · obtain ⟨draws, free, slots⟩ := u.tile_rngDrawn x sl
    exact ⟨u.rngDrawn x sl, congrArg Host.Outcome.next (State.rngDraw_of_find (s := u) slot),
      u.ctx_rngDrawn_same x sl, draws, free, slots, u.rngDrawn_tileOnly x sl⟩
  · let v := u.updCtx x k (fun e => { e with busy := false })
    have ready : u.ctxReady x k = v := State.ctxReady_of_due (s := u) busy due
    have run : exec c s = .next v := by
      simp only [List.mem_cons, List.not_mem_nil, or_false] at which
      rcases which with rfl | rfl
      · exact congrArg Host.Outcome.next ready
      · exact congrArg Host.Outcome.next ready
    exact ⟨v, run, u.ctx_updCtx_same x k _, fun _ => u.ctx_updCtx_ne x k _, by simp [v, u], (TileOnly.refl x.val u).updTile _⟩
  · exact ⟨u.drawLand x p, execDrawWrite_of_find first, State.vreg_setVreg_same _ _ _ _, fun _ => u.vreg_drawLand_ne x p,
      u.draws_drawLand x p, u.drawLand_tileOnly x p⟩

end Sys2Proof
end

section
/-! SUPPORT. Two states in which something is booked to an exchange channel that does not exist. The copies of a register field are kept 65,536
apart, so that SEQ_XCH_STATUS.STATE of such a channel lies where a register of another field does. -/

namespace Sys2Proof.Machine

/-! ### A START whose undoing writes where BEAT_STATUS.STATE lies -/

/-- A thread that was started at cycle 0; the START cleared the halt of channel 113 × 65,536. -/
def farStartThread : Thread := { Thread.idle with save := some ⟨0, [], [], [113 * 65536], 0, 0⟩ }

/-- The module in HOLDOVER for 131,072 beats, with that thread running on tile 0, a COMPUTE position, and everything else as before
power-good. -/
def farHoldoverState : State :=
  { (State.reset.wr F.BEAT_STATUS_STATE 0 2).wr F.SEQ_THREAD_CTL_RUNNING 0 1 with
    beat := { BeatState.idle with base := 131072 },
    tiles := [(0, { Tile.idle with
      eng := { Tile.idle.eng with threads := [(0, farStartThread)] }, facts := { Tile.idle.facts with role := 0 } })] }

/-- The trap of the expiry puts the channel's STATE back to 2, and the beat reads HOLDOVER again. -/
theorem farHoldoverState_expired : (farHoldoverState.tick 0).holdoverExpire.rd F.BEAT_STATUS_STATE 0 = 2 := by decide +kernel

/-! ### A receipt for a channel whose SEQ_XCH_STATUS.STATE lies where LNK_CELLS.RCPT_FAIL of port 0 does -/

/-- The module before power-good but for a chunk of channel 177 × 65,536 of tile 0 whose receipt port 0 awaits. -/
def farReceiptState : State := State.reset.updPort 0 (fun p => { p with queue := [(0, 177 * 65536)] })

/-- The channel's STATE reads 2 (halted), where the count of failed receipts should read 1. -/
theorem farReceiptState_failed : ((farReceiptState.tick 0).receipt 0 1).rd F.LNK_CELLS_RCPT_FAIL 0 = 2 := by decide +kernel

end Sys2Proof.Machine
end

section
namespace Sys2Proof
open Machine

/-- Refutes O28 by the expiry of a holdover. What a START changed is kept until the cycle ends, and its list of channels may name any; the trap
of the expiry undoes the START, and STATE of channel 113 × 65,536 of tile 0, set back to 2, lies where BEAT_STATUS.STATE does. The beat reads
HOLDOVER (2) where the statement asks for 3. -/
theorem not_epochWords : ¬ Obligations.EpochWords := by
  unfold Obligations.EpochWords
  rintro ⟨-, beats⟩
  obtain ⟨-, expires, -⟩ := beats 0 farHoldoverState
  obtain ⟨s', next, state, -⟩ := expires (by decide +kernel) (by decide +kernel)
  obtain rfl : (farHoldoverState.tick 0).holdoverExpire = s' := by injection next
  exact absurd (farHoldoverState_expired.symm.trans state) (by decide)

/-- Refutes O32 by its last clause: the receipt queue may name any channel. A failed receipt counts in LNK_CELLS.RCPT_FAIL of port 0 and halts
channel 177 × 65,536 of tile 0, whose SEQ_XCH_STATUS.STATE lies where that count does: the count reads 2 (the code of a halted channel) and
not 1. -/
theorem not_cellsReceived : ¬ Obligations.CellsReceived := by
  unfold Obligations.CellsReceived
  intro cells
  obtain ⟨-, -, -, -, receipt⟩ := cells 0 0 farReceiptState
  obtain ⟨s', next, -, count, -⟩ := receipt 0 (177 * 65536) [] 1 (by decide +kernel) (by decide)
  obtain rfl : (farReceiptState.tick 0).receipt 0 1 = s' := by injection next
  have before : satAdd 16 (farReceiptState.rd F.LNK_CELLS_RCPT_FAIL 0) 1 = 1 := by decide +kernel
  have wrong : 2 = 1 := (farReceiptState_failed.symm.trans count).trans before
  exact absurd wrong (by decide)

end Sys2Proof
end

section
/-! SUPPORT. What a message of the schedule domain does to the module that hears or issues it (R261, R263, R265). -/

namespace Sys2Proof.Machine

/-- A message noted as seen and queued for every port of the domain (R261). -/
def State.passOn (s : State) (m : Msg) : State := { s with beat := { s.beat with seen := m :: s.beat.seen, send := s.beat.send ++ [m] } }

/-- The message that a port's message field of a type and issuer spells (R312). -/
def State.fieldMsg (s : State) (type issuer value : Nat) : Msg :=
  ⟨type, issuer, nearValue (if type < 3 then s.frameNow else s.beatNow) value⟩

theorem State.issue_eq (s : State) (type target : Nat) :
    s.issue type target = (s.passOn ⟨type, s.selfIndex, target⟩).applyMsg ⟨type, s.selfIndex, target⟩ := rfl

theorem State.hear_of_new {s : State} {type issuer value : Nat} (q : Nat)
    (fresh : s.beat.seen.contains (s.fieldMsg type issuer value) = false) (inTime : s.msgLate (s.fieldMsg type issuer value) = false) :
    s.hear q type issuer value = (s.passOn (s.fieldMsg type issuer value)).applyMsg (s.fieldMsg type issuer value) := by
  unfold State.fieldMsg at fresh inTime
  simp only [State.hear, fresh, inTime, Bool.false_eq_true, if_false, State.passOn, State.fieldMsg]

/-- A message changes the beat alone, and neither what has been seen nor what is to be sent; only an UNCLAMP of a module that has called no
clamp does more: it is recorded. -/
theorem State.applyMsg_beat {s : State} {m : Msg} (known : m.type < 4 ∨ s.beat.clampers.contains m.issuer = true) :
    (s.applyMsg m).beat.seen = s.beat.seen ∧ (s.applyMsg m).beat.send = s.beat.send ∧ s.applyMsg m = { s with beat := (s.applyMsg m).beat } := by
  unfold State.applyMsg
  obtain ⟨type, issuer, target⟩ := m
  match type with
  | 0 | 1 | 2 => exact ⟨rfl, rfl, rfl⟩
  | 3 =>
    cases resume : s.beat.resumeBeat with
    | none => simp only [resume, and_self]
    | some r => by_cases early : target ≤ r <;> simp only [resume, early, if_true, if_false, and_self]
  | n + 4 =>
    have listed : s.beat.clampers.contains issuer = true := known.resolve_left (Nat.not_lt.2 (Nat.le_add_left 4 n))
    simp only [listed, if_true, and_self]

section
variable (s : State) (i f : Nat)

theorem State.contains_rests_applyRest : (s.applyMsg ⟨0, i, f⟩).beat.rests.contains f = true := by
  simp only [State.applyMsg]
  split
  · assumption
  · simp

theorem State.restAt_applyRest_self : (s.applyMsg ⟨0, i, f⟩).beat.restAt f = true := by
  unfold BeatState.restAt
  rw [s.contains_rests_applyRest, Bool.true_or]

theorem State.restAt_applyRest_ne {g : Nat} (other : g ≠ f) : (s.applyMsg ⟨0, i, f⟩).beat.restAt g = s.beat.restAt g := by
  simp only [State.applyMsg, BeatState.restAt]
  split
  · rfl
  · simp only [List.contains_cons, beq_eq_false_iff_ne.2 other, Bool.false_or]
    rfl

/-- A HOLD of an issuer that holds nothing yet and has resumed nothing (R263). -/
theorem State.applyHold_of_free (noHold : ∀ h ∈ s.beat.holders, h.1 ≠ i) (noResume : ∀ r ∈ s.beat.resumes, r.1 ≠ i) :
    (s.applyMsg ⟨1, i, f⟩).beat = { s.beat with holders := (i, f) :: s.beat.holders } := by
  have kept : s.beat.resumes.filter (fun r => !(r.1 == i && decide (f ≤ r.2))) = s.beat.resumes :=
    List.filter_eq_self.2 fun r hr => by simp [noResume r hr]
  have free : s.beat.holders.any (fun h => h.1 == i && !s.beat.resumes.any (fun r => r.1 == h.1 && decide (h.2 ≤ r.2))) = false :=
    List.any_eq_false.2 fun h hh => by simp [noHold h hh]
  simp only [State.applyMsg, kept, free, Bool.false_eq_true, if_false]

/-- A hold that its issuer has not resumed covers every frame from its own on (R263). -/
theorem BeatState.heldAt_of_mem {b : BeatState} {i f g : Nat} (held : (i, f) ∈ b.holders) (noResume : ∀ r ∈ b.resumes, r.1 ≠ i) (later : f ≤ g) :
    b.heldAt g = true := by
  have unended : b.endsBy (i, f) g = false := List.any_eq_false.2 fun r hr => by simp [noResume r hr]
  exact List.any_eq_true.2 ⟨(i, f), held, by simp [later, unended]⟩

/-- A HOLD leaves its issuer holding: RESUMEs of frames from its own on are dropped, and without a standing hold a new one is listed. -/
theorem State.ownHold_applyHold : (s.applyMsg ⟨1, s.selfIndex, f⟩).ownHold = true := by
  unfold State.ownHold
  have self : (s.applyMsg ⟨1, s.selfIndex, f⟩).selfIndex = s.selfIndex := rfl
  rw [self]
  simp only [State.applyMsg]
  split
  · next standing =>
    rw [← standing]
  · have dropped : (s.beat.resumes.filter (fun r => !(r.1 == s.selfIndex && decide (f ≤ r.2)))).any
        (fun r => r.1 == s.selfIndex && decide (f ≤ r.2)) = false := by
      simp only [List.any_filter, Bool.not_and_self, List.any_eq_false, Bool.false_eq_true, not_false_eq_true, implies_true]
    rw [List.any_cons, dropped, beq_self_eq_true, Bool.not_false, Bool.and_true, Bool.true_or]

/-- A CLAMP lists its issuer (R265). -/
theorem State.contains_clampers_applyClamp : (s.applyMsg ⟨3, i, f⟩).beat.clampers.contains i = true := by
  simp only [State.applyMsg]
  split
  · assumption
  · simp

/-- The first CLAMP of all fixes the freeze's beat (R264). -/
theorem State.applyClamp_of_first (unlisted : s.beat.clampers = []) (noResume : s.beat.resumeBeat = none) (noFreeze : s.beat.freezeBeat = none)
    (running : s.frozen = false) : (s.applyMsg ⟨3, i, f⟩).beat = { s.beat with clampers := [i], freezeBeat := some f } := by
  have unfrozen : s.beat.freezeFrom.isSome = false := running
  simp only [State.applyMsg, unlisted, noResume, noFreeze, unfrozen, List.contains_nil, Bool.false_eq_true, if_false]

/-- An UNCLAMP strikes its issuer off (R265). -/
theorem State.contains_clampers_applyUnclamp (listed : s.beat.clampers.contains i = true) :
    (s.applyMsg ⟨4, i, f⟩).beat.clampers.contains i = false := by
  simp only [State.applyMsg, listed, if_true]
  simp

/-- The UNCLAMP of the only module that has called a clamp fixes the beat at which the freeze ends (R264, R265). -/
theorem State.applyUnclamp_of_only (only : s.beat.clampers = [i]) (frozen : s.frozen = true) :
    (s.applyMsg ⟨4, i, f⟩).beat = { s.beat with clampers := [], resumeBeat := some (s.resumeOf s.beat.lastFreeze f) } := by
  have standing : s.beat.freezeFrom.isSome = true := frozen
  have listed : [i].contains i = true := by simp
  have struck : [i].filter (fun j => j != i) = [] := by simp
  simp only [State.applyMsg, only, listed, struck, standing, List.isEmpty_nil, if_true]

end

/-! ### When a message is late (R262, R265) -/

theorem State.msgLate_of_frame {s : State} {type i f : Nat} (kind : type < 3) (ahead : s.frameNow < f) : s.msgLate ⟨type, i, f⟩ = false := by
  match type, kind with
  | 0, _ | 1, _ | 2, _ => exact decide_eq_false (Nat.not_le.2 ahead)

theorem State.msgLate_of_clamp {s : State} {i b : Nat} (ahead : s.beatNow < b) : s.msgLate ⟨3, i, b⟩ = false :=
  decide_eq_false (Nat.not_le.2 ahead)

/-- The UNCLAMP of the only module that has called a clamp, before the beat that it fixes. -/
theorem State.msgLate_of_unclamp {s : State} {i b : Nat} (only : s.beat.clampers = [i]) (frozen : s.frozen = true)
    (ahead : s.beatNow < s.resumeOf s.beat.lastFreeze b) : s.msgLate ⟨4, i, b⟩ = false := by
  have standing : s.beat.freezeFrom.isSome = true := frozen
  have fixes : s.unclampBeat ⟨4, i, b⟩ = some (s.resumeOf s.beat.lastFreeze b) := by simp [State.unclampBeat, only, standing]
  simp only [State.msgLate, fixes]
  exact decide_eq_false (Nat.not_le.2 ahead)

/-! ### A message heard, and one issued -/

/-- What a new message in time does when command c brings it by a port: it is noted, passed on, and acts. -/
theorem Completes.heard {c : Instr} {s v : State} {q type issuer value : Nat} {p : State → Prop}
    (run : exec c s = .next (v.hear q type issuer value)) (fresh : v.beat.seen.contains (v.fieldMsg type issuer value) = false)
    (inTime : v.msgLate (v.fieldMsg type issuer value) = false) (known : type < 4 ∨ v.beat.clampers.contains issuer = true)
    (acts : p ((v.passOn (v.fieldMsg type issuer value)).applyMsg (v.fieldMsg type issuer value))) :
    Completes c s fun s' =>
      s'.beat.seen = v.fieldMsg type issuer value :: v.beat.seen ∧ s'.beat.send = v.beat.send ++ [v.fieldMsg type issuer value] ∧ p s' ∧
      s' = { v with beat := s'.beat } := by
  obtain ⟨seen, send, rest⟩ := State.applyMsg_beat (s := v.passOn (v.fieldMsg type issuer value)) (m := v.fieldMsg type issuer value) known
  exact ⟨_, run.trans (congrArg Host.Outcome.next (State.hear_of_new q fresh inTime)), seen, send, acts, rest⟩

/-- What a message that the module issues does: it is sent on, and acts here. -/
theorem Completes.issued {c : Instr} {s v : State} {type target : Nat} {p : State → Prop}
    (run : exec c s = .next (v.issue type target)) (known : type < 4 ∨ v.beat.clampers.contains v.selfIndex = true)
    (acts : p ((v.passOn ⟨type, v.selfIndex, target⟩).applyMsg ⟨type, v.selfIndex, target⟩)) :
    Completes c s fun s' =>
      s'.beat.send = v.beat.send ++ [⟨type, v.selfIndex, target⟩] ∧ p s' ∧ s' = { v with beat := s'.beat } := by
  obtain ⟨-, send, rest⟩ := State.applyMsg_beat (s := v.passOn ⟨type, v.selfIndex, target⟩) (m := ⟨type, v.selfIndex, target⟩) known
  exact ⟨_, run, send, acts, rest⟩

end Sys2Proof.Machine
end

section
namespace Sys2Proof
open Machine

/-- Settles O29: a message heard is `Completes.heard`, one issued is `Completes.issued`, and what each type does to the beat is said of
`State.applyMsg`. -/
theorem domainMessages : Obligations.DomainMessages := by
  unfold Obligations.DomainMessages
  refine ⟨fun t q issuer value s => ?_, fun t issuer value s => ?_⟩
  · intro v frame beat new heard
    refine ⟨fun fresh ahead => ?_, fun fresh ahead noHold noResume => ?_, fun fresh ahead => ?_,
      fun fresh ahead first noResume noFreeze running => ?_, fun fresh only frozen ahead => ?_⟩
    · exact Completes.heard (v := v) (type := 0) rfl fresh (State.msgLate_of_frame (by decide) ahead) (.inl (by decide))
        ⟨State.contains_rests_applyRest _ _ _, fun _ => State.restAt_applyRest_ne _ _ _⟩
    · have holds := State.applyHold_of_free (v.passOn ⟨1, issuer, frame⟩) issuer frame noHold noResume
      refine Completes.heard (v := v) (type := 1) rfl fresh (State.msgLate_of_frame (by decide) ahead) (.inl (by decide)) ⟨?_, fun f later => ?_⟩
      · exact congrArg BeatState.holders holds
      · refine (congrArg (BeatState.heldAt · f) holds).trans ?_
        exact BeatState.heldAt_of_mem List.mem_cons_self noResume later
    · exact Completes.heard (v := v) (type := 2) rfl fresh (State.msgLate_of_frame (by decide) ahead) (.inl (by decide)) ⟨rfl, rfl⟩
    · have clamps := State.applyClamp_of_first (v.passOn ⟨3, issuer, beat⟩) issuer beat first noResume noFreeze running
      exact Completes.heard (v := v) (type := 3) rfl fresh (State.msgLate_of_clamp ahead) (.inl (by decide))
        ⟨congrArg BeatState.clampers clamps, congrArg BeatState.freezeBeat clamps⟩
    · have listed : s.beat.clampers.contains issuer.val = true := by simp [only]
      have unclamps := State.applyUnclamp_of_only (v.passOn ⟨4, issuer, beat⟩) issuer beat only frozen
      exact Completes.heard (v := v) (type := 4) rfl fresh (State.msgLate_of_unclamp only frozen ahead) (.inr listed)
        ⟨congrArg BeatState.clampers unclamps, congrArg BeatState.resumeBeat unclamps⟩
  · intro v target me
    refine ⟨fun c which => ?_, fun free c which => ?_, fun holding c which => ?_, fun unlisted => ?_, fun listed => ?_⟩
    · have run : exec c s = .next (v.issue 0 target) := by
        simp only [List.mem_cons, List.not_mem_nil, or_false] at which
        rcases which with rfl | rfl <;> rfl
      exact Completes.issued run (.inl (by decide)) (State.restAt_applyRest_self _ _ _)
    · have run : exec c s = .next (v.issue 1 target) := by
        have asks : v.say 1 = v.issue 1 target := if_neg (Bool.eq_false_iff.1 free)
        simp only [List.mem_cons, List.not_mem_nil, or_false] at which
        rcases which with rfl | rfl <;> exact congrArg Host.Outcome.next asks
      exact Completes.issued run (.inl (by decide)) (State.ownHold_applyHold _ _)
    · have run : exec c s = .next (v.issue 2 target) := by
        have asks : v.say 2 = v.issue 2 target := if_pos holding
        simp only [List.mem_cons, List.not_mem_nil, or_false] at which
        rcases which with rfl | rfl <;> exact congrArg Host.Outcome.next asks
      exact Completes.issued run (.inl (by decide)) rfl
    · have asks : v.say 3 = v.issue 3 (v.beatNow + v.propagation) := if_neg (Bool.eq_false_iff.1 unlisted)
      have run : exec (.msgClamp t none issuer value) s = .next (v.issue 3 (v.beatNow + v.propagation)) := congrArg Host.Outcome.next asks
      exact Completes.issued run (.inl (by decide)) (State.contains_clampers_applyClamp _ _ _)
    · have asks : v.say 4 = v.issue 4 v.beatNow := if_pos listed
      have run : exec (.msgUnclamp t none issuer value) s = .next (v.issue 4 v.beatNow) := congrArg Host.Outcome.next asks
      exact Completes.issued run (.inr listed) (State.contains_clampers_applyUnclamp _ _ _ listed)

end Sys2Proof
end

section
/-! SUPPORT. Freezes of the schedule domain, the end of a clamp, and the filler, each as the change of the state that it is (R264, R270, R387,
R400). -/

namespace Sys2Proof.Machine

/-! ### What register writes leave alone -/

theorem SameButRegs.beat {s s' : State} (h : SameButRegs s s') : s'.beat = s.beat := h ▸ rfl
theorem SameButRegs.life {s s' : State} (h : SameButRegs s s') : s'.life = s.life := h ▸ rfl
theorem SameButRegs.power {s s' : State} (h : SameButRegs s s') : s'.power = s.power := h ▸ rfl

/-! ### Several copies of one field written -/

theorem State.rd_lt (s : State) (f : Fld) (i : Nat) : s.rd f i < 2 ^ f.w := Nat.mod_lt _ (Nat.two_pow_pos _)

/-- Some copies of a field written, each with a value of its own. -/
def State.wrSome (s : State) (f : Fld) (on : Nat → Bool) (val : Nat → Nat) (l : List Nat) : State :=
  l.foldl (fun a i => if on i then a.wr f i (val i) else a) s

section
variable (s : State) (f : Fld) (on : Nat → Bool) (val : Nat → Nat) (l : List Nat)

theorem State.wrSome_regs : SameButRegs s (s.wrSome f on val l) := by
  suffices ∀ a, SameButRegs s a → SameButRegs s (a.wrSome f on val l) from this s (.refl s)
  induction l with
  | nil => exact fun _ h => h
  | cons i r ih => exact fun a h => ih _ (h.wrIf (on i = true) f i (val i))

theorem State.rd_wrSome_same (wide : f.w ≤ 64) (p : Nat) :
    (s.wrSome f on val l).rd f p = if p ∈ l ∧ on p = true then val p % 2 ^ f.w else s.rd f p := by
  induction l generalizing s with
  | nil => simp [State.wrSome]
  | cons i r ih =>
    refine (ih _).trans ?_
    have one : (if on i then s.wr f i (val i) else s).rd f p = if p = i ∧ on p = true then val p % 2 ^ f.w else s.rd f p := by
      by_cases same : p = i
      · subst same
        by_cases set : on p = true <;> simp [set, State.rd_wr_same _ _ _ _ wide]
      · have other : f.key p ≠ f.key i := by unfold Fld.key; omega
        split <;> simp [same, State.rd_wr_ne _ _ _ _ _ _ other]
    rw [one]
    by_cases later : p ∈ r <;> by_cases set : on p = true <;> simp [later, set]

theorem State.rd_wrSome_of_id {g : Fld} {p : Nat} (id : g.id ≠ f.id) (hp : p < 65536) (bound : ∀ i ∈ l, i < 65536) :
    (s.wrSome f on val l).rd g p = s.rd g p := by
  induction l generalizing s with
  | nil => rfl
  | cons i r ih =>
    refine (ih _ fun j hj => bound j (List.mem_cons_of_mem i hj)).trans ?_
    dsimp only
    split
    · exact State.rd_wr_id _ _ _ _ _ _ id hp (bound i List.mem_cons_self)
    · rfl

end

/-! ### A freeze begins (R264) -/

/-- The module gated from the present cycle on, by the freeze of beat f that it has called itself. -/
def State.frozenAt (s : State) (f : Nat) : State :=
  ((({ s.gate with beat := { s.gate.beat with freezeBeat := none, lastFreeze := f } } : State).sat F.BEAT_FRAME_FREEZES 0 1).wr
    F.BEAT_HOLD_FROZEN 0 1).updPower (fun p => { p with clampFrom := some f })

theorem State.freezeBegin_of_due {s : State} {f : Nat} (called : s.beat.freezeBeat = some f) (due : f ≤ s.beatNow) (running : s.frozen = false)
    (own : s.power.own = true) : s.freezeBegin = s.frozenAt f := by
  have now : f ≤ s.beatNow ∧ (!s.frozen) = true := ⟨due, by rw [running]; rfl⟩
  simp only [State.freezeBegin, called, now, and_self, if_true]
  exact congrArg (fun a : State => a.updPower (fun p => { p with clampFrom := some f })) (if_pos own)

theorem State.frozenAt_sets (s : State) (f : Nat) :
    Sets [(F.BEAT_HOLD_FROZEN, 0, 1), (F.BEAT_FRAME_FREEZES, 0, satAdd 16 (s.rd F.BEAT_FRAME_FREEZES 0) 1)] s (s.frozenAt f) :=
  (((Sets.refl s).of_fv rfl).sat F.BEAT_FRAME_FREEZES 0 1 (by decide) (by simp)).wr F.BEAT_HOLD_FROZEN 0 1 (by decide)
    (by simpa using Fld.key_ne_same (by decide) 0) |>.of_fv rfl

/-! ### A freeze ends (R264), and the clamp with it (R400) -/

/-- A clamp over, as far as the power controller goes (R400). -/
def State.clampLifted (s : State) : State :=
  (s.wr F.THM_STATUS_CLAMPED 0 0).updPower (fun p => { p with
    own := false, clampFrom := none, localFrom := none, callers := 0, calm := 0,
    half := [0, 1, 2, 3, 4, 5, 6, 7].map (fun i => if s.power.callers.testBit i then max 1 (512 * s.cap i) else p.half.getD i 0) })

theorem State.clampOver_eq (s : State) :
    s.clampOver = s.clampLifted.wrSome F.THM_PIER_CAP (s.power.callers.testBit ·) (s.cap · / 2) [0, 1, 2, 3, 4, 5, 6, 7] := rfl

/-- The cap of a pier that called the clamp is halved (R400). -/
theorem State.rd_clampOver_cap (s : State) {p : Nat} (hp : p < 8) :
    s.clampOver.rd F.THM_PIER_CAP p = if s.power.callers.testBit p then s.rd F.THM_PIER_CAP p / 2 else s.rd F.THM_PIER_CAP p := by
  have listed : p ∈ [0, 1, 2, 3, 4, 5, 6, 7] := by
    simp only [List.mem_cons, List.not_mem_nil, or_false]
    omega
  have fits : s.cap p / 2 % 2 ^ F.THM_PIER_CAP.w = s.rd F.THM_PIER_CAP p / 2 :=
    Nat.mod_eq_of_lt (Nat.lt_of_le_of_lt (Nat.div_le_self _ _) (s.rd_lt F.THM_PIER_CAP p))
  have before : s.clampLifted.rd F.THM_PIER_CAP p = s.rd F.THM_PIER_CAP p :=
    State.rd_wr_id s F.THM_PIER_CAP F.THM_STATUS_CLAMPED p 0 0 (by decide) (by omega) (by decide)
  rw [State.clampOver_eq, State.rd_wrSome_same _ _ _ _ _ (by decide), before, fits]
  simp only [listed, true_and]

theorem State.rd_clampOver_of_id (s : State) {g : Fld} (id : g.id ≠ F.THM_PIER_CAP.id) : s.clampOver.rd g 0 = s.clampLifted.rd g 0 := by
  rw [State.clampOver_eq]
  exact State.rd_wrSome_of_id _ _ _ _ _ id (by decide) (by decide)

theorem State.rd_clampOver_clamped (s : State) : s.clampOver.rd F.THM_STATUS_CLAMPED 0 = 0 :=
  (s.rd_clampOver_of_id (by decide)).trans (State.rd_wr_same s F.THM_STATUS_CLAMPED 0 0 (by decide))

theorem State.rd_clampOver_frozen (s : State) : s.clampOver.rd F.BEAT_HOLD_FROZEN 0 = s.rd F.BEAT_HOLD_FROZEN 0 :=
  (s.rd_clampOver_of_id (by decide)).trans
    (State.rd_wr_id s F.BEAT_HOLD_FROZEN F.THM_STATUS_CLAMPED 0 0 0 (by decide) (by decide) (by decide))

theorem State.clampOver_regs (s : State) : SameButRegs s.clampLifted s.clampOver := State.wrSome_regs _ _ _ _ _

theorem State.heldResets_of_nil {s : State} (nothing : s.life.pendingResets = []) : s.heldResets = s := by
  have same : ({ s with life := { s.life with pendingResets := [] } } : State) = s := by rw [← nothing]
  unfold State.heldResets
  rw [nothing, same]
  exact ite_self s

/-- The gated units run again: the cycles of the freeze are added to those gated before. -/
theorem State.ungate_beat {s : State} {c : Nat} (since : s.beat.freezeFrom = some c) :
    s.ungate.beat.freezeFrom = none ∧ s.ungate.beat.gated = s.beat.gated + (s.now - c) ∧ s.ungate = { s with beat := s.ungate.beat } := by
  simp only [State.ungate, since, and_self]

/-- The module ungated, with no freeze shown. -/
def State.thawed (s : State) : State :=
  ({ s.ungate with beat := { s.ungate.beat with resumeBeat := none } } : State).wr F.BEAT_HOLD_FROZEN 0 0

theorem State.thawed_rest {s : State} {c : Nat} (since : s.beat.freezeFrom = some c) :
    s.thawed.power = s.power ∧ s.thawed.life = s.life ∧ s.thawed.rd F.BEAT_HOLD_FROZEN 0 = 0 ∧
    ∀ p < 8, s.thawed.rd F.THM_PIER_CAP p = s.rd F.THM_PIER_CAP p := by
  obtain ⟨-, -, rest⟩ := State.ungate_beat since
  have power : s.ungate.power = s.power := rest ▸ rfl
  have life : s.ungate.life = s.life := rest ▸ rfl
  have fv : s.ungate.fv = s.fv := rest ▸ rfl
  refine ⟨power, life, State.rd_wr_same _ _ _ _ (by decide), fun p hp => ?_⟩
  refine (State.rd_wr_id _ F.THM_PIER_CAP F.BEAT_HOLD_FROZEN p 0 0 (by decide) (by omega) (by decide)).trans ?_
  exact State.rd_of_fv fv _ _

theorem State.freezeEnd_of_due {s : State} {r c : Nat} (fixed : s.beat.resumeBeat = some r) (due : r ≤ s.beatNow)
    (since : s.beat.freezeFrom = some c) (domain : s.power.localFrom = none) (nothing : s.life.pendingResets = []) :
    s.freezeEnd = s.thawed.clampOver := by
  have now : r ≤ s.beatNow ∧ s.frozen = true ∧ s.power.localFrom.isNone = true :=
    ⟨due, by rw [State.frozen, since]; rfl, by rw [domain]; rfl⟩
  have thawed : s.freezeEnd = s.thawed.clampOver.heldResets := by
    simp only [State.freezeEnd, fixed]
    exact if_pos now
  obtain ⟨-, life, -⟩ := State.thawed_rest since
  have held : s.thawed.clampOver.life = s.life := s.thawed.clampOver_regs.life.trans life
  exact thawed.trans (State.heldResets_of_nil ((congrArg Life.pendingResets held).trans nothing))

/-! ### What the filler and a REST of the ramp leave alone (R270, R384, R387) -/

/-- The ramp target, the memories and the tiles are as they were. -/
def KeepsTarget (s s' : State) : Prop :=
  s'.rd F.BEAT_RAMP_TARGET 0 = s.rd F.BEAT_RAMP_TARGET 0 ∧ s'.mem = s.mem ∧ s'.ts = s.ts ∧ s'.tiles = s.tiles

theorem KeepsTarget.refl (s : State) : KeepsTarget s s := ⟨rfl, rfl, rfl, rfl⟩

theorem KeepsTarget.trans {a b c : State} (h : KeepsTarget a b) (g : KeepsTarget b c) : KeepsTarget a c := by
  obtain ⟨target, mem, ts, tiles⟩ := h
  obtain ⟨target', mem', ts', tiles'⟩ := g
  exact ⟨target'.trans target, mem'.trans mem, ts'.trans ts, tiles'.trans tiles⟩

theorem KeepsTarget.ite {c : Prop} [Decidable c] {s a b : State} (h : KeepsTarget s a) (g : KeepsTarget s b) :
    KeepsTarget s (if c then a else b) := by
  split <;> assumption

theorem KeepsTarget.wr (s : State) {f : Fld} (n : Nat) (id : F.BEAT_RAMP_TARGET.id ≠ f.id) : KeepsTarget s (s.wr f 0 n) :=
  ⟨State.rd_wr_ne _ _ _ _ _ _ (Fld.key_ne_same id 0), rfl, rfl, rfl⟩

theorem State.setFiller_keepsTarget (s : State) (total : Nat) : KeepsTarget s (s.setFiller total) := by
  unfold State.setFiller
  extract_lets off r s1 s2
  have shown : KeepsTarget s s1 := (KeepsTarget.refl s).trans (.wr (s.updPower _) _ (by decide))
  have piers : s2 = s1.wrSome F.PWR_RAIL_FILLER_W (fun _ => true) (fun p => r.1.getD p 0) [0, 1, 2, 3, 4, 5, 6, 7] := rfl
  have spread : KeepsTarget s1 s2 := by
    have rest : SameButRegs s1 s2 := piers ▸ State.wrSome_regs _ _ _ _ _
    have target : s2.rd F.BEAT_RAMP_TARGET 0 = s1.rd F.BEAT_RAMP_TARGET 0 :=
      piers ▸ State.rd_wrSome_of_id _ _ _ _ _ (by decide) (by decide) (by decide)
    exact ⟨target, rest ▸ rfl, rest ▸ rfl, rest ▸ rfl⟩
  exact (shown.trans spread).trans (.ite (.refl s2) (.wr s2 _ (by decide)))

theorem State.issueRest_keepsTarget (s : State) (frame : Nat) : KeepsTarget s (s.issue 0 frame) := ⟨rfl, rfl, rfl, rfl⟩

/-- The ramp target after a boundary is what is written to it: the counts, the filler and the REST that follow leave it (R270). -/
theorem State.rampBoundary_target {s : State} (enabled : s.rd F.BEAT_RAMP_ENABLE 0 = 1)
    (period : s.beatNow % 2 ^ s.rd F.BEAT_RAMP_PERIOD_LOG2 0 = 0) (cycle : s.now % 32 = 0) (free : s.rd F.THM_STATUS_CLAMPED 0 ≠ 1) :
    KeepsTarget (s.wr F.BEAT_RAMP_TARGET 0
      (min (min (s.rampNeed (s.framesAhead 257 s.frameNow (s.img s.activeSlot).sched)).1
        ((s.rd F.BEAT_RAMP_TARGET 0 + s.rd F.BEAT_RAMP_STEP 0 : Nat) : Int)).toNat (min s.allowed s.capSum))) s.rampBoundary := by
  have boundary : ¬(s.rd F.BEAT_RAMP_ENABLE 0 = 0 ∨ s.beatNow % 2 ^ s.rd F.BEAT_RAMP_PERIOD_LOG2 0 ≠ 0 ∨ s.now % 32 ≠ 0 ∨
      s.rd F.THM_STATUS_CLAMPED 0 = 1) := by
    simp only [enabled, period, cycle, free, ne_eq, not_true_eq_false, Nat.one_ne_zero, or_self, not_false_eq_true]
  unfold State.rampBoundary
  rw [if_neg boundary]
  extract_lets prev step need want lim target s1 s2 s3
  have counted : KeepsTarget s1 s2 := .ite (.wr s1 _ (by decide)) (.refl s1)
  have filled : KeepsTarget s1 s3 := counted.trans (s2.setFiller_keepsTarget _)
  exact .ite (filled.trans (s3.issueRest_keepsTarget _)) filled

end Sys2Proof.Machine
end

section
namespace Sys2Proof
open Machine

/-- Settles O30: a freeze that begins is `State.frozenAt`, one that ends `State.thawed` with the clamp over, and a ramp boundary writes the target
once. -/
theorem domainFreezes : Obligations.DomainFreezes := by
  unfold Obligations.DomainFreezes
  intro t s v
  refine ⟨fun f called due running own => ?_, fun r c fixed due since domain nothing => ?_, fun enabled period cycle free => ?_⟩
  · exact ⟨v.frozenAt f, congrArg Host.Outcome.next (State.freezeBegin_of_due called due running own), rfl, rfl, rfl, rfl,
      (v.frozenAt_sets f).from_fv rfl, rfl⟩
  · obtain ⟨running, gated, -⟩ := State.ungate_beat (s := v) since
    obtain ⟨power, -, shown, caps⟩ := State.thawed_rest (s := v) since
    have rest := v.thawed.clampOver_regs
    have beat : v.thawed.clampOver.beat = v.thawed.beat := rest.beat
    refine ⟨v.thawed.clampOver, congrArg Host.Outcome.next (State.freezeEnd_of_due fixed due since domain nothing),
      (congrArg BeatState.freezeFrom beat).trans running, (congrArg BeatState.gated beat).trans gated, congrArg BeatState.resumeBeat beat,
      ?_, ?_, congrArg Power.own rest.power, fun p hp => ?_⟩
    · exact (v.thawed.rd_clampOver_frozen).trans shown
    · exact v.thawed.rd_clampOver_clamped
    · rw [State.rd_clampOver_cap _ hp, caps p hp, power]
      rfl
  · obtain ⟨target, mem, ts, tiles⟩ := State.rampBoundary_target (s := v) enabled period cycle free
    exact ⟨v.rampBoundary, rfl, target.trans (State.rd_wr_same _ _ _ _ (by decide)), mem, ts, tiles⟩

end Sys2Proof
end

section
/-! SUPPORT. Changes of one port. -/

namespace Sys2Proof
open Machine

theorem KeepsPorts.refl (q : Nat) (s : State) : KeepsPorts q s s := fun _ _ => rfl

theorem KeepsPorts.trans {q : Nat} {a b c : State} (h : KeepsPorts q a b) (g : KeepsPorts q b c) : KeepsPorts q a c :=
  fun p hp => (g p hp).trans (h p hp)

/-- A change outside the ports. -/
theorem KeepsPorts.of_ports {q : Nat} {s a b : State} (h : KeepsPorts q s a) (same : b.ports = a.ports) : KeepsPorts q s b := by
  intro p hp
  have port : b.port p = a.port p := by rw [State.port, same]; rfl
  exact port.trans (h p hp)

end Sys2Proof
end

section
/-! SUPPORT. What a port does in a cell slot: the block's messages, the let slot, what fills the slot, and the cell that leaves (R313 to R320). -/

namespace Sys2Proof.Machine

/-! ### Ports -/

@[simp] theorem State.port_updPort_same (s : State) (q : Nat) (f : PortState → PortState) : (s.updPort q f).port q = f (s.port q) := by
  simp [State.port, State.updPort]

theorem State.port_updPort_ne (s : State) {q p : Nat} (f : PortState → PortState) (h : p ≠ q) : (s.updPort q f).port p = s.port p := by
  simp [State.port, State.updPort, Tab.get_upd_ne _ _ _ _ h]

theorem State.updPort_keepsPorts (s : State) (q : Nat) (f : PortState → PortState) : KeepsPorts q s (s.updPort q f) :=
  fun _ h => s.port_updPort_ne f h

/-! ### The start of a slot: what has passed is forgotten, and a block begins with its messages (R308, R313, R314) -/

/-- A block's messages change the list of those told, and nothing else of a port. -/
theorem State.sendMsgs_port (s : State) (q p : Nat) :
    (s.sendMsgs q).port p = (s.updPort q (fun g => { g with told := g.told ++ (s.blockMsgs q).filter (fun m => !g.told.contains m) })).port p := rfl

theorem State.statusField_of_fv {a b : State} (h : b.fv = a.fv) (code : Nat) : b.statusField code = a.statusField code := by
  unfold State.statusField State.attnClass State.rd
  rw [h]

/-- Nothing but the ports, what leaves the module, and the messages still to be sent has changed. -/
def SendsOnly (s s' : State) : Prop := s' = { s with out := s'.out, ports := s'.ports, beat := { s.beat with send := s'.beat.send } }

section
variable {s s' : State} (h : SendsOnly s s')
include h

theorem SendsOnly.setOut (l : List Out) : SendsOnly s { s' with out := l } := by
  unfold SendsOnly at h ⊢
  rw [h]

theorem SendsOnly.fv : s'.fv = s.fv := by rw [h]
theorem SendsOnly.remote : s'.remote = s.remote := by rw [h]
theorem SendsOnly.statusField (code : Nat) : s'.statusField code = s.statusField code := State.statusField_of_fv h.fv code
theorem SendsOnly.letOf (q n : Nat) : s'.letOf q n = s.letOf q n := by rw [h]; rfl
theorem SendsOnly.replySlot (q n : Nat) : s'.replySlot q n = s.replySlot q n := by rw [h]; rfl
theorem SendsOnly.slotIndex (q m : Nat) : slotIndex s'.frameLen (s'.portX4 q) m = slotIndex s.frameLen (s.portX4 q) m := by rw [h]; rfl
theorem SendsOnly.streamHeader (d : Nat) : s'.streamHeader d = s.streamHeader d := by rw [h]; rfl
theorem SendsOnly.requestRecord (len addr : Nat) : s'.requestRecord len addr = s.requestRecord len addr := by rw [h]; rfl

end

/-- The messages that the block of slot n carries (R308, R313). -/
def State.slotTold (s : State) (q n : Nat) : List Out :=
  if slotIndex s.frameLen (s.portX4 q) n % 3 = 0 then (s.blockMsgs q).map (Out.message q) else []

/-- A port at the start of slot n. -/
def State.slotReady (s : State) (q n : Nat) : State :=
  if slotIndex s.frameLen (s.portX4 q) n % 3 = 0 then (s.pruneSent q n).sendMsgs q else s.pruneSent q n

section
variable (s : State) (q n : Nat)

theorem State.blockMsgs_pruneSent : (s.pruneSent q n).blockMsgs q = s.blockMsgs q := by
  have told : ((s.pruneSent q n).port q).told = (s.port q).told := by simp [State.pruneSent]
  simp only [State.blockMsgs, told]
  rfl

theorem State.slotReady_out : (s.slotReady q n).out = s.out ++ s.slotTold q n := by
  unfold State.slotReady State.slotTold
  split
  · exact congrArg (fun l => s.out ++ l.map (Out.message q)) (s.blockMsgs_pruneSent q n)
  · exact (List.append_nil _).symm

theorem State.slotReady_sendsOnly : SendsOnly s (s.slotReady q n) := by
  unfold State.slotReady
  split <;> rfl

theorem State.slotReady_keepsPorts : KeepsPorts q s (s.slotReady q n) := by
  unfold State.slotReady
  have pruned : KeepsPorts q s (s.pruneSent q n) := s.updPort_keepsPorts q _
  split
  · exact pruned.trans fun p hp => ((s.pruneSent q n).sendMsgs_port q p).trans (State.port_updPort_ne _ _ hp)
  · exact pruned

/-- Only the list of messages told may differ from what has passed being forgotten. -/
theorem State.port_slotReady : (s.slotReady q n).port q =
    { s.port q with
      sent := (s.port q).sent.filter (fun c => decide (n ≤ s.letOf q c.slot)), naks := (s.port q).naks.filter (fun m => decide (n ≤ s.letOf q m)),
      resent := (s.port q).resent.filter (fun m => decide (n ≤ s.letOf q m)), next := n + 1, told := ((s.slotReady q n).port q).told } := by
  unfold State.slotReady
  split
  · simp [State.sendMsgs_port, State.pruneSent]
  · simp [State.pruneSent]

end

/-! ### The slot that begins now (R315, R316) -/

/-- Slot n begins now at port q, which is up and has not filled it, in a module that runs. -/
structure SlotBegins (s : State) (q n : Nat) : Prop where
  up : s.portUp q = true
  running : s.frozen = false
  begins : slotAt s.frameLen (s.portX4 q) s.lclk = some n
  unfilled : (s.port q).next ≤ n

/-- What the map entry of slot n gives it, outside a margin run (R316, R317, R319, R320). -/
def State.slotFill (s : State) (q n : Nat) : Fill × State :=
  let e := s.mapEntry q 0 n
  let ready := s.slotReady q n
  match mapUse e with
  | 0 => ready.fillOpen q
  | 1 => (match s.entryTile e with | some x => ready.fillChannel q x (mapChan e) | none => (Fill.idle, ready))
  | 2 => (match s.entryTile e with | some x => ready.fillRequest q x (mapChan e) n | none => (Fill.idle, ready))
  | _ => ready.fillReply q n

section
variable {s : State} {q n : Nat} (slot : SlotBegins s q n)
include slot

theorem State.cellSlotSend_let (isLet : slotIndex s.frameLen (s.portX4 q) n % 16 = 15) : s.cellSlotSend q = (s.slotReady q n).sendLet q n := by
  simp only [State.cellSlotSend, slot.up, slot.running, slot.begins, Nat.not_lt.2 slot.unfilled, isLet, Bool.not_true, Bool.or_self,
    Bool.false_eq_true, if_true, if_false]
  rfl

variable (plain : slotIndex s.frameLen (s.portX4 q) n % 16 ≠ 15) (noMargin : s.marginPort q = false) {f : Fill} {a : State}
include plain noMargin

theorem State.cellSlotSend_fill :
    s.cellSlotSend q = (s.slotFill q n).2.sendCell q n (s.slotFill q n).1 (mapUse (s.mapEntry q 0 n) == 3) := by
  simp only [State.cellSlotSend, slot.up, slot.running, slot.begins, Nat.not_lt.2 slot.unfilled, plain, noMargin, Bool.not_true, Bool.or_self,
    Bool.false_eq_true, if_false]
  rfl

theorem State.cellSlotSend_of_fill {k : Nat} (use : mapUse (s.mapEntry q 0 n) = k) (fill : s.slotFill q n = (f, a)) :
    s.cellSlotSend q = a.sendCell q n f (k == 3) := by
  rw [State.cellSlotSend_fill slot plain noMargin, fill, use]

theorem State.cellSlotSend_open (use : mapUse (s.mapEntry q 0 n) = 0) (fill : (s.slotReady q n).fillOpen q = (f, a)) :
    s.cellSlotSend q = a.sendCell q n f false :=
  State.cellSlotSend_of_fill slot plain noMargin use (by simp only [State.slotFill, use, fill])

theorem State.cellSlotSend_channel {x : Nat} (use : mapUse (s.mapEntry q 0 n) = 1) (tile : s.entryTile (s.mapEntry q 0 n) = some x)
    (fill : (s.slotReady q n).fillChannel q x (mapChan (s.mapEntry q 0 n)) = (f, a)) : s.cellSlotSend q = a.sendCell q n f false :=
  State.cellSlotSend_of_fill slot plain noMargin use (by simp only [State.slotFill, use, tile, fill])

theorem State.cellSlotSend_request {x : Nat} (use : mapUse (s.mapEntry q 0 n) = 2) (tile : s.entryTile (s.mapEntry q 0 n) = some x)
    (fill : (s.slotReady q n).fillRequest q x (mapChan (s.mapEntry q 0 n)) n = (f, a)) : s.cellSlotSend q = a.sendCell q n f false :=
  State.cellSlotSend_of_fill slot plain noMargin use (by simp only [State.slotFill, use, tile, fill])

theorem State.cellSlotSend_reply (use : mapUse (s.mapEntry q 0 n) = 3) (fill : (s.slotReady q n).fillReply q n = (f, a)) :
    s.cellSlotSend q = a.sendCell q n f true :=
  State.cellSlotSend_of_fill slot plain noMargin use (by simp only [State.slotFill, use, fill])

end

/-! ### Let slots (R256, R314) -/

section
variable {s : State} {q n : Nat}

theorem State.sendLet_idle (unmarked : (s.port q).naks = []) :
    s.sendLet q n = { s with out := s.out ++ [.cell q n 0 0 false (s.statusField 0) (cellPad [])] } := by
  simp only [State.sendLet, unmarked, List.filter_nil, List.foldl_nil]

/-- The state after the cell of slot m has left again in slot n. -/
def State.resend (s : State) (q n m : Nat) (c : SentCell) : State :=
  { (s.sat F.LNK_CELLS_RESENDS q 1).updPort q (fun g => { g with resent := m :: g.resent }) with
    out := s.out ++ [.cell q n 2 (slotIndex s.frameLen (s.portX4 q) m % 16) c.rcpt c.status c.payload] }

theorem State.sendLet_resend {m : Nat} {c : SentCell} (marked : (s.port q).naks = [m]) (fresh : (s.port q).resent = [])
    (own : s.letOf q m = n) (kept : (s.port q).sent.find? (fun g => g.slot == m) = some c) : s.sendLet q n = s.resend q n m c := by
  simp [State.sendLet, marked, fresh, own, kept]
  rfl

end

/-! ### What fills a slot (R316, R317, R319, R320) -/

/-- A chunk that waits at a port for a slot of its channel: a write or an add (R317). -/
def State.channelChunk (s : State) (q x c : Nat) (r : RemoteChunk) : Bool :=
  r.x == x && r.c == c && decide (r.kind < 2) && s.modulePort r.module == some q && r.atPort s.gclk

/-- A read that waits at a port for a slot of its channel (R319). -/
def State.requestChunk (s : State) (q x c : Nat) (r : RemoteChunk) : Bool :=
  r.x == x && r.c == c && r.kind == 2 && s.modulePort r.module == some q && r.atPort s.gclk

theorem SendsOnly.channelChunk {s s' : State} (h : SendsOnly s s') (q x c : Nat) : s'.channelChunk q x c = s.channelChunk q x c := by rw [h]; rfl

theorem SendsOnly.requestChunk {s s' : State} (h : SendsOnly s s') (q x c : Nat) : s'.requestChunk q x c = s.requestChunk q x c := by rw [h]; rfl

section
variable {s : State} {q x c n : Nat} {r : RemoteChunk}

theorem State.fillOpen_idle (noMirror : (s.port q).mirror = []) (noReply : (s.port q).unsched = []) : s.fillOpen q = (Fill.idle, s) := by
  simp only [State.fillOpen, noMirror, noReply]

theorem State.fillChannel_header (found : s.remote.find? (s.channelChunk q x c) = some r) (first : r.first = true) :
    s.fillChannel q x c = (⟨1, 0, cellPad (s.streamHeader (leVal r.header)), none⟩,
      { s with remote := s.remote.map (fun w => if w = r then { r with first := false } else w) }) := by
  unfold State.channelChunk at found
  simp only [State.fillChannel, found, first, if_true]

theorem State.fillChannel_last (found : s.remote.find? (s.channelChunk q x c) = some r) (later : r.first = false) (last : r.data.length ≤ 256)
    (room : (s.port q).queue.length < 256) :
    s.fillChannel q x c = (⟨1, 0, cellPad (r.data.take 256), none⟩,
      ({ s with remote := s.remote.filter (fun w => w != r) } : State).updPort q (fun p => { p with queue := p.queue ++ [(x, c)] })) := by
  have nothingLeft : (r.data.drop 256).isEmpty = true := by rw [List.drop_eq_nil_of_le last]; rfl
  unfold State.channelChunk at found
  simp only [State.fillChannel, found, later, nothingLeft, Bool.false_eq_true, if_true, if_false]
  exact if_neg (Nat.not_le.2 room)

theorem State.fillRequest_last (found : s.remote.find? (s.requestChunk q x c) = some r) (last : r.len ≤ 256) :
    s.fillRequest q x c n = (⟨1, 0, cellPad (s.requestRecord r.len r.addr), none⟩,
      ({ s with remote := s.remote.filter (fun w => w != r) } : State).updPort q (fun p => { p with
        asked := p.asked ++ [⟨s.replySlot q n, x, c, r.job, r.len, true⟩] })) := by
  unfold State.requestChunk at found
  simp only [State.fillRequest, found, Nat.min_eq_right last, Nat.sub_self, if_true, decide_true]

theorem State.fillReply_due {d : ReplyDue} (found : (s.port q).replies.find? (fun g => g.slot == n) = some d) :
    s.fillReply q n = (⟨1, 0, cellPad d.data, some d.status⟩,
      s.updPort q (fun p => { p with replies := p.replies.filter (fun g => g.slot != n) })) := by
  simp only [State.fillReply, found]

end

/-! ### The cell that leaves (R310, R318) -/

/-- A cell leaves by port q, which keeps it until its let slot has passed. -/
def State.leave (s : State) (q : Nat) (c : SentCell) (o : Out) : State :=
  { s.updPort q (fun p => { p with sent := p.sent ++ [c] }) with out := s.out ++ [o] }

theorem State.leave_port (s : State) (q : Nat) (c : SentCell) (o : Out) (p : Nat) :
    (s.leave q c o).port p = (s.updPort q (fun g => { g with sent := g.sent ++ [c] })).port p := rfl

/-- From s to s' one cell has left by port q; of what the port holds only the cells sent and the receipts owed have changed. -/
structure Leaves (q : Nat) (o : Out) (s s' : State) : Prop where
  out : s'.out = s.out ++ [o]
  ports : KeepsPorts q s s'
  remote : s'.remote = s.remote
  port : s'.port q = { s.port q with sent := (s'.port q).sent, owed := (s'.port q).owed }

/-- Only the receipts that port q owes, and the outcomes that settle them, have changed. -/
structure Receipts (q : Nat) (s s' : State) : Prop where
  out : s'.out = s.out
  ports : KeepsPorts q s s'
  remote : s'.remote = s.remote
  port : s'.port q = { s.port q with owed := (s'.port q).owed }

theorem Receipts.leave {q : Nat} {s a : State} (h : Receipts q s a) (c : SentCell) (o : Out) : Leaves q o s (a.leave q c o) where
  out := congrArg (· ++ [o]) h.out
  ports := h.ports.trans fun p hp => (a.leave_port q c o p).trans (State.port_updPort_ne _ _ hp)
  remote := h.remote
  port := by
    rw [State.leave_port, State.port_updPort_same, h.port]

section
variable (s : State) (q : Nat)

/-- The receipts owed with the outcomes at hand (R318). -/
def State.settledOwed : List (Nat × Option Nat) :=
  (s.port q).owed.map (fun o => match o.2 with
    | some c => (o.1, some c)
    | none => (o.1, (s.answers.find? (fun a => a.src == Origin.port q o.1)).map (fun a => a.code)))

theorem State.port_settleReceipts : (s.settleReceipts q).port q = { s.port q with owed := s.settledOwed q } := State.port_updPort_same _ _ _

theorem State.settleReceipts_receipts : Receipts q s (s.settleReceipts q) where
  out := rfl
  ports := fun _ h => State.port_updPort_ne _ _ h
  remote := rfl
  port := by rw [State.port_settleReceipts]

variable {q} {n : Nat} {f : Fill} {reply : Bool}

theorem State.sendCell_of_take {code : Option Nat} {a : State}
    (take : (if reply then (none, s.settleReceipts q) else (s.settleReceipts q).takeReceipt q) = (code, a)) :
    s.sendCell q n f reply = a.leave q ⟨n, code.isSome, f.status.getD (s.statusField (code.getD 0)), f.payload⟩
      (.cell q n f.kind f.rindex code.isSome (f.status.getD (s.statusField (code.getD 0))) f.payload) := by
  simp only [State.sendCell, take]
  cases f.status <;> rfl

/-- A slot whose cell carries no receipt: it is a reply's, or no receipt is owed (R318, R320). -/
theorem State.sendCell_bare (bare : reply = true ∨ (s.port q).owed = []) :
    Leaves q (.cell q n f.kind f.rindex false (f.status.getD (s.statusField 0)) f.payload) s (s.sendCell q n f reply) := by
  have take : (if reply then (none, s.settleReceipts q) else (s.settleReceipts q).takeReceipt q) = (none, s.settleReceipts q) := by
    rcases bare with rfl | nothing
    · rfl
    · have settled : ((s.settleReceipts q).port q).owed = [] := by simp [State.port_settleReceipts, State.settledOwed, nothing]
      simp only [State.takeReceipt, settled, ite_self]
  rw [s.sendCell_of_take take]
  exact (s.settleReceipts_receipts q).leave _ _

/-- A slot whose cell carries the first of the receipts owed (R318). -/
theorem State.sendCell_receipt {tag code : Nat} {l : List (Nat × Option Nat)} (plain : f.status = none)
    (first : (s.port q).owed = (tag, some code) :: l) :
    Leaves q (.cell q n f.kind f.rindex true (s.statusField code) f.payload) s (s.sendCell q n f false) ∧
    ((s.sendCell q n f false).port q).owed.length = l.length := by
  obtain ⟨rest, settled, length⟩ : ∃ rest, s.settledOwed q = (tag, some code) :: rest ∧ rest.length = l.length := by
    unfold State.settledOwed
    rw [first, List.map_cons]
    exact ⟨_, rfl, List.length_map _⟩
  let a := (s.settleReceipts q).updPort q (fun p => { p with owed := rest })
  have take : (if false = true then (none, s.settleReceipts q) else (s.settleReceipts q).takeReceipt q) = (some code, a) := by
    have owed : ((s.settleReceipts q).port q).owed = (tag, some code) :: rest := by rw [State.port_settleReceipts, ← settled]
    simp only [Bool.false_eq_true, if_false, State.takeReceipt, owed]
    rfl
  have port : a.port q = { s.port q with owed := rest } := by
    rw [State.port_updPort_same, State.port_settleReceipts]
  have receipts : Receipts q s a :=
    ⟨rfl, (s.settleReceipts_receipts q).ports.trans (State.updPort_keepsPorts _ q _), rfl, by rw [port]⟩
  have sent := s.sendCell_of_take (n := n) (f := f) take
  rw [plain] at sent
  rw [sent]
  refine ⟨receipts.leave _ _, ?_⟩
  rw [State.leave_port, State.port_updPort_same, port]
  exact length

end

/-! ### What a slot sends (R315, R316) -/

/-- In slot n port q has sent the block's messages, if the slot begins one, and a cell. -/
def SlotSends (q n : Nat) (o : Out) (s s' : State) : Prop :=
  s'.out = s.out ++ s.slotTold q n ++ [o] ∧ (s'.port q).next = n + 1 ∧ KeepsPorts q s s'

section
variable {q n : Nat} {s : State}

theorem State.sendLet_slotSends_idle (unmarked : ((s.slotReady q n).port q).naks = []) :
    SlotSends q n (.cell q n 0 0 false (s.statusField 0) (cellPad [])) s ((s.slotReady q n).sendLet q n) ∧
    SendsOnly s ((s.slotReady q n).sendLet q n) := by
  have ready := s.slotReady_sendsOnly q n
  rw [State.sendLet_idle unmarked, ready.statusField, State.slotReady_out]
  exact ⟨⟨rfl, (congrArg PortState.next (s.port_slotReady q n) :), (s.slotReady_keepsPorts q n).of_ports rfl⟩,
    ready.setOut _⟩

theorem State.resend_port (m : Nat) (c : SentCell) (p : Nat) :
    (s.resend q n m c).port p = (s.updPort q (fun g => { g with resent := m :: g.resent })).port p := rfl

theorem SendsOnly.resend {w : State} (h : SendsOnly s w) (m : Nat) (c : SentCell) : w.resend q n m c =
    { s with
      fv := (w.resend q n m c).fv, out := (w.resend q n m c).out, ports := (w.resend q n m c).ports,
      beat := { s.beat with send := (w.resend q n m c).beat.send } } := by
  unfold SendsOnly at h
  rw [h]
  rfl

/-- The cell of slot m leaves again, and counts (R314, R328). -/
theorem State.sendLet_slotSends_resend {m : Nat} {c : SentCell} (marked : (s.port q).naks = [m]) (fresh : (s.port q).resent = [])
    (own : s.letOf q m = n) (kept : (s.port q).sent.find? (fun g => g.slot == m) = some c) :
    SlotSends q n (.cell q n 2 (slotIndex s.frameLen (s.portX4 q) m % 16) c.rcpt c.status c.payload) s ((s.slotReady q n).sendLet q n) ∧
    (s.slotReady q n).sendLet q n = (s.slotReady q n).resend q n m c := by
  have ready := s.slotReady_sendsOnly q n
  have port := s.port_slotReady q n
  have inTime : (fun g : SentCell => decide (decide (n ≤ s.letOf q g.slot) = true ∧ (g.slot == m) = true)) = fun g => g.slot == m := by
    funext g
    by_cases same : g.slot = m
    · simp [same, own]
    · simp [same]
  have resent : (s.slotReady q n).sendLet q n = (s.slotReady q n).resend q n m c := by
    refine State.sendLet_resend ?_ ?_ ((ready.letOf q m).trans own) ?_
    · rw [port]
      simp [marked, own]
    · rw [port]
      simp [fresh]
    · rw [port]
      rw [List.find?_filter, inTime, kept]
  rw [resent]
  refine ⟨⟨?_, ?_, ?_⟩, rfl⟩
  · rw [State.resend, ready.slotIndex, State.slotReady_out]
  · rw [State.resend_port, State.port_updPort_same, port]
  · exact (s.slotReady_keepsPorts q n).trans fun p hp => (State.resend_port m c p).trans (State.port_updPort_ne _ _ hp)

/-- A port at the start of slot n with what fills the slot taken: the chunks that still wait, and a change of what the port holds. -/
def State.slotFilled (s : State) (q n : Nat) (l : List RemoteChunk) (g : PortState → PortState) : State :=
  ({ s.slotReady q n with remote := l } : State).updPort q g

/-- What a slot sends that the state a fills. -/
theorem Leaves.slotSends {o : Out} {a s' : State} (sent : Leaves q o a s') (out : a.out = (s.slotReady q n).out)
    (ports : KeepsPorts q (s.slotReady q n) a) (next : (a.port q).next = ((s.slotReady q n).port q).next) : SlotSends q n o s s' := by
  refine ⟨?_, ?_, ((s.slotReady_keepsPorts q n).trans ports).trans sent.ports⟩
  · rw [sent.out, out, State.slotReady_out]
  · rw [sent.port, next, State.port_slotReady]

/-- What a slot sends that the state a fills without a receipt, and what the port holds after it. -/
theorem State.sendCell_slotSends {a : State} {f : Fill} {reply : Bool} (fv : a.fv = s.fv) (out : a.out = (s.slotReady q n).out)
    (ports : KeepsPorts q (s.slotReady q n) a) (next : (a.port q).next = ((s.slotReady q n).port q).next)
    (bare : reply = true ∨ (a.port q).owed = []) :
    SlotSends q n (.cell q n f.kind f.rindex false (f.status.getD (s.statusField 0)) f.payload) s (a.sendCell q n f reply) ∧
    (a.sendCell q n f reply).remote = a.remote ∧
    (a.sendCell q n f reply).port q =
      { a.port q with sent := ((a.sendCell q n f reply).port q).sent, owed := ((a.sendCell q n f reply).port q).owed } := by
  have sent := a.sendCell_bare (n := n) (f := f) bare
  rw [State.statusField_of_fv fv] at sent
  exact ⟨sent.slotSends out ports next, sent.remote, sent.port⟩

/-- The same where the slot is filled by a change of what the port holds and of the chunks that wait. -/
theorem State.sendCell_slotFilled {l : List RemoteChunk} {g : PortState → PortState} {f : Fill} {reply : Bool}
    (next : ∀ p, (g p).next = p.next) (bare : reply = true ∨ (g ((s.slotReady q n).port q)).owed = []) :
    let s' := (s.slotFilled q n l g).sendCell q n f reply
    SlotSends q n (.cell q n f.kind f.rindex false (f.status.getD (s.statusField 0)) f.payload) s s' ∧ s'.remote = l ∧
    s'.port q = { g ((s.slotReady q n).port q) with sent := (s'.port q).sent, owed := (s'.port q).owed } := by
  have port : (s.slotFilled q n l g).port q = g ((s.slotReady q n).port q) := State.port_updPort_same _ q g
  have bare' : reply = true ∨ ((s.slotFilled q n l g).port q).owed = [] := by rw [port]; exact bare
  obtain ⟨sent, remote, after⟩ := State.sendCell_slotSends (s := s) (a := s.slotFilled q n l g) (f := f) (s.slotReady_sendsOnly q n).fv rfl
    (State.updPort_keepsPorts _ q g) ((congrArg PortState.next port).trans (next _)) bare'
  rw [port] at after
  exact ⟨sent, remote, after⟩

end

end Sys2Proof.Machine
end

section
namespace Sys2Proof
open Machine

theorem exec_cellSlotSend {t : Nat} {q : PortIx} {s a : State} (h : (s.tick t).cellSlotSend q = a) : exec (.cellSlotSend t q) s = .next a :=
  congrArg Host.Outcome.next h

/-- Settles O31: at the start of its slot the port is `State.slotReady`; a let slot is `State.sendLet`, and every other slot is filled by what its
map entry says and sends the cell by `State.sendCell`. -/
theorem cellSlots : Obligations.CellSlots := by
  unfold Obligations.CellSlots
  intro t q n s v ix e told sends up running begins unfilled
  have slot : SlotBegins v q n := ⟨up, running, begins, unfilled⟩
  have ready := v.slotReady_sendsOnly q n
  have port := v.port_slotReady q n
  refine ⟨fun isLet unmarked => ?_, fun isLet m c marked fresh own kept => ?_, fun plain noMargin use noMirror noReply => ?_,
    fun x r plain noMargin tile unowed => ?_, fun d plain noMargin use found => ?_⟩
  · obtain ⟨sent, only⟩ := State.sendLet_slotSends_idle (s := v) (q := q) (n := n) (by rw [port]; exact congrArg (List.filter _) unmarked)
    exact ⟨_, exec_cellSlotSend (State.cellSlotSend_let slot isLet), sent, only⟩
  · obtain ⟨sent, resent⟩ := State.sendLet_slotSends_resend (s := v) marked fresh own kept
    have counted := (((Sets.refl s).of_fv (b := v.slotReady q n) ready.fv).sat F.LNK_CELLS_RESENDS q 1 (by decide) (by simp)).of_fv
      (b := (v.slotReady q n).resend q n m c) rfl
    rw [resent] at sent
    exact ⟨_, exec_cellSlotSend ((State.cellSlotSend_let slot isLet).trans resent), sent, counted, ready.resend m c⟩
  · have fill := State.fillOpen_idle (s := v.slotReady q n) (q := q) (by rw [port]; exact noMirror) (by rw [port]; exact noReply)
    have run := exec_cellSlotSend (State.cellSlotSend_open slot plain noMargin use fill)
    refine ⟨fun unowed => ?_, fun tag code l owed => ?_⟩
    · exact ⟨_, run, (State.sendCell_slotSends (s := v) ready.fv rfl (.refl _ _) rfl (.inr (by rw [port]; exact unowed))).1⟩
    · obtain ⟨sent, length⟩ := (v.slotReady q n).sendCell_receipt (n := n) (f := Fill.idle) (q := q) rfl (by rw [port]; exact owed)
      rw [ready.statusField] at sent
      exact ⟨_, run, sent.slotSends (s := v) rfl (.refl _ _) rfl, length⟩
  · have unowed' : ((v.slotReady q n).port q).owed = [] := by rw [port]; exact unowed
    refine ⟨fun use found => ?_, fun use found last => ?_⟩
    · have waiting : (v.slotReady q n).remote.find? ((v.slotReady q n).channelChunk q x (mapChan e)) = some r := by
        rw [ready.remote, ready.channelChunk]
        exact found
      refine ⟨fun first => ?_, fun later last room => ?_⟩
      · have fill := State.fillChannel_header waiting first
        rw [ready.streamHeader, ready.remote] at fill
        obtain ⟨sent, remote, -⟩ := State.sendCell_slotSends (s := v) (reply := false)
          (f := ⟨1, 0, cellPad (v.streamHeader (leVal r.header)), none⟩)
          (a := { v.slotReady q n with remote := v.remote.map (fun g => if g = r then { r with first := false } else g) })
          ready.fv rfl (.refl _ _) rfl (.inr unowed')
        exact ⟨_, exec_cellSlotSend (State.cellSlotSend_channel slot plain noMargin use tile fill), sent, remote⟩
      · have fill := State.fillChannel_last waiting later last (by rw [port]; exact room)
        rw [ready.remote] at fill
        obtain ⟨sent, remote, after⟩ := State.sendCell_slotFilled (s := v) (n := n) (l := v.remote.filter (fun g => g != r))
          (g := fun p => { p with queue := p.queue ++ [(x, mapChan e)] }) (f := ⟨1, 0, cellPad (r.data.take 256), none⟩) (reply := false)
          (fun _ => rfl) (.inr unowed')
        rw [port] at after
        exact ⟨_, exec_cellSlotSend (State.cellSlotSend_channel slot plain noMargin use tile fill), sent, remote, congrArg PortState.queue after⟩
    · have waiting : (v.slotReady q n).remote.find? ((v.slotReady q n).requestChunk q x (mapChan e)) = some r := by
        rw [ready.remote, ready.requestChunk]
        exact found
      have fill := State.fillRequest_last (n := n) waiting last
      rw [ready.requestRecord, ready.replySlot, ready.remote] at fill
      obtain ⟨sent, -, after⟩ := State.sendCell_slotFilled (s := v) (n := n) (l := v.remote.filter (fun g => g != r))
        (g := fun p => { p with asked := p.asked ++ [⟨v.replySlot q n, x, mapChan e, r.job, r.len, true⟩] })
        (f := ⟨1, 0, cellPad (v.requestRecord r.len r.addr), none⟩) (reply := false) (fun _ => rfl) (.inr unowed')
      rw [port] at after
      exact ⟨_, exec_cellSlotSend (State.cellSlotSend_request slot plain noMargin use tile fill), sent, congrArg PortState.asked after⟩
  · have fill := State.fillReply_due (s := v.slotReady q n) (q := q) (n := n) (d := d) (by rw [port]; exact found)
    obtain ⟨sent, -, after⟩ := State.sendCell_slotFilled (s := v) (n := n) (l := (v.slotReady q n).remote)
      (g := fun p => { p with replies := p.replies.filter (fun g => g.slot != n) }) (f := ⟨1, 0, cellPad d.data, some d.status⟩) (reply := true)
      (fun _ => rfl) (.inl rfl)
    rw [port] at after
    exact ⟨_, exec_cellSlotSend (State.cellSlotSend_reply slot plain noMargin use fill), sent, congrArg PortState.replies after⟩

end Sys2Proof
end

section
/-! SUPPORT. More chains of register writes: a copy of a field not yet written, and one written again with the value it has. -/

namespace Sys2Proof.Machine

section
variable {w : List (Fld × Nat × Nat)} {s s' : State} {f : Fld} {i n : Nat}

/-- No listed copy is one of field f, by the numbers of the fields. -/
def Unlisted (w : List (Fld × Nat × Nat)) (f : Fld) : Prop := ∀ e ∈ w, e.1.id ≠ f.id ∧ e.2.1 < 65536

theorem Unlisted.nil (f : Fld) : Unlisted [] f := List.forall_mem_nil _

theorem Unlisted.cons {g : Fld} {j v : Nat} (id : g.id ≠ f.id) (small : j < 65536) (h : Unlisted w f) : Unlisted ((g, j, v) :: w) f :=
  List.forall_mem_cons.2 ⟨⟨id, small⟩, h⟩

theorem Unlisted.key (h : Unlisted w f) (small : i < 65536) : ∀ e ∈ w, e.1.key e.2.1 ≠ f.key i := fun e he =>
  Fld.key_ne (h e he).1 (h e he).2 small

/-- The copy written last, written again with its value. -/
theorem Sets.wr_again (h : Sets ((f, i, n % 2 ^ f.w) :: w) s s') (wide : f.w ≤ 64) (new : Unlisted w f) (small : i < 65536) :
    Sets ((f, i, n % 2 ^ f.w) :: w) s (s'.wr f i n) := by
  obtain ⟨values, others⟩ := h
  obtain ⟨-, rest⟩ := List.forall_mem_cons.1 values
  refine ⟨List.forall_mem_cons.2 ⟨State.rd_wr_same s' f i n wide, fun e he => ?_⟩, State.keeps_wr _ _ _ _ _ _ List.mem_cons_self others⟩
  exact (State.rd_wr_ne _ _ _ _ _ _ (new.key small e he)).trans (rest e he)

end

end Sys2Proof.Machine
end

section
/-! SUPPORT. The handshake of a bridge and its switch to the fall-back path while no image runs (R325 to R327). -/

namespace Sys2Proof.Machine

/-! ### A module that runs no image -/

/-- The active slot holds no image, so that no route is needed (R259). -/
def State.imageless (s : State) : Prop := (s.img s.activeSlot).loaded = false

theorem State.checkRoutes_of_imageless {s : State} (noImage : s.imageless) : s.checkRoutes = s := by
  have short : s.routeShort = false := by
    unfold State.routeShort
    rw [noImage, Bool.false_and]
  exact if_neg (Bool.eq_false_iff.1 short)

/-- A register other than BEAT_SLICE.ACTIVE loads no image. -/
theorem State.imageless.wr {s : State} (noImage : s.imageless) {f : Fld} {i : Nat} (n : Nat) (id : F.BEAT_SLICE_ACTIVE.id ≠ f.id)
    (small : i < 65536) : (s.wr f i n).imageless := by
  have active : (s.wr f i n).activeSlot = s.activeSlot := State.rd_wr_id s _ f 0 i n id (by decide) small
  unfold State.imageless at noImage ⊢
  rw [active]
  exact noImage

theorem State.imageless.sat {s : State} (noImage : s.imageless) {f : Fld} {i : Nat} (n : Nat) (id : F.BEAT_SLICE_ACTIVE.id ≠ f.id)
    (small : i < 65536) : (s.sat f i n).imageless := noImage.wr _ id small

theorem State.imageless.bothEnds {s : State} (noImage : s.imageless) (b : Nat) : (s.bothEnds b).imageless := noImage

/-! ### A width recorded (R327) -/

/-- A width shown, with a change of the floor plan due (R24) and, below MAIN, LINK attention. -/
def State.showWidth (s : State) (b w : Nat) : State :=
  let shown := (s.wr F.BRG_STATUS_WIDTH b w).fpPush 4 b 0
  if w < 2 then shown.attn F.ATT_PENDING_BRIDGE else shown

theorem State.setWidth_of_imageless {s : State} (noImage : s.imageless) {b : Nat} (small : b < 65536) (w : Nat) :
    s.setWidth b w = s.showWidth b w := by
  have shown : (s.wr F.BRG_STATUS_WIDTH b w).imageless := noImage.wr w (by decide) small
  have after : (s.showWidth b w).imageless := by
    unfold State.showWidth
    dsimp only
    split
    · exact State.imageless.wr (s := (s.wr F.BRG_STATUS_WIDTH b w).fpPush 4 b 0) shown 1 (by decide) (by decide)
    · exact shown
  exact State.checkRoutes_of_imageless after

@[simp] theorem State.showWidth_fpPend (s : State) (b w : Nat) : (s.showWidth b w).fpPend = s.fpPend ++ [⟨4, b, 0, 0, s.now⟩] := by
  unfold State.showWidth
  dsimp only
  split <;> rfl

section
variable {l : List (Fld × Nat × Nat)} {s a : State} {b : Nat} (h : Sets l s a) (new : Unlisted l F.BRG_STATUS_WIDTH) (small : b < 65536)
include h new small

theorem Sets.showWidth_main : Sets ((F.BRG_STATUS_WIDTH, b, 2) :: l) s (a.showWidth b 2) :=
  (h.wr F.BRG_STATUS_WIDTH b 2 (by decide) (new.key small)).of_fv rfl

theorem Sets.showWidth_below {w : Nat} (below : w < 2) (unlisted : Unlisted l F.ATT_PENDING_BRIDGE) :
    Sets ((F.ATT_PENDING_BRIDGE, 0, 1) :: (F.BRG_STATUS_WIDTH, b, w) :: l) s (a.showWidth b w) := by
  have width := h.wr F.BRG_STATUS_WIDTH b w (by decide) (new.key small)
  have attends := (width.of_fv (b := (a.wr F.BRG_STATUS_WIDTH b w).fpPush 4 b 0) rfl).wr F.ATT_PENDING_BRIDGE 0 1 (by decide)
    ((unlisted.cons (by decide) small).key (by decide))
  have fits : w % 2 ^ F.BRG_STATUS_WIDTH.w = w := Nat.mod_eq_of_lt (Nat.lt_trans below (by decide))
  rw [fits] at attends
  unfold State.showWidth
  rw [if_pos below]
  exact attends

end

/-! ### A try of the handshake (R325) -/

/-- A try counted, and what both ends have said noted. -/
def State.bridgeTried (s : State) (b word : Nat) : State :=
  let s1 := s.wr F.BRG_STATUS_TRIES b (s.rd F.BRG_STATUS_TRIES b + 1)
  { s1 with life := { s1.life with brgWidths := Tab.put 0 s1.life.brgWidths b word } }

section
variable {s : State} {b : Nat} (retraining : s.rd F.BRG_STATUS_RETRAINING b = 1) (running : s.brgWord b < 16)
include retraining running

theorem State.bridgeTry_of_agree (low high gov : Nat) :
    s.bridgeTry b low high gov gov = (s.bridgeTried b (low + 4 * high + 16)).setWidth b gov := by
  have goes : ¬(s.rd F.BRG_STATUS_RETRAINING b = 0 ∨ 16 ≤ s.brgWord b) := by omega
  unfold State.bridgeTry
  rw [if_neg goes]
  exact if_pos rfl

theorem State.bridgeTry_of_disagree {govLow govHigh : Nat} (last : s.rd F.BRG_STATUS_TRIES b = 2) (differ : govLow ≠ govHigh) (low high : Nat) :
    s.bridgeTry b low high govLow govHigh =
      (((s.bridgeTried b (low + 4 * high + 16)).wr F.BRG_STATUS_DISAGREE b 1).setWidth b (if 1 ≤ low ∧ 1 ≤ high then 1 else 0)).attn
        F.ATT_PENDING_BRIDGE := by
  have goes : ¬(s.rd F.BRG_STATUS_RETRAINING b = 0 ∨ 16 ≤ s.brgWord b) := by omega
  have third : ¬s.rd F.BRG_STATUS_TRIES b + 1 < 3 := by omega
  unfold State.bridgeTry
  rw [if_neg goes]
  exact (if_neg differ).trans (if_neg third)

end

theorem State.bridgeTried_sets (s : State) (b word : Nat) :
    Sets [(F.BRG_STATUS_TRIES, b, (s.rd F.BRG_STATUS_TRIES b + 1) % 2 ^ F.BRG_STATUS_TRIES.w)] s (s.bridgeTried b word) :=
  ((Sets.refl s).wr F.BRG_STATUS_TRIES b _ (by decide) (by simp)).of_fv rfl

theorem State.bridgeTried_imageless {s : State} (noImage : s.imageless) {b : Nat} (small : b < 65536) (word : Nat) :
    (s.bridgeTried b word).imageless :=
  noImage.wr (i := b) (s.rd F.BRG_STATUS_TRIES b + 1) (f := F.BRG_STATUS_TRIES) (by decide) small

/-- The third try without agreement: the width below MAIN that both ends can run. -/
theorem State.bridgeTry_disagree_sets {s : State} {b govLow govHigh : Nat} (retraining : s.rd F.BRG_STATUS_RETRAINING b = 1)
    (running : s.brgWord b < 16) (noImage : s.imageless) (small : b < 65536) (last : s.rd F.BRG_STATUS_TRIES b = 2) (differ : govLow ≠ govHigh)
    (low high : Nat) :
    Sets [(F.BRG_STATUS_TRIES, b, 3), (F.BRG_STATUS_DISAGREE, b, 1), (F.BRG_STATUS_WIDTH, b, if 1 ≤ low ∧ 1 ≤ high then 1 else 0),
      (F.ATT_PENDING_BRIDGE, 0, 1)] s (s.bridgeTry b low high govLow govHigh) := by
  have below : (if 1 ≤ low ∧ 1 ≤ high then 1 else 0) < 2 := by split <;> decide
  have tried := s.bridgeTried_sets b (low + 4 * high + 16)
  have disagree := tried.wr F.BRG_STATUS_DISAGREE b 1 (by decide) (((Unlisted.nil _).cons (by decide) small).key small)
  have falls := disagree.showWidth_below (((Unlisted.nil _).cons (by decide) small).cons (by decide) small) small below
    (((Unlisted.nil _).cons (by decide) small).cons (by decide) small)
  have again := falls.wr_again (f := F.ATT_PENDING_BRIDGE) (n := 1) (by decide)
    ((((Unlisted.nil _).cons (by decide) small).cons (by decide) small).cons (by decide) small) (by decide)
  rw [last] at again
  rw [State.bridgeTry_of_disagree retraining running last differ,
    State.setWidth_of_imageless ((State.bridgeTried_imageless noImage small _).wr 1 (by decide) small) small]
  exact again.of_mem_iff fun _ => (List.mem_reverse (as := [_, _, _, _])).symm

/-! ### The end of a retrain (R326), and the switch to the fall-back path (R327) -/

/-- A retrain over, with what the bridge can do shown. -/
def State.bridgeTrained (s : State) (b : Nat) : State :=
  (((s.wr F.BRG_STATUS_FINE b (bitsAt (s.commonCaps b) 1 1)).wr F.BRG_STATUS_RETRAINING b 0).wr F.BRG_CTL_RETRAIN b 0).fpPush 4 b 0

theorem State.bridgeDone_of_ended {s : State} {b : Nat} (retraining : s.rd F.BRG_STATUS_RETRAINING b = 1) (ended : 16 ≤ s.brgWord b) :
    s.bridgeDone b ⟨[], []⟩ = s.bridgeTrained b := by
  have goes : ¬(s.rd F.BRG_STATUS_RETRAINING b = 0 ∨ s.brgWord b < 16) := by omega
  exact if_neg goes

theorem State.bridgeTrained_sets (s : State) {b : Nat} (small : b < 65536) :
    Sets [(F.BRG_STATUS_RETRAINING, b, 0), (F.BRG_CTL_RETRAIN, b, 0), (F.BRG_STATUS_FINE, b, bitsAt (s.commonCaps b) 1 1)] s
      (s.bridgeTrained b) := by
  have fine := (Sets.refl s).wr F.BRG_STATUS_FINE b (bitsAt (s.commonCaps b) 1 1) (by decide) (by simp)
  have trained := fine.wr F.BRG_STATUS_RETRAINING b 0 (by decide) (((Unlisted.nil _).cons (by decide) small).key small)
  have idle := trained.wr F.BRG_CTL_RETRAIN b 0 (by decide)
    ((((Unlisted.nil _).cons (by decide) small).cons (by decide) small).key small)
  have whole : bitsAt (s.commonCaps b) 1 1 % 2 ^ F.BRG_STATUS_FINE.w = bitsAt (s.commonCaps b) 1 1 := Nat.mod_mod _ _
  rw [whole] at idle
  refine (idle.of_fv (b := s.bridgeTrained b) rfl).of_mem_iff fun e => ?_
  simp only [List.mem_cons, List.not_mem_nil, or_false]
  exact or_left_comm

/-- The parity failures of a direction, up or down. -/
def parityCount (up : Bool) : Fld := if up then F.BRG_ERR_PARITY_UP else F.BRG_ERR_PARITY_DOWN

/-- Four parity failures and a switch counted, and both ends SERIAL (R327). -/
def State.bridgeSwitched (s : State) (b : Nat) (up : Bool) : State := ((s.sat (parityCount up) b 4).sat F.BRG_ERR_SWITCHES b 1).bothEnds b

/-- What holds of both counts of parity failures. -/
theorem parityCount_spec (up : Bool) :
    (parityCount up).w = 16 ∧ ∀ f ∈ [F.BRG_ERR_SWITCHES, F.BRG_STATUS_WIDTH, F.ATT_PENDING_BRIDGE, F.BEAT_SLICE_ACTIVE],
      (parityCount up).id ≠ f.id := by
  cases up <;> decide

theorem State.bridgeSwitched_rest (s : State) (b : Nat) (up : Bool) :
    let s' := (s.bridgeSwitched b up).showWidth b 1
    s' = { s with fv := s'.fv, fpPend := s'.fpPend, life := { s.life with brgWidths := s'.life.brgWidths } } := by
  obtain ⟨m, counted⟩ : ∃ m, (s.sat (parityCount up) b 4).sat F.BRG_ERR_SWITCHES b 1 = { s with fv := m } :=
    ⟨_, ((SameButRegs.refl s).wr _ _ _).wr _ _ _⟩
  unfold State.bridgeSwitched
  rw [counted]
  rfl

theorem State.bridgeSwitched_imageless {s : State} (noImage : s.imageless) {b : Nat} (small : b < 65536) (up : Bool) :
    (s.bridgeSwitched b up).imageless := by
  obtain ⟨-, other⟩ := parityCount_spec up
  have failed := noImage.sat 4 (other F.BEAT_SLICE_ACTIVE (by decide)).symm small
  exact (failed.sat 1 (f := F.BRG_ERR_SWITCHES) (by decide) small).bothEnds b

theorem State.bridgeSwitched_sets (s : State) {b : Nat} (small : b < 65536) (up : Bool) :
    Sets [(parityCount up, b, satAdd 16 (s.rd (parityCount up) b) 4), (F.BRG_ERR_SWITCHES, b, satAdd 16 (s.rd F.BRG_ERR_SWITCHES b) 1),
      (F.BRG_STATUS_WIDTH, b, 1), (F.ATT_PENDING_BRIDGE, 0, 1)] s ((s.bridgeSwitched b up).showWidth b 1) := by
  obtain ⟨wide, other⟩ := parityCount_spec up
  have failed := (Sets.refl s).sat (parityCount up) b 4 (by rw [wide]; decide) (by simp)
  rw [wide] at failed
  have count {f : Fld} (h : (parityCount up).id ≠ f.id) : Unlisted [(parityCount up, b, satAdd 16 (s.rd (parityCount up) b) 4)] f :=
    (Unlisted.nil f).cons h small
  have switched := failed.sat F.BRG_ERR_SWITCHES b 1 (by decide) ((count (other _ (by decide))).key small)
  have falls := (switched.of_fv (b := s.bridgeSwitched b up) rfl).showWidth_below ((count (other _ (by decide))).cons (by decide) small) small
    (w := 1) (by decide) ((count (other _ (by decide))).cons (by decide) small)
  exact falls.of_mem_iff fun _ => (List.mem_reverse (as := [_, _, _, _])).symm

end Sys2Proof.Machine
end

section
namespace Sys2Proof
open Machine

/-- Settles O34: a retrain is two writes and an empty handshake word; a try that agrees or the last that does not is `State.bridgeTried` with the
width shown; the retrain ends as `State.bridgeTrained`, and the switch is `State.bridgeSwitched` with SERIAL shown. -/
theorem bridgeHandshakes : Obligations.BridgeHandshakes := by
  unfold Obligations.BridgeHandshakes
  intro t b s v tries
  have small : b.val < 65536 := Nat.lt_trans b.isLt (by decide)
  refine ⟨fun idle => ?_, fun retraining running noImage => ⟨?_, fun last => ?_, fun last => ?_⟩, fun w retraining ended up down => ?_,
    fun up main steady noImage => ?_⟩
  · have before : v.rd F.BRG_CTL_RETRAIN b = 0 := idle
    have begins : ¬v.rd F.BRG_CTL_RETRAIN b = 1 := by omega
    have ctl := (Sets.refl v).wr F.BRG_CTL_RETRAIN b 1 (by decide) (by simp)
    have retrains := ctl.wr F.BRG_STATUS_RETRAINING b 1 (by decide) (((Unlisted.nil _).cons (by decide) small).key small)
    have untried := retrains.wr F.BRG_STATUS_TRIES b 0 (by decide)
      ((((Unlisted.nil _).cons (by decide) small).cons (by decide) small).key small)
    refine ⟨(v.wr F.BRG_CTL_RETRAIN b 1).bridgeRetrain b, congrArg Host.Outcome.next (if_neg begins), ?_, rfl⟩
    exact ((untried.of_fv rfl).from_fv rfl).of_mem_iff fun _ => (List.mem_reverse (as := [_, _, _])).symm
  · let a := v.bridgeTried b 26
    have agreed : v.bridgeTry b 2 2 2 2 = a.showWidth b 2 := (State.bridgeTry_of_agree (s := v) retraining running 2 2 2).trans
      (State.setWidth_of_imageless (State.bridgeTried_imageless (s := v) noImage small 26) small 2)
    have sets := (v.bridgeTried_sets b 26).showWidth_main ((Unlisted.nil _).cons (by decide) small) small
    exact ⟨_, congrArg Host.Outcome.next agreed, (sets.from_fv rfl).of_mem_iff fun _ => (List.mem_reverse (as := [_, _])).symm,
      a.showWidth_fpPend b 2⟩
  · exact ⟨_, rfl, (State.bridgeTry_disagree_sets (s := v) retraining running noImage small last (by decide) 2 1).from_fv rfl⟩
  · exact ⟨_, rfl, (State.bridgeTry_disagree_sets (s := v) retraining running noImage small last (by decide) 0 2).from_fv rfl⟩
  · obtain ⟨wUp, wDown⟩ := w
    obtain rfl : wUp = [] := up
    obtain rfl : wDown = [] := down
    exact ⟨v.bridgeTrained b, congrArg Host.Outcome.next (State.bridgeDone_of_ended (s := v) retraining ended),
      (v.bridgeTrained_sets small).from_fv rfl, rfl⟩
  · intro e
    have run : exec (.bridgeFallback t b up) s = .next ((v.bridgeSwitched b up).setWidth b 1) :=
      congrArg Host.Outcome.next (if_pos ⟨main, steady⟩)
    rw [State.setWidth_of_imageless (State.bridgeSwitched_imageless (s := v) noImage small up) small 1] at run
    exact ⟨_, run, (v.bridgeSwitched_sets small up).from_fv rfl, State.showWidth_fpPend _ b 1, v.bridgeSwitched_rest b up⟩

end Sys2Proof
end

section
/-! SUPPORT. What the loss of a port may change beside the port: the beat, the twin pair, the Scorebook and the registers of these (R249, R259,
R424). -/

namespace Sys2Proof.Machine

/-- The registers of the beat, of the twin pair, of the Scorebook and of attention that the loss of a port may change. -/
def besideFlds : List Fld :=
  scbFlds ++ [F.TWN_STATUS_STATE, F.TWN_STATUS_SILENT, F.TWN_CTL_TAKEOVER, F.TWN_CTL_BACKFILL, F.TWN_TAKEOVER_LOST_BEAT, F.TWN_COUNT_TAKEOVERS,
    F.BEAT_STATUS_STATE, F.ATT_PENDING_PARTNER_LOST, F.ATT_PENDING_DOUBLE_DUTY, F.ATT_PENDING_MIRROR_LAG, F.ATT_PENDING_BEAT,
    F.ATT_PENDING_ROUTE_SHORT]

/-- Outside the beat, the twin pair, the Scorebook and their registers the state is as it was. -/
def BesidePorts (s s' : State) : Prop :=
  s' = { s with fv := s'.fv, beat := s'.beat, twin := s'.twin, scb := s'.scb } ∧ KeepsRegs (besideFlds.map (·, 0)) s s'

theorem BesidePorts.refl (s : State) : BesidePorts s s := ⟨rfl, State.keeps_refl _ s⟩

theorem BesidePorts.trans {a b c : State} (h : BesidePorts a b) (g : BesidePorts b c) : BesidePorts a c := by
  obtain ⟨rest, regs⟩ := h
  obtain ⟨rest', regs'⟩ := g
  exact ⟨by rw [rest', rest], regs.trans regs'⟩

theorem BesidePorts.ite {c : Prop} [Decidable c] {s a b : State} (h : BesidePorts s a) (g : BesidePorts s b) :
    BesidePorts s (if c then a else b) := by
  split <;> assumption

section
variable {s s' : State} (h : BesidePorts s s')
include h

theorem BesidePorts.wr {f : Fld} (hf : f ∈ besideFlds) (n : Nat) : BesidePorts s (s'.wr f 0 n) :=
  h.trans ⟨rfl, (State.keeps_refl _ s').wr hf n⟩

theorem BesidePorts.updTwin (f : Twin → Twin) : BesidePorts s (s'.updTwin f) := h.trans ⟨rfl, (State.keeps_refl _ s').of_fv rfl⟩

theorem BesidePorts.setBeat (b : BeatState) : BesidePorts s { s' with beat := b } := h.trans ⟨rfl, (State.keeps_refl _ s').of_fv rfl⟩

theorem BesidePorts.noteFw (k value : Nat) : BesidePorts s (s'.noteFw k value) := by
  obtain ⟨rest, regs⟩ := s'.note_scbOnly (Config.firmwareCode k).toNat value
  exact h.trans ⟨by rw [State.noteFw, rest], regs.mono (List.map_subset _ (List.subset_append_left _ _))⟩

/-- A HOLD that the module issues changes the beat alone (R263). -/
theorem BesidePorts.requestHold : BesidePorts s s'.requestHold := by
  unfold State.requestHold
  refine h.trans (.ite (.refl s') ?_)
  rw [State.issue_eq]
  obtain ⟨-, -, rest⟩ := State.applyMsg_beat (s := s'.passOn ⟨1, s'.selfIndex, s'.targetFrame⟩) (m := ⟨1, s'.selfIndex, s'.targetFrame⟩)
    (.inl (show 1 < 4 by decide))
  rw [rest]
  exact (BesidePorts.refl s').setBeat _

theorem BesidePorts.checkRoutes : BesidePorts s s'.checkRoutes := .ite (h.requestHold.wr (by decide) 1) h

theorem BesidePorts.setTwin (v : Nat) : BesidePorts s (s'.setTwin v) := .ite ((h.wr (by decide) v).wr (by decide) 1) (h.wr (by decide) v)

theorem BesidePorts.declareLoss : BesidePorts s s'.declareLoss := by
  have taken := ((((h.setTwin 4).wr (f := F.ATT_PENDING_PARTNER_LOST) (by decide) 1).wr (f := F.TWN_CTL_TAKEOVER) (by decide) 0).wr
    (f := F.TWN_TAKEOVER_LOST_BEAT) (by decide) (s'.beatNow % 2 ^ 32)).updTwin
    (fun w => { w with lostAt := some s'.beatNow, late := [], rxBad := true })
  exact .ite (((h.setTwin 6).wr (by decide) 0).updTwin _) (.ite (taken.wr (f := F.TWN_COUNT_TAKEOVERS) (by decide) _).requestHold h)

theorem BesidePorts.checkLoss : BesidePorts s s'.checkLoss := .ite h (.ite ((h.wr (by decide) 1).wr (by decide) 1) h.declareLoss)

theorem BesidePorts.mirrorDown (q : Nat) : BesidePorts s (s'.mirrorDown q) := .ite (h.updTwin _).checkLoss h

theorem BesidePorts.loseSource (q : Nat) : BesidePorts s (s'.loseSource q) := .ite (((h.wr (by decide) 2).wr (by decide) 1).setBeat _) h

theorem BesidePorts.rd {f : Fld} {i : Nat} (id : f.id ∉ besideFlds.map Fld.id) (small : i < 65536) : s'.rd f i = s.rd f i :=
  h.2.rd_of_id id small (by decide)

end

end Sys2Proof.Machine
end

section
/-! SUPPORT. A port that drops what it holds, goes DOWN, or trains afresh (R322, R323). -/

namespace Sys2Proof.Machine

/-! ### What is not a port's or a memory's -/

/-- The memories and the ports are as they were. -/
structure KeepsStores (s s' : State) : Prop where
  mem : s'.mem = s.mem
  ts : s'.ts = s.ts
  ports : s'.ports = s.ports

theorem KeepsStores.refl (s : State) : KeepsStores s s := ⟨rfl, rfl, rfl⟩

section
variable {s s' : State} (h : KeepsStores s s')
include h

theorem KeepsStores.wr (f : Fld) (i n : Nat) : KeepsStores s (s'.wr f i n) := ⟨h.mem, h.ts, h.ports⟩
theorem KeepsStores.fpPush (kind part repair : Nat) : KeepsStores s (s'.fpPush kind part repair) := ⟨h.mem, h.ts, h.ports⟩

theorem KeepsStores.beside {a : State} (g : BesidePorts s' a) : KeepsStores s a := by
  obtain ⟨rest, -⟩ := g
  rw [rest]
  exact ⟨h.mem, h.ts, h.ports⟩

theorem KeepsStores.port (q : Nat) : s'.port q = s.port q := by
  unfold State.port
  rw [h.ports]

end

/-! ### What a port holds is dropped -/

/-- From s to s' port q has dropped its cells and streams, and the memories are as they were. -/
structure Drops (q : Nat) (s s' : State) : Prop where
  held : (s'.port q).held = []
  sent : (s'.port q).sent = []
  streams : (s'.port q).streams = []
  mem : s'.mem = s.mem
  ts : s'.ts = s.ts

theorem Drops.stores {q : Nat} {s a b : State} (h : Drops q s a) (g : KeepsStores a b) : Drops q s b := by
  obtain ⟨held, sent, streams, mem, ts⟩ := h
  have port := g.port q
  exact ⟨port ▸ held, port ▸ sent, port ▸ streams, g.mem.trans mem, g.ts.trans ts⟩

theorem Drops.trans {q : Nat} {s a b : State} (h : Drops q s a) (g : Drops q a b) : Drops q s b :=
  ⟨g.held, g.sent, g.streams, g.mem.trans h.mem, g.ts.trans h.ts⟩

theorem KeepsStores.drops {q : Nat} {s a b : State} (h : KeepsStores s a) (g : Drops q a b) : Drops q s b :=
  ⟨g.held, g.sent, g.streams, g.mem.trans h.mem, g.ts.trans h.ts⟩

section
variable (s : State) (q : Nat)

/-- Only what the port holds and what the twin pair expects change (R421). -/
theorem State.clearPort_eq : ∃ (tw : Twin) (p : PortState), p.held = [] ∧ p.sent = [] ∧ p.streams = [] ∧
    s.clearPort q = ({ s with twin := tw } : State).updPort q (fun _ => p) := by
  unfold State.clearPort
  dsimp only
  split
  · exact ⟨_, _, rfl, rfl, rfl, rfl⟩
  · exact ⟨s.twin, _, rfl, rfl, rfl, rfl⟩

theorem State.clearPort_drops : Drops q s (s.clearPort q) := by
  obtain ⟨tw, p, held, sent, streams, eq⟩ := s.clearPort_eq q
  have port : (s.clearPort q).port q = p := by rw [eq, State.port_updPort_same]
  exact ⟨port ▸ held, port ▸ sent, port ▸ streams, by rw [eq]; rfl, by rw [eq]; rfl⟩

theorem State.clearPort_keepsPorts : KeepsPorts q s (s.clearPort q) := by
  obtain ⟨tw, p, -, -, -, eq⟩ := s.clearPort_eq q
  rw [eq]
  exact fun _ other => State.port_updPort_ne { s with twin := tw } _ other

theorem State.clearPort_fv : (s.clearPort q).fv = s.fv := by
  obtain ⟨tw, p, -, -, -, eq⟩ := s.clearPort_eq q
  rw [eq]
  rfl

end

/-! ### Training begins -/

section
variable (s : State) (q : Nat)

/-- The fields of a port that say how far its training is. -/
def trainFlds : List Fld := [F.LNK_STATUS_TRAINING, F.LNK_STATUS_ATTEMPTS, F.LNK_STATUS_SESSION]

theorem State.trainPort_sets :
    Sets [(F.LNK_STATUS_TRAINING, q, 1), (F.LNK_STATUS_ATTEMPTS, q, 0), (F.LNK_STATUS_SESSION, q, 0)] s (s.trainPort q) := by
  have training := ((Sets.refl s).of_fv (s.clearPort_fv q)).wr F.LNK_STATUS_TRAINING q 1 (by decide) (by simp)
  have attempts := training.wr F.LNK_STATUS_ATTEMPTS q 0 (by decide) (by simpa using Fld.key_ne_same (by decide) q)
  have session := attempts.wr F.LNK_STATUS_SESSION q 0 (by decide)
    (by simpa using ⟨Fld.key_ne_same (by decide) q, Fld.key_ne_same (by decide) q⟩)
  exact session.of_mem_iff fun _ => (List.mem_reverse (as := [_, _, _])).symm

theorem State.trainPort_stores : KeepsStores (s.clearPort q) (s.trainPort q) := (((KeepsStores.refl _).wr _ _ _).wr _ _ _).wr _ _ _

theorem State.trainPort_keepsPorts : KeepsPorts q s (s.trainPort q) := (s.clearPort_keepsPorts q).of_ports (s.trainPort_stores q).ports

theorem State.trainPort_drops : Drops q s (s.trainPort q) := (s.clearPort_drops q).stores (s.trainPort_stores q)

end

/-! ### A port goes DOWN -/

/-- The fields of a port that say that it is DOWN. -/
def downFlds : List Fld := [F.LNK_STATUS_DOWN_REASON, F.LNK_STATUS_SESSION, F.LNK_STATUS_STATE]

section
variable (s : State) (q reason : Nat)

/-- A port DOWN with a reason, before its partner is missed. -/
def State.portClosed : State :=
  ((((s.clearPort q).wr F.LNK_STATUS_STATE q 0).wr F.LNK_STATUS_SESSION q 0).wr F.LNK_STATUS_DOWN_REASON q reason).fpPush 3 q 0

theorem State.portDown_beside : BesidePorts (s.portClosed q reason) (s.portDown q reason) :=
  (BesidePorts.refl (s.portClosed q reason)).mirrorDown q

theorem State.portDown_drops : Drops q s (s.portDown q reason) := by
  have closed : KeepsStores (s.clearPort q) (s.portClosed q reason) := ((((KeepsStores.refl _).wr _ _ _).wr _ _ _).wr _ _ _).fpPush _ _ _
  exact (s.clearPort_drops q).stores (closed.beside (s.portDown_beside q reason))

theorem State.portClosed_sets :
    Sets [(F.LNK_STATUS_DOWN_REASON, q, reason % 16), (F.LNK_STATUS_SESSION, q, 0), (F.LNK_STATUS_STATE, q, 0)] s (s.portClosed q reason) := by
  have state := ((Sets.refl s).of_fv (s.clearPort_fv q)).wr F.LNK_STATUS_STATE q 0 (by decide) (by simp)
  have session := state.wr F.LNK_STATUS_SESSION q 0 (by decide) (by simpa using Fld.key_ne_same (by decide) q)
  exact (session.wr F.LNK_STATUS_DOWN_REASON q reason (by decide)
    (by simpa using ⟨Fld.key_ne_same (by decide) q, Fld.key_ne_same (by decide) q⟩)).of_fv rfl

variable {q} (small : q < 65536)
include small

theorem State.rd_portDown_state : (s.portDown q reason).rd F.LNK_STATUS_STATE q = 0 := by
  obtain ⟨values, -⟩ := s.portClosed_sets q reason
  exact ((s.portDown_beside q reason).rd (by decide) small).trans (values (F.LNK_STATUS_STATE, q, 0) (by simp))

theorem State.rd_portDown_reason (fits : reason < 16) : (s.portDown q reason).rd F.LNK_STATUS_DOWN_REASON q = reason := by
  obtain ⟨values, -⟩ := s.portClosed_sets q reason
  have shown : (s.portClosed q reason).rd F.LNK_STATUS_DOWN_REASON q = reason % 16 := values (F.LNK_STATUS_DOWN_REASON, q, _) (by simp)
  exact (((s.portDown_beside q reason).rd (by decide) small).trans shown).trans (Nat.mod_eq_of_lt fits)

theorem State.rd_portDown_other {f : Fld} {i : Nat} (beside : f.id ∉ besideFlds.map Fld.id) (id : f.id ∉ downFlds.map Fld.id)
    (hi : i < 65536) : (s.portDown q reason).rd f i = s.rd f i := by
  obtain ⟨-, others⟩ := s.portClosed_sets q reason
  exact ((s.portDown_beside q reason).rd beside hi).trans (KeepsRegs.rd_of_id (fs := downFlds) others id hi small)

end

/-! ### A port trains afresh -/

/-- From s to s' port q has gone DOWN, dropped what it held and begun to train; the memories are as they were. -/
def Retrained (q : Nat) (s s' : State) : Prop :=
  s'.rd F.LNK_STATUS_STATE q = 0 ∧ s'.rd F.LNK_STATUS_SESSION q = 0 ∧ s'.rd F.LNK_STATUS_TRAINING q = 1 ∧ s'.rd F.LNK_STATUS_ATTEMPTS q = 0 ∧
  (s'.port q).held = [] ∧ (s'.port q).sent = [] ∧ (s'.port q).streams = [] ∧ s'.mem = s.mem ∧ s'.ts = s.ts

/-- A port that has been counted as retrained and trains. -/
def State.trainCounted (s : State) (q : Nat) : State := (s.sat F.LNK_STATUS_RETRAINS q 1).trainPort q

/-- What follows the loss of a port in service: it trains afresh, a beat that came by it is in holdover, and routes may be short (R249, R259,
R323). -/
def State.trainAfresh (s : State) (q : Nat) : State := ((s.trainCounted q).loseSource q).checkRoutes

section
variable (s : State) (q : Nat)

theorem State.trainAfresh_beside : BesidePorts (s.trainCounted q) (s.trainAfresh q) :=
  ((BesidePorts.refl (s.trainCounted q)).loseSource q).checkRoutes

theorem State.trainAfresh_drops : Drops q s (s.trainAfresh q) := by
  have counted : KeepsStores s (s.sat F.LNK_STATUS_RETRAINS q 1) := (KeepsStores.refl s).wr _ _ _
  exact (counted.drops (State.trainPort_drops _ q)).stores ((KeepsStores.refl _).beside (s.trainAfresh_beside q))

variable {q} (small : q < 65536)
include small

theorem State.rd_trainAfresh_other {f : Fld} {i : Nat} (beside : f.id ∉ besideFlds.map Fld.id) (id : f.id ∉ trainFlds.map Fld.id)
    (count : f.id ≠ F.LNK_STATUS_RETRAINS.id) (hi : i < 65536) : (s.trainAfresh q).rd f i = s.rd f i := by
  obtain ⟨-, others⟩ := (s.sat F.LNK_STATUS_RETRAINS q 1).trainPort_sets q
  calc (s.trainAfresh q).rd f i
      = (s.trainCounted q).rd f i := (s.trainAfresh_beside q).rd beside hi
    _ = (s.sat F.LNK_STATUS_RETRAINS q 1).rd f i := KeepsRegs.rd_of_id (fs := trainFlds) others id hi small
    _ = s.rd f i := State.rd_wr_id s f F.LNK_STATUS_RETRAINS i q _ count hi small

theorem State.trainAfresh_retrained {a : State} (dropped : Drops q s a) (down : a.rd F.LNK_STATUS_STATE q = 0) :
    Retrained q s (a.trainAfresh q) := by
  have after := a.trainAfresh_beside q
  obtain ⟨values, -⟩ := (a.sat F.LNK_STATUS_RETRAINS q 1).trainPort_sets q
  obtain ⟨held, sent, streams, mem, ts⟩ := dropped.trans (a.trainAfresh_drops q)
  refine ⟨?_, ?_, ?_, ?_, held, sent, streams, mem, ts⟩
  · exact (a.rd_trainAfresh_other small (by decide) (by decide) (by decide) small).trans down
  · exact (after.rd (by decide) small).trans (values (F.LNK_STATUS_SESSION, q, 0) (by simp))
  · exact (after.rd (by decide) small).trans (values (F.LNK_STATUS_TRAINING, q, 1) (by simp))
  · exact (after.rd (by decide) small).trans (values (F.LNK_STATUS_ATTEMPTS, q, 0) (by simp))

end

/-! ### Lock or session lost (R323), a retrain and a port held DOWN (R328) -/

/-- A port in service that is lost: DOWN, with LINK attention, and recorded. -/
def State.portGone (s : State) (q reason : Nat) : State := ((s.portDown q reason).attn F.ATT_PENDING_PORT_DOWN).noteFw 4 q

section
variable (s : State) (q reason : Nat)

theorem State.portGone_beside :
    BesidePorts ((s.portDown q reason).attn F.ATT_PENDING_PORT_DOWN) (s.portGone q reason) := (BesidePorts.refl _).noteFw 4 q

theorem State.portGone_drops : Drops q s (s.portGone q reason) :=
  (s.portDown_drops q reason).stores (((KeepsStores.refl _).wr F.ATT_PENDING_PORT_DOWN 0 1).beside (s.portGone_beside q reason))

variable {s q reason} (small : q < 65536)
include small

theorem State.rd_portGone {f : Fld} (beside : f.id ∉ besideFlds.map Fld.id) (id : f.id ≠ F.ATT_PENDING_PORT_DOWN.id) :
    (s.portGone q reason).rd f q = (s.portDown q reason).rd f q :=
  ((s.portGone_beside q reason).rd beside small).trans (State.rd_wr_id _ f F.ATT_PENDING_PORT_DOWN q 0 1 id small (by decide))

theorem State.portLost_spec (up : s.portUp q = true) (fits : reason < 16) :
    Retrained q s (s.portLost q reason) ∧ (s.portLost q reason).rd F.LNK_STATUS_DOWN_REASON q = reason ∧
    (s.portLost q reason).rd F.ATT_PENDING_PORT_DOWN 0 = 1 := by
  have lost : s.portLost q reason = (s.portGone q reason).trainAfresh q := if_pos up
  have down := (State.rd_portGone small (by decide) (by decide)).trans (s.rd_portDown_state reason small)
  have attn : (s.portGone q reason).rd F.ATT_PENDING_PORT_DOWN 0 = 1 :=
    ((s.portGone_beside q reason).rd (by decide) (by decide)).trans (State.rd_wr_same _ F.ATT_PENDING_PORT_DOWN 0 1 (by decide))
  rw [lost]
  refine ⟨s.trainAfresh_retrained small (s.portGone_drops q reason) down, ?_,
    (State.rd_trainAfresh_other _ small (by decide) (by decide) (by decide) (by decide)).trans attn⟩
  rw [State.rd_trainAfresh_other _ small (by decide) (by decide) (by decide) small, State.rd_portGone small (by decide) (by decide)]
  exact s.rd_portDown_reason reason small fits

/-- RETRAIN set at a port in service. -/
theorem State.linkRetrain_spec (up : s.portUp q = true) (idle : s.rd F.LNK_CTL_RETRAIN q = 0) (enabled : s.rd F.LNK_CTL_DISABLE q = 0) :
    Retrained q s (s.linkRetrain q) ∧ (s.linkRetrain q).rd F.LNK_CTL_RETRAIN q = 1 := by
  let a := s.wr F.LNK_CTL_RETRAIN q 1
  have acts : ¬(s.rd F.LNK_CTL_RETRAIN q = 1 ∨ s.rd F.LNK_CTL_DISABLE q = 1) := by omega
  have trains : s.linkRetrain q = (a.portDown q 0).trainAfresh q := (if_neg acts).trans (if_pos up)
  have dropped : Drops q s (a.portDown q 0) := ((KeepsStores.refl s).wr _ _ _).drops (a.portDown_drops q 0)
  rw [trains]
  refine ⟨s.trainAfresh_retrained small dropped (a.rd_portDown_state 0 small), ?_⟩
  rw [State.rd_trainAfresh_other _ small (by decide) (by decide) (by decide) small, a.rd_portDown_other 0 small (by decide) (by decide) small]
  exact State.rd_wr_same s _ q 1 (by decide)

end

end Sys2Proof.Machine
end

section
/-! SUPPORT. How a training attempt ends (R322, R442, R446), and a port held DOWN by DISABLE (R328). -/

namespace Sys2Proof.Machine

/-- Another field of the same copy reads as before. -/
theorem State.rd_wr_field (s : State) {f g : Fld} (id : f.id ≠ g.id) (i n : Nat) : (s.wr g i n).rd f i = s.rd f i :=
  State.rd_wr_ne s f g i i n (Fld.key_ne_same id i)

theorem State.rd_fpPush (s : State) (kind part repair : Nat) (f : Fld) (i : Nat) : (s.fpPush kind part repair).rd f i = s.rd f i := rfl

/-! ### A measurement register extended (R442) -/

section
variable (s : State) (n : Nat) (d : BitVec 256)

/-- The quoin's measurement registers with one extended. -/
def State.measExtended : List (BitVec 256) := s.quoin.meas.set n (Config.sm3 (digestBytes (s.quoin.meas.getD n 0) ++ digestBytes d))

theorem State.showMeas_regs : SameButRegs s (s.showMeas n d) :=
  List.foldlRecOn _ _ (SameButRegs.refl s) fun _ regs _ _ => regs.wr _ _ _

theorem State.extendMeas_regs : SameButRegs { s with quoin := { s.quoin with meas := s.measExtended n d } } (s.extendMeas n d) :=
  State.showMeas_regs _ n _

theorem State.rd_extendMeas {f : Fld} {i : Nat} (id : f.id ≠ F.QUO_MEAS_VALUE.id) (hn : n < 16) (hi : i < 65536) :
    (s.extendMeas n d).rd f i = s.rd f i := by
  refine List.foldlRecOn (motive := fun a : State => a.rd f i = s.rd f i) _ _ (State.rd_of_fv rfl f i) fun a kept w hw => ?_
  have word := List.mem_range.1 hw
  exact (State.rd_wr_id a f F.QUO_MEAS_VALUE i (8 * n + w) _ id hi (by omega)).trans kept

end

/-! ### Training ends -/

/-- Training is over, and RETRAIN with it. -/
def State.stopTraining (s : State) (q : Nat) : State := (s.wr F.LNK_STATUS_TRAINING q 0).wr F.LNK_CTL_RETRAIN q 0

section
variable (s : State) (q : Nat)

theorem State.stopTraining_regs : SameButRegs s (s.stopTraining q) := ((SameButRegs.refl s).wr _ _ _).wr _ _ _

theorem State.rd_stopTraining_training : (s.stopTraining q).rd F.LNK_STATUS_TRAINING q = 0 :=
  (State.rd_wr_field _ (by decide) q 0).trans (State.rd_wr_same s _ q 0 (by decide))

theorem State.rd_stopTraining_retrain : (s.stopTraining q).rd F.LNK_CTL_RETRAIN q = 0 := State.rd_wr_same _ _ q 0 (by decide)

variable {q} (small : q < 65536)
include small

theorem State.rd_stopTraining_other {f : Fld} {i : Nat} (training : f.id ≠ F.LNK_STATUS_TRAINING.id) (retrain : f.id ≠ F.LNK_CTL_RETRAIN.id)
    (hi : i < 65536) : (s.stopTraining q).rd f i = s.rd f i :=
  (State.rd_wr_id _ f F.LNK_CTL_RETRAIN i q 0 retrain hi small).trans (State.rd_wr_id s f F.LNK_STATUS_TRAINING i q 0 training hi small)

end

/-! ### A good attempt -/

/-- What an attempt at full width finds: X4 without the spare lane. -/
theorem State.attempt_of_full {s : State} {q : Nat} {r : TrainResult} (lanes : r.lanes = 15) (session : r.session = true)
    (owned : s.rd F.QUO_STATUS_OWNED 0 ≠ 0) (random : s.rd F.QUO_STATUS_TRNG_OK 0 ≠ 0) (near : r.lambda ≤ 2208) :
    s.attempt q r = .ok (1, none) := by
  have four : popCount 4 r.lanes.toNat = 4 := by rw [lanes]; decide
  have inClass : ¬cellLat 15 < r.lambda + 32 := by unfold cellLat; omega
  simp [State.attempt, four, session, owned, random, inClass]

/-- What an attempt without lanes finds. -/
theorem State.attempt_of_no_lanes {s : State} {q : Nat} {r : TrainResult} (lanes : r.lanes = 0) (noSpare : r.spare = false)
    (noErrors : r.ber = false) : s.attempt q r = .error 1 := by
  have noLane : popCount 4 r.lanes.toNat = 0 := by rw [lanes]; decide
  simp [State.attempt, noLane, noSpare, noErrors]

section
variable (s : State) (q : Nat) (r : TrainResult)

/-- An attempt counted, whose outcome changes what the port knows. -/
def State.attempted (f : PortState → PortState) : State :=
  (s.wr F.LNK_STATUS_ATTEMPTS q (s.rd F.LNK_STATUS_ATTEMPTS q + 1)).updPort q f

theorem State.attempted_eq (f : PortState → PortState) : ∃ m, s.attempted q f = { s.updPort q f with fv := m } := ⟨_, rfl⟩

/-- A port joined to a partner on its own lanes. -/
def PortState.joined (partner : BitVec 64) (p : PortState) : PortState := { p with spare := none, partner := partner.toNat, noSession := false }

/-- A port in service at X4, with what its training has found. -/
def State.inService : State :=
  (((((s.attempted q (PortState.joined r.partner)).wr F.LNK_STATUS_STATE q 1).wr F.LNK_STATUS_LAT_CLASS q (latClass r.lambda)).wr
    F.LNK_STATUS_LAMBDA q r.lambda).wr F.LNK_STATUS_SESSION q 1).wr F.LNK_STATUS_DOWN_REASON q 0

/-- What the measurement register of links is extended with: the partner and the port (R442). -/
def linkMeas (q : Nat) (r : TrainResult) : BitVec 256 := Config.sm3 (leBytes 8 r.partner.toNat ++ leBytes 1 q)

/-- A port in service whose partner is measured. -/
def State.partnerMeasured : State := ((s.inService q r).extendMeas 11 (linkMeas q r)).fpPush 3 q 0

theorem State.inService_eq : ∃ m, s.inService q r = { s.updPort q (PortState.joined r.partner) with fv := m } := by
  have regs : SameButRegs (s.attempted q (PortState.joined r.partner)) (s.inService q r) :=
    (((((SameButRegs.refl _).wr _ _ _).wr _ _ _).wr _ _ _).wr _ _ _).wr _ _ _
  obtain ⟨m, attempted⟩ := s.attempted_eq q (PortState.joined r.partner)
  rw [attempted] at regs
  exact ⟨_, regs⟩

theorem State.partnerMeasured_eq : ∃ m, s.partnerMeasured q r =
    { s.updPort q (PortState.joined r.partner) with
      fv := m, quoin := { s.quoin with meas := s.measExtended 11 (linkMeas q r) }, fpPend := s.fpPend ++ [⟨3, q, 0, 0, s.now⟩] } := by
  obtain ⟨m, service⟩ := s.inService_eq q r
  unfold State.partnerMeasured
  rw [State.extendMeas_regs, service]
  exact ⟨_, rfl⟩

theorem State.rd_partnerMeasured {f : Fld} (id : f.id ≠ F.QUO_MEAS_VALUE.id) (small : q < 65536) :
    (s.partnerMeasured q r).rd f q = (s.inService q r).rd f q :=
  (State.rd_fpPush _ 3 q 0 f q).trans (State.rd_extendMeas _ 11 _ id (by decide) small)

end

theorem State.twinRec_of_bond {a b : State} (h : b.bond = a.bond) : b.twinRec = a.twinRec := by
  unfold State.twinRec State.sectionBody State.sectionLost State.section?
  rw [h]

theorem State.mirrorPorts_of_no_twin {s : State} (alone : s.twinRec = none) : s.mirrorPorts = [] := by
  unfold State.mirrorPorts
  rw [alone]

section
variable (s : State) (q : Nat) (r : TrainResult)

/-- A port in service, and the module past what follows from it (R259). -/
def State.trained : State := (s.partnerMeasured q r).checkRoutes.stopTraining q

theorem State.trained_beside : BesidePorts (s.partnerMeasured q r) (s.partnerMeasured q r).checkRoutes := (BesidePorts.refl _).checkRoutes

theorem State.trained_bond : (s.trained q r).bond = s.bond := by
  obtain ⟨m, measured⟩ := s.partnerMeasured_eq q r
  unfold State.trained
  rw [State.stopTraining_regs, (s.trained_beside q r).1, measured]
  rfl

theorem State.trained_meas : (s.trained q r).quoin.meas = s.measExtended 11 (linkMeas q r) := by
  obtain ⟨m, measured⟩ := s.partnerMeasured_eq q r
  unfold State.trained
  rw [State.stopTraining_regs, (s.trained_beside q r).1, measured]

theorem State.trained_partner : ((s.trained q r).port q).partner = r.partner.toNat := by
  obtain ⟨m, measured⟩ := s.partnerMeasured_eq q r
  have port : (s.trained q r).port q = (s.updPort q (PortState.joined r.partner)).port q := by
    unfold State.trained
    rw [State.stopTraining_regs, (s.trained_beside q r).1, measured]
    rfl
  rw [port, State.port_updPort_same]
  rfl

end

/-- A failed third attempt: the port is DOWN with the reason of the failure. -/
def State.trainFailed (s : State) (q reason : Nat) : State :=
  ((s.attempted q (fun p => { p with noSession := reason == 4 })).portDown q reason).stopTraining q

section
variable {s : State} {q : Nat} {r : TrainResult} (training : s.rd F.LNK_STATUS_TRAINING q = 1) (enabled : s.rd F.LNK_CTL_DISABLE q = 0)
  (signal : r.signal = true)
include training enabled signal

theorem State.trainEnd_of_good (good : s.attempt q r = .ok (1, none)) (alone : s.twinRec = none) : s.trainEnd q r = s.trained q r := by
  have noMirror : (s.trained q r).mirrorPorts = [] :=
    State.mirrorPorts_of_no_twin ((State.twinRec_of_bond (s.trained_bond q r)).trans alone)
  have pairs : (if (s.trained q r).mirrorPorts.contains q then (s.trained q r).tryPair else s.trained q r) = s.trained q r := by
    rw [noMirror]
    rfl
  unfold State.trainEnd
  simp only [training, enabled, signal, good]
  exact pairs

theorem State.trainEnd_of_third {reason : Nat} (fails : s.attempt q r = .error reason) (third : s.rd F.LNK_STATUS_ATTEMPTS q = 2) :
    s.trainEnd q r = s.trainFailed q reason := by
  have three : 3 ≤ (s.wr F.LNK_STATUS_ATTEMPTS q 3).rd F.LNK_STATUS_ATTEMPTS q := by
    rw [State.rd_wr_same _ _ _ _ (by decide)]
    decide
  unfold State.trainEnd State.trainFailed State.attempted
  simp only [training, enabled, signal, fails, third]
  exact if_pos three

end

section
variable (s : State) {q : Nat} (r : TrainResult) (small : q < 65536)
include small

/-- A field that shows what training has found reads after it as the port in service shows it. -/
theorem State.rd_trained {f : Fld} (meas : f.id ≠ F.QUO_MEAS_VALUE.id) (beside : f.id ∉ besideFlds.map Fld.id)
    (training : f.id ≠ F.LNK_STATUS_TRAINING.id) (retrain : f.id ≠ F.LNK_CTL_RETRAIN.id) :
    (s.trained q r).rd f q = (s.inService q r).rd f q :=
  calc (s.trained q r).rd f q
      = (s.partnerMeasured q r).checkRoutes.rd f q := State.rd_stopTraining_other _ small training retrain small
    _ = (s.partnerMeasured q r).rd f q := (s.trained_beside q r).rd beside small
    _ = (s.inService q r).rd f q := s.rd_partnerMeasured q r meas small

/-- What the registers of a port trained at full width show. -/
theorem State.trained_shows (near : r.lambda ≤ 2208) :
    (s.trained q r).rd F.LNK_STATUS_STATE q = 1 ∧ (s.trained q r).rd F.LNK_STATUS_LAT_CLASS q = ceilDiv (r.lambda - 288) 128 ∧
    (s.trained q r).rd F.LNK_STATUS_LAMBDA q = r.lambda ∧ (s.trained q r).rd F.LNK_STATUS_SESSION q = 1 ∧
    (s.trained q r).rd F.LNK_STATUS_DOWN_REASON q = 0 := by
  have cls : latClass r.lambda % 2 ^ F.LNK_STATUS_LAT_CLASS.w = ceilDiv (r.lambda - 288) 128 := by
    have width : F.LNK_STATUS_LAT_CLASS.w = 4 := rfl
    unfold latClass ceilDiv
    rw [width]
    omega
  have lambda : r.lambda % 2 ^ F.LNK_STATUS_LAMBDA.w = r.lambda := Nat.mod_eq_of_lt (Nat.lt_of_le_of_lt near (by decide))
  simp (disch := decide) only [State.rd_trained s r small]
  unfold State.inService
  simp (disch := decide) only [State.rd_wr_same, State.rd_wr_field]
  exact ⟨rfl, cls, lambda, rfl, rfl⟩

/-- What the registers of a port whose third attempt failed show. -/
theorem State.trainFailed_shows {reason : Nat} (fits : reason < 16) (third : s.rd F.LNK_STATUS_ATTEMPTS q = 2) :
    (s.trainFailed q reason).rd F.LNK_STATUS_STATE q = 0 ∧ (s.trainFailed q reason).rd F.LNK_STATUS_DOWN_REASON q = reason ∧
    (s.trainFailed q reason).rd F.LNK_STATUS_TRAINING q = 0 ∧ (s.trainFailed q reason).rd F.LNK_STATUS_ATTEMPTS q = 3 := by
  let a := s.attempted q (fun p => { p with noSession := reason == 4 })
  have counted : a.rd F.LNK_STATUS_ATTEMPTS q = 3 := by
    have written : a.rd F.LNK_STATUS_ATTEMPTS q = (s.rd F.LNK_STATUS_ATTEMPTS q + 1) % 2 ^ F.LNK_STATUS_ATTEMPTS.w :=
      State.rd_wr_same s _ q _ (by decide)
    rw [written, third]
    rfl
  refine ⟨?_, ?_, State.rd_stopTraining_training _ q, ?_⟩
  · exact (State.rd_stopTraining_other _ small (by decide) (by decide) small).trans (a.rd_portDown_state reason small)
  · exact (State.rd_stopTraining_other _ small (by decide) (by decide) small).trans (a.rd_portDown_reason reason small fits)
  · exact ((State.rd_stopTraining_other _ small (by decide) (by decide) small).trans
      (a.rd_portDown_other reason small (by decide) (by decide) small)).trans counted

end

/-! ### DISABLE at a port in service (R328) -/

/-- A port in service with DISABLE set and LINK attention. -/
def State.disableShown (s : State) (q : Nat) : State := (s.wr F.LNK_CTL_DISABLE q 1).attn F.ATT_PENDING_PORT_DOWN

/-- A port held DOWN, with no training. -/
def State.portHeld (s : State) (q : Nat) : State := ((s.disableShown q).portDown q 6).stopTraining q

/-- What follows for the module from a port held DOWN (R249, R259). -/
def State.portDisabled (s : State) (q : Nat) : State := ((s.portHeld q).loseSource q).checkRoutes

theorem execPortDisable_of_up {t : Nat} {q : PortIx} {s : State} (up : (s.tick t).portUp q = true) :
    execPortDisable t q s = .next ((s.tick t).portDisabled q) := by
  have still : ((s.tick t).wr F.LNK_CTL_DISABLE q 1).portUp q = true := by
    unfold State.portUp at up ⊢
    rw [State.rd_wr_field _ (by decide)]
    exact up
  unfold execPortDisable
  simp only [still, if_true]
  rfl

section
variable (s : State) (q : Nat)

theorem State.portDisabled_beside : BesidePorts (s.portHeld q) (s.portDisabled q) := ((BesidePorts.refl _).loseSource q).checkRoutes

theorem State.portDisabled_drops : Drops q s (s.portDisabled q) := by
  have shown : KeepsStores s (s.disableShown q) := ((KeepsStores.refl s).wr _ _ _).wr _ _ _
  have held : KeepsStores ((s.disableShown q).portDown q 6) (s.portHeld q) := ((KeepsStores.refl _).wr _ _ _).wr _ _ _
  exact (shown.drops ((s.disableShown q).portDown_drops q 6)).stores (held.beside (s.portDisabled_beside q))

variable {q} (small : q < 65536)
include small

theorem State.rd_portDisabled {f : Fld} {i : Nat} (beside : f.id ∉ besideFlds.map Fld.id) (training : f.id ≠ F.LNK_STATUS_TRAINING.id)
    (retrain : f.id ≠ F.LNK_CTL_RETRAIN.id) (hi : i < 65536) : (s.portDisabled q).rd f i = ((s.disableShown q).portDown q 6).rd f i :=
  ((s.portDisabled_beside q).rd beside hi).trans (State.rd_stopTraining_other _ small training retrain hi)

theorem State.portDisabled_shows :
    (s.portDisabled q).rd F.LNK_STATUS_STATE q = 0 ∧ (s.portDisabled q).rd F.LNK_STATUS_DOWN_REASON q = 6 ∧
    (s.portDisabled q).rd F.LNK_CTL_DISABLE q = 1 ∧ (s.portDisabled q).rd F.LNK_STATUS_TRAINING q = 0 ∧
    (s.portDisabled q).rd F.ATT_PENDING_PORT_DOWN 0 = 1 := by
  have disabled : (s.disableShown q).rd F.LNK_CTL_DISABLE q = 1 :=
    (State.rd_wr_id _ _ F.ATT_PENDING_PORT_DOWN q 0 1 (by decide) small (by decide)).trans (State.rd_wr_same s _ q 1 (by decide))
  have attends : (s.disableShown q).rd F.ATT_PENDING_PORT_DOWN 0 = 1 := State.rd_wr_same _ F.ATT_PENDING_PORT_DOWN 0 1 (by decide)
  have training := ((s.portDisabled_beside q).rd (f := F.LNK_STATUS_TRAINING) (by decide) small).trans (State.rd_stopTraining_training _ q)
  refine ⟨?_, ?_, ?_, training, ?_⟩
  · rw [s.rd_portDisabled small (by decide) (by decide) (by decide) small, State.rd_portDown_state _ 6 small]
  · rw [s.rd_portDisabled small (by decide) (by decide) (by decide) small, State.rd_portDown_reason _ 6 small (by decide)]
  · rw [s.rd_portDisabled small (by decide) (by decide) (by decide) small, State.rd_portDown_other _ 6 small (by decide) (by decide) small,
      disabled]
  · rw [s.rd_portDisabled small (by decide) (by decide) (by decide) (by decide),
      State.rd_portDown_other _ 6 small (by decide) (by decide) (by decide), attends]

end

end Sys2Proof.Machine
end

section
namespace Sys2Proof
open Machine

/-- Settles O33: a good attempt is `State.trained`, a failed third `State.trainFailed`; a port that is lost or retrained goes DOWN and is
`State.trainAfresh`, and one held DOWN is `State.portDisabled`. What else a lost port touches is `BesidePorts`. -/
theorem portTraining : Obligations.PortTraining := by
  unfold Obligations.PortTraining
  intro t q s v retrained
  have small : q.val < 65536 := Nat.lt_trans q.isLt (by decide)
  refine ⟨fun untrained idle awake enabled powered => ?_,
    fun r training enabled signal lanes noSpare session owned random near alone => ?_,
    fun r training enabled signal lanes noSpare noErrors third _ => ?_,
    fun up => ⟨fun lock => ?_, fun tags => ?_, fun idle enabled => ?_, ?_⟩⟩
  · have run : exec (.partnerDetect t q) s = .next (v.trainPort q) :=
      congrArg Host.Outcome.next (if_pos ⟨untrained, idle, awake, enabled, powered⟩)
    obtain ⟨-, -, -, mem, ts⟩ := v.trainPort_drops q
    exact ⟨_, run, (v.trainPort_sets q).from_fv rfl, v.trainPort_keepsPorts q, mem, ts⟩
  · have good : v.attempt q r = .ok (1, none) := State.attempt_of_full lanes session owned random near
    have run : exec (.trainingAttemptEnd t q r) s = .next (v.trained q r) :=
      congrArg Host.Outcome.next (State.trainEnd_of_good (s := v) training enabled signal good alone)
    obtain ⟨state, cls, lambda, sess, reason⟩ := v.trained_shows r small near
    exact ⟨_, run, state, cls, lambda, sess, reason, State.rd_stopTraining_training _ q, State.rd_stopTraining_retrain _ q,
      v.trained_partner q r, v.trained_meas q r⟩
  · have fails : v.attempt q r = .error 1 := State.attempt_of_no_lanes lanes noSpare noErrors
    have run : exec (.trainingAttemptEnd t q r) s = .next (v.trainFailed q 1) :=
      congrArg Host.Outcome.next (State.trainEnd_of_third (s := v) training enabled signal fails third)
    exact ⟨_, run, v.trainFailed_shows small (by decide) third⟩
  · have run : exec (.portLockLoss t q) s = .next (v.portLost q 5) := congrArg Host.Outcome.next (if_pos lock)
    exact ⟨_, run, State.portLost_spec small up (by decide)⟩
  · have run : exec (.sessionDrop t q) s = .next (v.portLost q 4) := congrArg Host.Outcome.next (if_pos tags)
    exact ⟨_, run, State.portLost_spec small up (by decide)⟩
  · exact ⟨_, rfl, State.linkRetrain_spec small up idle enabled⟩
  · obtain ⟨state, reason, disabled, training, attends⟩ := v.portDisabled_shows small
    obtain ⟨held, -, -, mem, ts⟩ := v.portDisabled_drops q
    exact ⟨_, execPortDisable_of_up up, state, reason, disabled, training, attends, held, mem, ts⟩

end Sys2Proof
end
